-- ==== Sys2Proof/Word.lean ====
section
/-! DEFINITION. The word types of the LN9640, its unit numbers (R11), the token (R12, R98) and the
sparse table type in which the state keeps banks of like things. -/

namespace Sys2Proof

/-- A 32-bit data word or register (R64, R482). -/
abbrev Word := BitVec 32

/-- One byte, the smallest addressable unit (R7). -/
abbrev Byte := BitVec 8

/-- A position (global tile number) T0 to T255 (R11, R302). -/
abbrev TileN := Fin 256

/-- A region number (R11). -/
abbrev RegN := Fin 16

/-- A router number, 0 to 20 (R202). -/
abbrev RtrN := Fin 21

/-- A sparse table: keys strictly rising, no entry equal to what an absent key reads as. -/
abbrev SMap (α : Type) := List (Nat × α)

/-- A token: 32 data bits and the tags LAST, MARK, ERR and LATE (glossary of chapter 00, R98). -/
structure Tok where
  data : Word
  last : Bool
  mark : Bool
  err  : Bool
  late : Bool
  deriving DecidableEq, Repr

/-- Data 0 with all tags clear (R29 ZERO, R41 source 48). -/
def Tok.zero : Tok := ⟨0, false, false, false, false⟩

/-- A word with all four tags clear (R29). -/
def Tok.plain (w : Word) : Tok := ⟨w, false, false, false, false⟩

end Sys2Proof
end

