-- ==== Sys2Proof/Syntax.lean ====
section
/-! DEFINITION. The commands: one constructor for each row of the table of operations and events. A sequencer
row names its tile (physical number), the facet bit and slot of its word and its 21 operand bits (R92). A row that is a write of one
register names what the write carries; a row that is an event names the unit it happens to. Where an
operand is a pair, its second part is what the surroundings decide; the meaning's docstring says what. -/

namespace Sys2Proof

/-- A DMA channel: of the engine of region r, of the host port, or of the remote engine of Zilaek link z (R177, R403,
R438). -/
inductive ChanId where
  | region (r : RegN) (n : Fin 16)
  | host (n : Fin 32)
  | zilaek (z : Fin 6) (n : Fin 16)
  deriving DecidableEq, Repr

/-- A memory bank: of the tile that serves a position, or a logical bank of a region's memory (R142). -/
inductive BankRef where
  | tile (pos : TileN) (b : Fin 8)
  | region (r : RegN) (b : Fin 16)
  deriving DecidableEq, Repr

/-- The page of memory banks that a power command names. -/
inductive BankPage where
  | tile (pos : TileN)
  | region (r : RegN)
  deriving DecidableEq, Repr

/-- The bank that the field BANK names at a page: its low three bits at a tile's, all four at a region memory's (R174, R175). -/
def BankPage.ref : BankPage → Fin 16 → BankRef
  | .tile pos, b => .tile pos ⟨b.val % 8, Nat.mod_lt _ (by decide)⟩
  | .region r, b => .region r b

/-- What an interface's check finds in a packet: how many bits it corrects, at most one in each of the eight quarters of two
flits, and whether there is an error that it cannot correct (R221, R222, R224). -/
structure FlitCheck where
  corr : Fin 9
  bad  : Bool
  deriving DecidableEq, Repr

/-- The commands of the block. -/
inductive Instr where
  /-- NOP (R96): Sequencer instruction with no operation; it may issue a facet for all sixteen cells in its cycle. -/
  | seqNop (t : TileN) (fv : Bool) (fs : Fin 16) (o : BitVec 21)
  /-- ADD (R96): Sequencer instruction RD := RA + RB, 32-bit, wrapping. -/
  | seqAdd (t : TileN) (fv : Bool) (fs : Fin 16) (o : BitVec 21)
  /-- SUB (R96): Sequencer instruction RD := RA - RB. -/
  | seqSub (t : TileN) (fv : Bool) (fs : Fin 16) (o : BitVec 21)
  /-- AND (R96): Sequencer instruction RD := RA and RB. -/
  | seqAnd (t : TileN) (fv : Bool) (fs : Fin 16) (o : BitVec 21)
  /-- OR (R96): Sequencer instruction RD := RA or RB. -/
  | seqOr (t : TileN) (fv : Bool) (fs : Fin 16) (o : BitVec 21)
  /-- XOR (R96): Sequencer instruction RD := RA xor RB. -/
  | seqXor (t : TileN) (fv : Bool) (fs : Fin 16) (o : BitVec 21)
  /-- SHL (R96): shift left by the low five bits of RB. -/
  | seqShl (t : TileN) (fv : Bool) (fs : Fin 16) (o : BitVec 21)
  /-- SHR (R96): logical shift right. -/
  | seqShr (t : TileN) (fv : Bool) (fs : Fin 16) (o : BitVec 21)
  /-- SAR (R96): arithmetic shift right. -/
  | seqSar (t : TileN) (fv : Bool) (fs : Fin 16) (o : BitVec 21)
  /-- SLT (R96): RD := 1 when RA < RB signed, else 0. -/
  | seqSlt (t : TileN) (fv : Bool) (fs : Fin 16) (o : BitVec 21)
  /-- SLTU (R96): RD := 1 when RA < RB unsigned, else 0. -/
  | seqSltu (t : TileN) (fv : Bool) (fs : Fin 16) (o : BitVec 21)
  /-- MUL (R96): RD := low 32 bits of RA x RB. -/
  | seqMul (t : TileN) (fv : Bool) (fs : Fin 16) (o : BitVec 21)
  /-- ADDI (R96): add the sign-extended IMM11. -/
  | seqAddi (t : TileN) (fv : Bool) (fs : Fin 16) (o : BitVec 21)
  /-- ANDI (R96): and with the sign-extended IMM11. -/
  | seqAndi (t : TileN) (fv : Bool) (fs : Fin 16) (o : BitVec 21)
  /-- ORI (R96): or with the sign-extended IMM11. -/
  | seqOri (t : TileN) (fv : Bool) (fs : Fin 16) (o : BitVec 21)
  /-- XORI (R96): xor with the sign-extended IMM11. -/
  | seqXori (t : TileN) (fv : Bool) (fs : Fin 16) (o : BitVec 21)
  /-- SHLI (R96): shift left by an immediate count. -/
  | seqShli (t : TileN) (fv : Bool) (fs : Fin 16) (o : BitVec 21)
  /-- SHRI (R96): logical shift right by an immediate count. -/
  | seqShri (t : TileN) (fv : Bool) (fs : Fin 16) (o : BitVec 21)
  /-- SARI (R96): arithmetic shift right by an immediate count. -/
  | seqSari (t : TileN) (fv : Bool) (fs : Fin 16) (o : BitVec 21)
  /-- SLTI (R96): signed compare with the immediate. -/
  | seqSlti (t : TileN) (fv : Bool) (fs : Fin 16) (o : BitVec 21)
  /-- LUI (R96): RD := IMM16 << 16. -/
  | seqLui (t : TileN) (fv : Bool) (fs : Fin 16) (o : BitVec 21)
  /-- LI (R96): RD := sign-extended IMM16. -/
  | seqLi (t : TileN) (fv : Bool) (fs : Fin 16) (o : BitVec 21)
  /-- LLO (R96): RD[15:0] := IMM16, upper half unchanged. -/
  | seqLlo (t : TileN) (fv : Bool) (fs : Fin 16) (o : BitVec 21)
  /-- LD (R99): Sequencer load of a tile word through the fetch requester, with one extra stall cycle. -/
  | seqLd (t : TileN) (fv : Bool) (fs : Fin 16) (o : BitVec 21)
  /-- ST (R99): Sequencer store of RD to a tile word through the fetch requester, with one extra stall cycle. -/
  | seqSt (t : TileN) (fv : Bool) (fs : Fin 16) (o : BitVec 21)
  /-- BEQ (R105): Branch with two delay slots, taken when RA = RB. -/
  | seqBeq (t : TileN) (fv : Bool) (fs : Fin 16) (o : BitVec 21)
  /-- BNE (R105): Branch with two delay slots, taken when RA != RB. -/
  | seqBne (t : TileN) (fv : Bool) (fs : Fin 16) (o : BitVec 21)
  /-- BLT (R105): Branch with two delay slots, taken when RA < RB signed. -/
  | seqBlt (t : TileN) (fv : Bool) (fs : Fin 16) (o : BitVec 21)
  /-- BGE (R105): Branch with two delay slots, taken when RA >= RB signed. -/
  | seqBge (t : TileN) (fv : Bool) (fs : Fin 16) (o : BitVec 21)
  /-- BLTU (R105): Branch with two delay slots, taken when RA < RB unsigned. -/
  | seqBltu (t : TileN) (fv : Bool) (fs : Fin 16) (o : BitVec 21)
  /-- BGEU (R105): Branch with two delay slots, taken when RA >= RB unsigned. -/
  | seqBgeu (t : TileN) (fv : Bool) (fs : Fin 16) (o : BitVec 21)
  /-- J (R105): Jump to an absolute target after two delay slots. -/
  | seqJ (t : TileN) (fv : Bool) (fs : Fin 16) (o : BitVec 21)
  /-- JR (R105): Jump to RA[15:0] after two delay slots. -/
  | seqJr (t : TileN) (fv : Bool) (fs : Fin 16) (o : BitVec 21)
  /-- CALL (R107): Writes the return address to U0 and advances the window after two delay slots. -/
  | seqCall (t : TileN) (fv : Bool) (fs : Fin 16) (o : BitVec 21)
  /-- CALLR (R107): Call to RA[15:0], with the window advanced after the delay slots. -/
  | seqCallr (t : TileN) (fv : Bool) (fs : Fin 16) (o : BitVec 21)
  /-- RET (R107): Returns to M0[15:0]; the window retreats after two delay slots. -/
  | seqRet (t : TileN) (fv : Bool) (fs : Fin 16) (o : BitVec 21)
  /-- RETE (R128): Returns from an event to H0 at the level in H1 after two delay slots. -/
  | seqRete (t : TileN) (fv : Bool) (fs : Fin 16) (o : BitVec 21)
  /-- REPI (R108): Block repeat of the following body, COUNT times from the immediate. -/
  | seqRepi (t : TileN) (fv : Bool) (fs : Fin 16) (o : BitVec 21)
  /-- REPR (R108): Block repeat with the count taken from RA. -/
  | seqRepr (t : TileN) (fv : Bool) (fs : Fin 16) (o : BitVec 21)
  /-- IN (R100): Removes the head token of SEQIN into RD, stalling while SEQIN is empty. -/
  | seqIn (t : TileN) (fv : Bool) (fs : Fin 16) (o : BitVec 21)
  /-- OUT (R100): Writes RA with tags to the sequencer output register, crossbar source 44. -/
  | seqOut (t : TileN) (fv : Bool) (fs : Fin 16) (o : BitVec 21)
  /-- INTAG (R96): RD := tags of the token last removed by IN. -/
  | seqIntag (t : TileN) (fv : Bool) (fs : Fin 16) (o : BitVec 21)
  /-- PAGEI (R102): Enters a paging command with an immediate set and slot, stalling on a full queue. -/
  | seqPagei (t : TileN) (fv : Bool) (fs : Fin 16) (o : BitVec 21)
  /-- PAGER (R102): Enters a paging command with set and slot from RA. -/
  | seqPager (t : TileN) (fv : Bool) (fs : Fin 16) (o : BitVec 21)
  /-- WAITEV (R129): Idles the tile until the named event line is pending. -/
  | seqWaitev (t : TileN) (fv : Bool) (fs : Fin 16) (o : BitVec 21)
  /-- WAITEV_COMPLETE (R129): A waiting WAITEV completes in the cycle after its line is pending, issuing its facet once. -/
  | waitevComplete (t : TileN)
  /-- RDTIME (R101): Reads the low time-base word and latches the high word, or returns the latched high word. -/
  | seqRdtime (t : TileN) (fv : Bool) (fs : Fin 16) (o : BitVec 21)
  /-- SWEV (R103): Sets the pending bit of a software event line. -/
  | seqSwev (t : TileN) (fv : Bool) (fs : Fin 16) (o : BitVec 21)
  /-- HALT (R104): Executes its facet, then halts the tile and sets EVT_PEND.HALT. -/
  | seqHalt (t : TileN) (fv : Bool) (fs : Fin 16) (o : BitVec 21)
  /-- LEVEL_SWITCH (R126): The scheduler switches the tile to an eligible event's level in an idle switch cycle and fetches its handler. -/
  | levelSwitch (t : TileN)
  /-- TIMER_COMPARE (R133): An armed timer fires its event line when the time base reaches the compare value and disarms. -/
  | timerCompare (t : TileN) (n : Fin 2)
  /-- HOLDOFF_LIMIT (R130): The hold-off watchdog count reaches its limit and pulses line 36 once per run. -/
  | holdoffLimit (t : TileN)
  /-- STALL_LIMIT (R131): The stall watchdog count reaches its limit and pulses line 37 once per run. -/
  | stallLimit (t : TileN)
  /-- SPILL (R115): With fewer than two free windows, the spill engine writes the oldest resident frame to the spill area. -/
  | spill (t : TileN)
  /-- FILL (R116): With four or more free windows and spilled frames, the engine fills the newest spilled frame back. -/
  | fill (t : TileN)
  /-- PAGE (R47): TFCT.PAGE_CMD PAGE queues a paging command of a set into a slot. -/
  | page (t : TileN) (v : Word)
  /-- FLUSH (R54): TFCT.PAGE_CMD FLUSH discards every queued paging command not yet started. -/
  | flush (t : TileN)
  /-- PAGING_COMMAND_START (R48): The paging engine takes a command from the queue and reads, checks and stages the set. -/
  | pagingCommandStart (t : TileN)
  /-- PAGE_COMMIT (R50): At the end of staging the slot is replaced at one edge, status recorded and the page-done line pulsed. -/
  | pageCommit (t : TileN)
  /-- TSEQ_CTRL_HALT (R138): Writing TSEQ.CTRL.HALT = 1 halts the tile at the end of the current cycle. -/
  | tseqCtrlHalt (t : TileN)
  /-- TSEQ_CTRL_RESUME (R118): Writing TSEQ.CTRL.HALT = 0 resumes the tile at PC and clears FAULTED. -/
  | tseqCtrlResume (t : TileN)
  /-- STEP (R138): Writing TSEQ.CTRL.STEP while halted runs one tile cycle and halts again. -/
  | step (t : TileN)
  /-- SWEVT (R139): A TSCH.SWEVT write sets software event lines. -/
  | swevt (t : TileN) (v : Word)
  /-- TIMER_ARM (R133): A write of TMRn_HI arms timer n. -/
  | timerArm (t : TileN) (n : Fin 2) (v : Word)
  /-- WIN_DATA_WRITE (R135): A window register write reaches a cell item in its access cycle or is refused BUSY or NOITEM. -/
  | winDataWrite (t : TileN) (v : Word)
  /-- WIN_DATA_READ (R134): A window register read returns a cell item as it stood at the start of the access cycle. -/
  | winDataRead (t : TileN)
  /-- REQ_READ (R210): A network read request is performed at its target memory or page and answered with RDATA. -/
  | reqRead (r : RtrN) (d : Fin 5) (e : FlitCheck × Bool)
  /-- REQ_WRITE (R210): A two-flit network write request is performed at its target and answered with WACK. -/
  | reqWrite (r : RtrN) (d : Fin 5) (e : FlitCheck × Bool) (bad : BitVec 16)
  /-- RDATA (R210): A read response arrives at its initiator and frees its tag. -/
  | rdata (r : RtrN) (d : Fin 5) (e : FlitCheck) (lat : Nat)
  /-- WACK (R210): A write acknowledgement arrives at its initiator and frees its tag. -/
  | wack (r : RtrN) (d : Fin 5) (e : FlitCheck) (lat : Nat)
  /-- ECC_WRITE_BACK (R147): A scheduled corrected-word write-back is performed when its bank grants it, unless a write came first. -/
  | eccWriteBack (a : BitVec 48)
  /-- REGISTER_WRITE (R483): A write to a register with no behaviour of its own applies its fields one register at a time. -/
  | registerWrite (page : Fin 4096) (off : Fin 1024) (v : Word) (src : BitVec 10)
  /-- STARVE_LIMIT (R153): A region-path request waits STARVE_LIMIT cycles and raises 0x43 once. -/
  | starveLimit (t : TileN) (bank : Fin 8 × BitVec 32)
  /-- PWR_CMD_OFF (R161): A power command moves a bank to OFF, or is refused. -/
  | pwrCmdOff (page : BankPage) (bank : Fin 16)
  /-- PWR_CMD_RET (R161): A power command moves a bank to retention, or is refused. -/
  | pwrCmdRet (page : BankPage) (bank : Fin 16)
  /-- PWR_CMD_ON (R161): A power command moves a bank to ON, clearing it when it left OFF. -/
  | pwrCmdOn (page : BankPage) (bank : Fin 16)
  /-- BANK_STATE_REACHED (R161): A bank in TRANS reaches its new power state after the transition time. -/
  | bankStateReached (page : BankPage) (bank : Fin 16)
  /-- POLISHER_STEP (R165): At its interval the polisher saves, March-tests and restores one 64-word block. -/
  | polisherStep (r : RegN)
  /-- POLISHER_STEP_DONE (R166): The save buffer is restored and the polisher step completes. -/
  | polisherStepDone (r : RegN) (w : Fin 64) (bits : BitVec 39)
  /-- ACQUIRE (R171): A lock ACQUIRE command takes a free or orphaned lock. -/
  | acquire (r : RegN) (n : Fin 32) (src : BitVec 10)
  /-- RELEASE (R171): A lock RELEASE command frees the lock, or leaves it orphaned, or is refused. -/
  | release (r : RegN) (n : Fin 32) (src : BitVec 10)
  /-- CLRORPH (R171): The owner clears the orphan flag of a held lock. -/
  | clrorph (r : RegN) (n : Fin 32) (src : BitVec 10)
  /-- SEM_TAKE (R173): A read of SEM_TAKEn returns the semaphore bit and clears it. -/
  | semTake (r : RegN) (n : Fin 32)
  /-- SEM_GIVE (R173): A write to SEM_GIVE sets semaphores. -/
  | semGive (r : RegN) (v : Word)
  /-- START (R192): CHn.CTRL.START starts the channel's chain at HEAD from IDLE or HALTED. -/
  | start (c : ChanId)
  /-- RESET (R199): CHn.CTRL.RESET stops the channel, aborting its descriptor with 0x38, and moves it to IDLE. -/
  | reset (c : ChanId)
  /-- HALTREQ (R200): CHn.CTRL.HALTREQ makes the channel halt after its current descriptor. -/
  | haltreq (c : ChanId)
  /-- DOORBELL (R192): A doorbell starts an idle chain, re-reads a parked tail or sets DBPEND. -/
  | doorbell (c : ChanId)
  /-- DESC_FETCH (R183): A fetched descriptor is checked and either run or written back or left untouched with a fault. -/
  | descFetch (c : ChanId)
  /-- COPY (R186): Descriptor operation copying LEN bytes from address B to address A in ascending beats. -/
  | copy (c : ChanId)
  /-- COMPARE (R186): Descriptor operation comparing two ranges and reporting the first differing offset. -/
  | compare (c : ChanId)
  /-- GATHER (R186): Descriptor operation reading listed sources and writing them back to back at address A. -/
  | gather (c : ChanId)
  /-- SCATTER (R186): Descriptor operation reading address A and writing to listed destinations. -/
  | scatter (c : ChanId)
  /-- DMA_READ_BEAT (R185): The engine issues one read beat for the selected ready channel in a region cycle. -/
  | dmaReadBeat (c : ChanId)
  /-- DMA_WRITE_BEAT (R185): The engine issues one write beat for the selected ready channel in a region cycle. -/
  | dmaWriteBeat (c : ChanId)
  /-- DESC_COMPLETE (R188): After all responses the channel writes status, clears OWN and counts, then follows NEXT or halts. -/
  | descComplete (c : ChanId)
  /-- RECHECK (R192): The channel re-reads the tail descriptor and follows NEXT when END is clear, or parks. -/
  | recheck (c : ChanId)
  /-- RESP_SLOW (R200): A transaction's wait reaches RESP_LIMIT and raises 0x44 once. -/
  | respSlow (c : ChanId)
  /-- FLIT_FORWARD (R220): A router sends a head flit of highest urgency on an output, updating urgency and age. -/
  | flitForward (r : RtrN) (out : Fin 8) (w : Nat) (corr : Fin 9)
  /-- LINK_RESEND (R223): A router finding an uncorrectable flit discards from it and asks the sender to resend. -/
  | linkResend (r : RtrN) (p : Fin 8)
  /-- STREAM_DATA (R232): An in-endpoint takes a DATA packet, storing tokens in order, discarding repeats and stopping on a gap. -/
  | streamData (r : RtrN) (d : Fin 5) (corr : Fin 9) (bad : BitVec 14)
  /-- STREAM_CREDIT (R209): A CREDIT packet returns credits to an out-endpoint. -/
  | streamCredit (r : RtrN) (d : Fin 5 × FlitCheck)
  /-- STREAM_PACKET_SEND (R230): An out-endpoint sends a DATA packet at 14 tokens, LAST or lack of credit. -/
  | streamPacketSend (r : RegN) (k : Fin 128)
  /-- PACK_WAIT (R230): PACK_WAIT router cycles after its first token, an out-endpoint sends its packet. -/
  | packWait (r : RegN) (k : Fin 128)
  /-- CREDIT_RETURN (R231): An in-endpoint sends a CREDIT packet when CRBATCH credits gathered or its ring empties. -/
  | creditReturn (r : RegN) (k : Fin 128)
  /-- ENDPOINT_ENABLE (R231): Writing EN = 1 enables an endpoint, an in-endpoint then granting credits for its free slots. -/
  | endpointEnable (r : RegN) (k : Fin 128)
  /-- ENDPOINT_DISABLE (R230): Writing EN = 0 disables an endpoint, an out-endpoint first sending its held tokens. -/
  | endpointDisable (r : RegN) (k : Fin 128)
  /-- MEM_MODE_MARK (R234): A MARK token to a memory-mode out-endpoint sets the address. -/
  | memModeMark (r : RegN) (k : Fin 128)
  /-- MEM_MODE_WRITE (R234): A plain token writes its data at the address and advances it, merged per 64-byte block. -/
  | memModeWrite (r : RegN) (k : Fin 128)
  /-- MEM_MODE_LAST_WRITE (R234): A LAST token writes and then reports completion of the writes as a token on SIp. -/
  | memModeLastWrite (r : RegN) (k : Fin 128)
  /-- MEM_MODE_READ (R234): A MARK and LAST token reads the word at the address and returns it on SIp. -/
  | memModeRead (r : RegN) (k : Fin 128)
  /-- STATS_CLEAR (R225): Writing CFG.CLR clears every counter of a statistics set. -/
  | statsClear (r : RegN) (j : Fin 4)
  /-- CLOCK_SWITCH (R244): A write of SRC or DIV starts a glitch-free tile island clock switch, or is refused with 0x73. -/
  | clockSwitch (t : TileN) (v : Word)
  /-- CLOCK_SWITCH_DONE (R244): The new clock is ungated and BUSY clears. -/
  | clockSwitchDone (t : TileN)
  /-- PLL_CONFIG_WRITE (R246): A write of a region PLL's MULT or EN changes it, or is refused with 0x67 or 0x73. -/
  | pllConfigWrite (r : RegN) (b : Bool) (v : Word)
  /-- PLL_LOCK (R246): An enabled PLL achieves lock and sets LOCK. -/
  | pllLock (r : RegN) (b : Bool)
  /-- PLL_UNLOCK (R247): A PLL losing lock moves its tile islands to RING and raises 0x46. -/
  | pllUnlock (r : RegN) (b : Bool)
  /-- REF_LOST (R239): The external reference shows no edge for 3 periods and the device switches to the crystal. -/
  | refLost
  /-- REF_SELECT (R239): A write of DCLK.REF_CFG.SEL chooses the reference source. -/
  | refSelect (v : Word × Bool)
  /-- RAIL_SET (R249): A write of RCLK.RAIL.SET moves the region rail, or is refused with 0x74. -/
  | railSet (r : RegN) (v : Word)
  /-- NEIGHBOUR_LIMIT (R251): A boundary temperature difference above 35 degrees sets OVER and raises 0x75. -/
  | neighbourLimit (r : RegN) (side : Fin 4)
  /-- RETRIM (R250): The active assayer re-trims a boundary's LOCKED clasps as its temperature difference changes. -/
  | retrim (key : Fin 2080)
  /-- SLIP_ENTER (R254): A bezel-region LOCKED clasp enters SLIP beyond 30 degrees or 250 mV. -/
  | slipEnter (key : Fin 2080)
  /-- SLIP_LEAVE (R254): A clasp leaves SLIP when the differences fall below the lower thresholds. -/
  | slipLeave (key : Fin 2080)
  /-- CLASP_DELIVER (R253): A clasp delivers a token into the receiving queue, at its fixed time when LOCKED. -/
  | claspDeliver (key : Fin 2080)
  /-- TB_STEP (R259): A write of DCLK.TB_STEP steps the time base forward at the next reference edge. -/
  | tbStep (v : Word)
  /-- TB_SLEW (R259): Every PERIOD reference ticks with slew on, the time base adds 11 or 9 instead of 10. -/
  | tbSlew
  /-- EPOCH_BOUNDARY (R266): The time base reaches a multiple of the epoch length and the epoch counter rises. -/
  | epochBoundary
  /-- CUT (R266): A protected tile takes the boundary at its clock edge, latching state, clearing RETIRED and dirty bits. -/
  | cut (t : TileN)
  /-- JOURNAL_FLUSH (R270): FLUSH region cycles after a gather buffer's first entry, its partial record is written. -/
  | journalFlush (t : TileN)
  /-- LOCKET_CAPTURE (R280): After a cut the capture engine writes the state block and dirty pages into the free half. -/
  | locketCapture (t : TileN)
  /-- LOCKET_COMMIT (R280): The header write response commits the locket and frees journal records of earlier epochs. -/
  | locketCommit (t : TileN)
  /-- RECOVER (R283): A protected position is recovered onto the spare from its locket and journal, by assayer or host command. -/
  | recover (t : TileN)
  /-- RECOVERY_STEP_DONE (R283): A recovery step ends and the next logged step starts. -/
  | recoveryStepDone (t : TileN)
  /-- REPLAY_END (R284): The spare's RETIRED reaches the halt count and it takes live tokens. -/
  | replayEnd (t : TileN)
  /-- RESTART (R288): An unprotected position is restarted on the spare from the image's initial values. -/
  | restart (t : TileN)
  /-- LOCKSTEP_MISMATCH (R290): Differing tokens of a lockstep pair are withheld, both tiles halt and self-check. -/
  | lockstepMismatch (r : RegN) (n : Fin 2) (a : Bool) (b : Bool)
  /-- PAIR_MIRROR (R291): A protected port token, journal record or locket write is mirrored to the partner. -/
  | pairMirror
  /-- PAIR_ACK (R291): The partner's acknowledgement arrives and the mirrored token is accepted. -/
  | pairAck
  /-- HEART (R293): A pair heartbeat frame is sent or received every 1 us. -/
  | heart
  /-- PAIR_LOST (R293): No heartbeat for 20 us sets LOST and the partner recovers the lost device's positions. -/
  | pairLost
  /-- TILE_STATE_FAULT (R299): An uncorrectable tile state or bank error is detected and the assayer retires the tile. -/
  | tileStateFault (t : TileN)
  /-- CLOCK_STOPPED (R299): A tile island without a clock edge for 1 us while ungated is retired with 0x4A. -/
  | clockStopped (t : TileN)
  /-- CORR_LIMIT (R299): Corrected reads of one bank reach CORR_LIMIT within a second and predictive action follows. -/
  | corrLimit (k : BankRef) (w : BitVec 15)
  /-- RETIRE_TILE (R304): A tile is retired without replacement, its streams halted and locks orphaned. -/
  | retireTile (t : TileN)
  /-- SELFCHECK (R303): Every 100 ms the assayer self-checks each unused spare, marking a failing one bad. -/
  | selfcheck (r : RegN) (pass : Bool)
  /-- BANK_SPARE (R168): Spare takeover starts: writes are mirrored and bank L is copied row by row into the spare. -/
  | bankSpare (r : RegN) (b : Fin 16 × Bool)
  /-- SPARE_SWITCH (R168): After the copy, the logical bank maps to the spare and the old bank is retired. -/
  | spareSwitch (r : RegN)
  /-- BANK_RETIRE (R169): With the spare in use, a failing region bank is retired with 0x65. -/
  | bankRetire (r : RegN) (b : Fin 16)
  /-- CH_MOVE (R305): A faulted DMA channel is mapped onto the reserve and its descriptor restarted. -/
  | chMove (r : RegN) (n : Fin 16 × Bool)
  /-- CH_WITHDRAW (R305): A faulted DMA channel without reserve ends its descriptor and is withdrawn. -/
  | chWithdraw (r : RegN) (n : Fin 16 × Bool)
  /-- LINK_REPAIR (R306): After a pattern test the spare wire group replaces the failing group and the link is UP. -/
  | linkRepair (l : Fin 42)
  /-- LINK_DETOUR (R306): A withdrawn link's traffic takes a fixed detour, the retry buffer sent first. -/
  | linkDetour (l : Fin 42)
  /-- PLL_MOVE (R307): The assayer re-enables an unlocked PLL and returns or moves its islands. -/
  | pllMove (r : RegN) (b : Bool)
  /-- PLL_RELOCK_TIMEOUT (R307): 40 us after re-enabling without lock, the islands move to the other PLL or stay on RING. -/
  | pllRelockTimeout (r : RegN) (b : Bool)
  /-- COOL_STEP (R308): Every 100 us while OVER is set, hotter-side unpinned islands step one divider down, or back up. -/
  | coolStep (r : RegN) (side : Fin 4)
  /-- PHASE_LOST (R460): A regulator phase failing its check is shed and raises 0x6C. -/
  | phaseLost (k : Fin 29) (phase : Fin 8)
  /-- ASSAYER_HEARTBEAT (R312): Each assayer sends a heartbeat to the other every 1 us. -/
  | assayerHeartbeat (b : Bool)
  /-- ASSAYER_LOST (R313): A fault line or 8 us without heartbeat declares the other assayer lost. -/
  | assayerLost (b : Bool × Bool)
  /-- TAKEOVER (R314): The standby fences the old active, moves its islands and locks, resolves the log and becomes active. -/
  | takeover (b : Bool)
  /-- ASSAYER_RESTART (R316): A write of DASY.CTRL.RESTART restarts a FAILED assayer, which self-tests and joins as standby. -/
  | assayerRestart (b : Bool)
  /-- FAIL_STATIC (R317): Four RC periods without any assayer heartbeat enter fail-static and raise 0x49. -/
  | failStatic
  /-- NOTE (R318): A host command with ACTION NOTE, or TAKEOVER or a reserved value, is refused with 0x31. -/
  | note (v : Word) (src : BitVec 10)
  /-- POWER_ON (R462): VIN reaching 5.8 V starts the sequenced power-up ending in PWR_GOOD. -/
  | powerOn
  /-- PWR_GOOD (R462): Every rail in window for 100 us releases PWR_GOOD. -/
  | pwrGood
  /-- NRESET (R474): A low level of 10 us on nRESET resets the device. -/
  | nreset
  /-- BOOT (R327): After nRESET and PWR_GOOD rise, the boot ROM samples CFG_MODE, locks the network PLL and applies calibration. -/
  | boot (m : BitVec 3)
  /-- WAITSRC (R337): The load engine waits for the first image byte from the chosen source. -/
  | waitsrc
  /-- LOAD (R330): The engine checks the header, writes the sections and checks the hallmark. -/
  | load
  /-- BANK_WAVE (R338): Banks wake in timed waves during LOAD. -/
  | bankWave
  /-- LOAD_DATA (R337): A write of DCFG.LOAD_DATA appends four bytes to the image stream in PCIE mode. -/
  | loadData (v : Word)
  /-- DONEWAIT (R344): In compatibility mode the first phase starts after CFG_DONE reads high for two ticks. -/
  | donewait
  /-- DONE_TIMEOUT (R344): CFG_DONE stays low for DONE_WAIT ms and start-up ends with 0x7D. -/
  | doneTimeout
  /-- CLK_LOCK (R341): Start-up phase enabling PLLs, waiting for lock and switching bezel and tile clocks in waves. -/
  | clkLock (late : Bool)
  /-- OUT_REL (R341): Start-up phase releasing every user output to its image values. -/
  | outRel
  /-- SR_REL (R341): Start-up phase releasing the state of every configured unit. -/
  | srRel
  /-- WR_EN (R341): Start-up phase opening every memory and register page to writes. -/
  | wrEn
  /-- LOAD_CMD (R350): A write of DCFG.LOAD_CMD starts a new load, with handover in paired mode. -/
  | loadCmd (v : Word)
  /-- HANDOVER (R349): DCFG.HANDOVER GO yields every position served for the partner. -/
  | handover (v : Word)
  /-- FLASH_ERASE (R329): FL_CMD ERASE erases one flash block, or is refused. -/
  | flashErase (v : Word)
  /-- FLASH_PROGRAM (R329): FL_CMD PROGRAM writes one 256-byte page from FL_BUF, or is refused. -/
  | flashProgram (v : Word)
  /-- FLASH_READ (R329): FL_CMD READ reads one flash page into FL_BUF. -/
  | flashRead (v : Word)
  /-- FLASH_DONE (R329): A flash command completes and BUSY clears. -/
  | flashDone
  /-- BOOT_SEL (R350): A write of DCFG.BOOT_SEL erases and programs the boot selection block. -/
  | bootSel (v : Word)
  /-- COMMIT (R346): CAL_CMD COMMIT programs the working calibration into the other block and erases the old. -/
  | commit (v : Word)
  /-- RELOAD (R346): CAL_CMD RELOAD restores working calibration from the record in force. -/
  | reload (v : Word)
  /-- FRAME (R361): A bezel segment frame starts at its reference tick. -/
  | frame (seg : Fin 4)
  /-- FRAMED_SLOT (R363): At its slot tick a framed pin releases the last word loaded, or counts a slot miss. -/
  | framedSlot (seg : Fin 4) (pin : Fin 48)
  /-- TOKEN_PORT_IN (R365): A bezel token port in launches a token toward its tile, or discards it without credit. -/
  | tokenPortIn (j : Fin 32)
  /-- TOKEN_PORT_OUT_TAKE (R366): The head token of a token port out is removed when its take source is 1. -/
  | tokenPortOutTake (j : Fin 32)
  /-- DAC_LOAD (R371): A rising LOAD cell latches an analog output code. -/
  | dacLoad (k : Fin 16)
  /-- DAC_UPDATE (R372): The analog output converts its waiting calibrated code, spaced 2.5 us or at frame start. -/
  | dacUpdate (k : Fin 16)
  /-- ANALOG_STALE (R373): A connected output without load for LIMIT us takes its SAFE action and raises 0x4B. -/
  | analogStale (k : Fin 16)
  /-- CONN (R373): A write of DACk_CFG.CONN opens or closes the disconnect switch. -/
  | conn (k : Fin 16) (v : Bool)
  /-- ADC_SAMPLE (R374): All analog inputs sample at the period tick. -/
  | adcSample (raw : List Word)
  /-- ADC_DELIVER (R374): 700 ns later the corrected sample is delivered with VALID, or discarded. -/
  | adcDeliver (k : Fin 16)
  /-- DI_CHANGE (R375): A filtered 24 V input level changes and optionally enters the edge FIFO. -/
  | diChange (ch : Fin 32) (lvl : Bool)
  /-- DI_EVT (R375): A read of DI_EVT removes the oldest edge entry and latches its time. -/
  | diEvt
  /-- OUTPUT_OVERLOAD (R376): An output above DO_ILIM for 20 us turns off and raises 0x6E. -/
  | outputOverload (ch : Fin 16)
  /-- FIELD_LOW (R376): Field supply below 18 V for 1 ms turns every output off. -/
  | fieldLow
  /-- FIELD_RESTORED (R376): 1 ms after the field supply rises above 19 V outputs follow their sources. -/
  | fieldRestored
  /-- DO_FAULT_CLEAR (R376): Writing 1 to a DO_FAULT bit re-enables a tripped output. -/
  | doFaultClear (v : Word)
  /-- TRACE_TRIGGER (R380): An armed trace triggers on a match, writes POST entries and stops in DONE. -/
  | traceTrigger
  /-- FORCE (R380): A write of TRACE_CFG.FORCE triggers an armed trace. -/
  | force
  /-- TRACE_EN (R380): A write of TRACE_CFG.EN arms the trace or stops it in IDLE. -/
  | traceEn (v : Word)
  /-- MEM_ALO (R381): A write of MEM_ALO starts a loupe read with old data, abandoning an earlier one. -/
  | memAlo (v : Word)
  /-- LOUPE_READ_DONE (R381): The loupe read completes into MEM_DATA and MEM_STAT. -/
  | loupeReadDone
  /-- LINK_TRAIN (R387): A Zilaek link leaving idle trains equalisers, exchanges TRAIN blocks and comes UP at a width. -/
  | linkTrain (n : Fin 6) (md : BitVec 2) (mw : BitVec 2) (good : BitVec 8)
  /-- LANE_FAULT (R388): A faulty lane is marked, raises 0x2A and the link retrains narrower. -/
  | laneFault (n : Fin 6) (lane : Fin 8)
  /-- LINK_DOWN (R390): 1 ms without a passing block takes the link DOWN with 0x4D and fails its outstanding requests. -/
  | linkDown (n : Fin 6)
  /-- LINK_RETRY (R390): A DOWN link retrains every 10 ms. -/
  | linkRetry (n : Fin 6)
  /-- IDLE (R392): An IDLE fill word is sent or received. -/
  | idle (n : Fin 6)
  /-- DATA (R397): A DATA frame is received and delivered or forwarded by its routing header. -/
  | data (n : Fin 6) (f : List (BitVec 64))
  /-- CTRL (R393): A CTRL frame carrying acknowledgement and credits is sent at least every 1 us or received. -/
  | ctrl (n : Fin 6) (f : List (BitVec 64))
  /-- NACK (R393): A NACK frame makes the sender resend from ACK + 1. -/
  | nack (n : Fin 6) (f : List (BitVec 64))
  /-- FRAME_RESEND_TIMEOUT (R393): With frames outstanding and ACK unmoved for 20 us, the sender resends from the oldest. -/
  | frameResendTimeout (n : Fin 6)
  /-- TIME (R412): A TIME frame is sent every TPERIOD or received and the offset and delay computed. -/
  | time (n : Fin 6) (f : List (BitVec 64))
  /-- TIME_LOST (R413): The followed link goes DOWN and the device follows ALT or holds, raising 0x4E. -/
  | timeLost
  /-- HELLO (R407): At link UP both ends send HELLO with their IDs. -/
  | hello (n : Fin 6) (f : List (BitVec 64))
  /-- REQ (R407): A JOIN REQ for a member or strand number is forwarded toward head or root. -/
  | req (n : Fin 6) (f : List (BitVec 64))
  /-- GRANT (R407): A GRANT gives the requester its ID along the reverse path. -/
  | grant (n : Fin 6) (f : List (BitVec 64))
  /-- REFUSE (R408): A REFUSE with STRAND_FULL leaves the requester isolated at 0x3_FFFF. -/
  | refuse (n : Fin 6) (f : List (BitVec 64))
  /-- ANNOUNCE (R407): An ANNOUNCE of a new member is flooded and sets member routes by hop count. -/
  | announce (n : Fin 6) (f : List (BitVec 64))
  /-- MOVE (R410): A MOVE repoints member routes of a lost device's ID to its partner. -/
  | move (n : Fin 6) (f : List (BitVec 64))
  /-- CONFIG (R404): A CONFIG frame carries 64 image bytes to a loading neighbour. -/
  | config (n : Fin 6) (f : List (BitVec 64))
  /-- CFGTX (R404): ZLNK.CTRL.CFGTX makes remote channel 0 send COPY data as CONFIG frames. -/
  | cfgtx (n : Fin 6) (v : Bool)
  /-- CLRLANE (R388): ZLNK.CTRL.CLRLANE clears faulty-lane marks and retrains. -/
  | clrlane (n : Fin 6)
  /-- RETRAIN (R424): ZLNK.CTRL.RETRAIN retrains the link at once. -/
  | retrain (n : Fin 6)
  /-- OUTBOUND_RESEND (R402): When a link is UP again, each OUTBOUND entry resends from ACKED. -/
  | outboundResend (n : Fin 6) (e : Fin 64)
  /-- RTFLUSH (R398): DSTR.CTRL.RTFLUSH applies strand route table changes. -/
  | rtflush
  /-- REJOIN (R408): DSTR.CTRL.REJOIN makes a refused device request an ID again. -/
  | rejoin
  /-- FREE_STRAND (R407): FREE_CMD at the root frees a strand number. -/
  | freeStrand (num : BitVec 12)
  /-- FREE_MEMBER (R407): FREE_CMD at the head frees a member number. -/
  | freeMember (num : BitVec 12)
  /-- ETH_RECEIVE (R416): A received Ethernet frame is checked, parsed and classified by the rules. -/
  | ethReceive (n : Fin 8) (f : List Byte)
  /-- ETH_TRANSMIT (R419): A whole outbound frame leaves by its queue and gate with its timestamp handling. -/
  | ethTransmit (n : Fin 8)
  /-- GATE_CYCLE_START (R421): A gate schedule cycle starts and entries act in order, applying a pending swap. -/
  | gateCycleStart (n : Fin 8)
  /-- SWAP (R421): GCL_CTL.SWAP makes new gate entries take effect at the next cycle start. -/
  | swap (n : Fin 8)
  /-- TS_ID (R420): A read of TS_ID removes the oldest two-step timestamp entry and latches it. -/
  | tsId (n : Fin 8)
  /-- PORT_FAULT (R423): An uncorrectable port buffer error raises 0x2B and the port is withdrawn. -/
  | portFault (n : Fin 8)
  /-- PORT_DOWN (R423): 1 ms without block lock takes an Ethernet port DOWN with 0x4D. -/
  | portDown (n : Fin 8)
  /-- BRIDGE_DATAGRAM (R422): A bridge link datagram carrying Zilaek frames is received. -/
  | bridgeDatagram (b : Fin 16) (f : List Byte)
  /-- BRIDGE_RESEND_TIMEOUT (R422): BR_RTO without progress makes the bridge engine resend. -/
  | bridgeResendTimeout (b : Fin 16)
  /-- BRIDGE_IDLE_CTRL (R422): An idle bridge sends a CTRL frame every 100 us. -/
  | bridgeIdleCtrl (b : Fin 16)
  /-- BRIDGE_DOWN (R422): 1 ms without a valid datagram takes the bridge DOWN with 0x4D. -/
  | bridgeDown (b : Fin 16)
  /-- BAR_WRITE (R434): A host BAR0 or BAR2 write is issued on the network in order. -/
  | barWrite (bar : Fin 3) (a : BitVec 48) (be : BitVec 64) (d : List Byte) (ep : Bool)
  /-- BAR_READ (R435): A host BAR read is issued and completes with data, zeros or EP. -/
  | barRead (bar : Fin 3) (a : BitVec 48) (n : Nat)
  /-- UNSUPPORTED_REQUEST (R428): An unsupported PCIe request completes with Unsupported Request. -/
  | unsupportedRequest
  /-- PERSONALITY_RETRAIN (R429): A personality change takes the PCIe link down for 2 ms and retrains. -/
  | personalityRetrain
  /-- PCIE_PERST (R430): PCIE_PERST_n takes the link down with a function reset. -/
  | pciePerst (low : Bool)
  /-- HOT_RESET (R430): A hot reset or link down performs the function reset. -/
  | hotReset (down : Bool)
  /-- FUNCTION_LEVEL_RESET (R430): An FLR performs the function reset, keeping the link. -/
  | functionLevelReset
  /-- PCIE_LANE_FAULT (R431): A PCIe lane with excess errors raises 0x2A and the link retrains narrower. -/
  | pcieLaneFault (lane : Fin 8) (errs : BitVec 16)
  /-- MSIX_MESSAGE (R437): A pending vector sends its message when its IMOD spacing ends. -/
  | msixMessage (vec : BitVec 9)
  /-- SWVEC (R436): A write of HPCI.SWVEC raises a software MSI-X vector. -/
  | swvec (v : Word)
  /-- HIDX_INBOUND (R440): A host HIDX write to an INBOUND ring entry makes it read and store the new tokens. -/
  | hidxInbound (k : Fin 64) (v : Word)
  /-- HIDX_OUTBOUND (R441): A host HIDX write to an OUTBOUND ring entry frees consumed slots. -/
  | hidxOutbound (k : Fin 64) (v : Word)
  /-- HOST_RING_WRITE (R441): An OUTBOUND entry writes a token into the host ring and updates DIDX. -/
  | hostRingWrite (k : Fin 64)
  /-- BACKGROUND_FILL (R448): From RUN the memory writes every unwritten block with zeros and sets INIT_DONE. -/
  | backgroundFill
  /-- SCRUB (R449): The patrol scrub reads each block once per HOURS and corrects single-bit errors. -/
  | scrub
  /-- MAINT_READ (R452): A maintenance READ frame reads consecutive words and replies. -/
  | maintRead (p : Fin 4) (f : List Byte)
  /-- MAINT_WRITE (R452): A maintenance WRITE frame writes consecutive words and replies. -/
  | maintWrite (p : Fin 4) (f : List Byte)
  /-- MAINT_STATUS (R452): A maintenance STATUS frame returns DCFG.STATUS. -/
  | maintStatus (p : Fin 4) (f : List Byte)
  /-- UART_RECEIVE (R453): A UART byte is received into the FIFO, or discarded when full. -/
  | uartReceive (n : Fin 2) (b : Byte)
  /-- UART_DATA_WRITE (R457): A write of UARTn_DATA puts a byte into the send FIFO. -/
  | uartDataWrite (n : Fin 2) (b : Byte)
  /-- QLOAD (R454): SPI command QLOAD delivers image bytes on four lines. -/
  | qload (d : List Byte)
  /-- RDSR (R454): SPI command RDSR returns the target's status byte. -/
  | rdsr
  /-- MFRAME (R454): SPI command MFRAME carries a maintenance frame or reads its reply. -/
  | mframe (d : List Byte)
  /-- SPI_GO (R457): SPI_CMD.GO starts a controller transfer. -/
  | spiGo (v : Word)
  /-- I2C_GO (R457): I2C_CMD.GO starts a controller transaction, ending with NACK on no acknowledge. -/
  | i2cGo (v : Word)
  /-- I2C_TARGET_FRAME (R455): An I2C target write carries a maintenance frame; a read returns the reply. -/
  | i2cTargetFrame (d : List Byte)
  /-- EXTEST (R456): JTAG EXTEST drives pins from the boundary register in FAILED and HOLD. -/
  | extest
  /-- SAMPLE (R456): JTAG SAMPLE/PRELOAD. -/
  | sample (now : BitVec 585) (pre : BitVec 585)
  /-- IDCODE (R456): JTAG IDCODE returns the device identity. -/
  | idcode
  /-- CLAMP (R456): JTAG CLAMP holds pins from the boundary register with bypass selected. -/
  | clamp
  /-- HIGHZ (R456): JTAG HIGHZ puts every chain pin at high impedance. -/
  | highz
  /-- MAINT (R456): JTAG MAINT passes maintenance frames through a 32-bit register. -/
  | maint (b : Byte)
  /-- BYPASS (R456): JTAG BYPASS selects the bypass register. -/
  | bypass
  /-- UNDERVOLTAGE (R461): VIN below 5.5 V for 20 us starts the power-fail sequence. -/
  | undervoltage
  /-- OVERVOLTAGE (R461): VIN above 42 V for 10 us starts the power-fail sequence. -/
  | overvoltage
  /-- SUPPLY_RANGE (R461): VIN outside 6 V to 40 V for 100 us raises 0x61 once. -/
  | supplyRange
  /-- RAIL_OUT_OF_WINDOW (R460): A rail out of window for 10 us starts the power-fail sequence with cause RAIL. -/
  | railOutOfWindow (k : Fin 29)
  /-- CURRENT_LIMIT (R464): The input limiter holding for 20 ms starts the power-fail sequence with cause CURRENT. -/
  | currentLimit
  /-- POWER_FAIL (R463): The power-fail sequence drops PWR_GOOD, disables outputs and switches rails off. -/
  | powerFail (stby : Bool)
  /-- POWER_RESTART (R463): 1 s after a THERMAL, RAIL or CURRENT power-fail with the cause cleared, the module powers up again. -/
  | powerRestart
  /-- GOVERNOR_INTERVAL (R466): Every 10 us the governor measures and steps a wave of islands down or up. -/
  | governorInterval (vin : BitVec 16) (iin : BitVec 16) (pin : BitVec 20) (field : BitVec 16) (plate : BitVec 16) (amps : List (BitVec 16)) (temps : List (BitVec 16))
  /-- POWER_LIMIT (R468): Excess power held 1 ms with no island left to step sets EXHAUST and raises 0x6F. -/
  | powerLimit
  /-- THERMAL_LIMIT (R469): Plate or region temperature over its limit raises 0x60 or starts power-fail. -/
  | thermalLimit
  /-- ALERT_FORCE (R480): A write of DPWR.ALERT.FORCE asserts or releases ALERT_n. -/
  | alertForce (v : Bool)
  /-- EVT_FORCE (R488): A write of EVT_FORCE sets cause bits and raises forced cause events. -/
  | evtForce (page : Fin 4096) (v : Word)
  /-- EVENT_RING_WRITE (R496): The event unit writes the head record and index into the ring and advances WIDX. -/
  | eventRingWrite
  /-- QPOP (R499): A write of DEVT.QPOP removes the oldest queued record. -/
  | qpop
  /-- RIDX (R498): A write of DEVT.RIDX frees ring slots, or is refused when ahead of WIDX. -/
  | ridx (v : Word)
  /-- RING_CFG (R498): A write of RING_CFG enables or disables the event ring after any slot write in flight. -/
  | ringCfg (v : Word)
  /-- BEZEL_CYCLE (R357): In each bezel logic cycle every cell takes its table entry, flip-flops update, pins are sampled and output words are loaded. -/
  | bezelCycle (seg : Fin 4) (pins : BitVec 384)
  /-- PCIE_LINK_TRAIN (R429): After its Detect hold ends (STATE reaches RUN or 18 ms pass, or PCIE_PERST_n rises) the endpoint trains its link with the personality that holds. -/
  | pcieLinkTrain (w : Fin 4) (sp : Fin 4)
  /-- PORT_UP (R423): An Ethernet port that regains block lock after training or after being DOWN becomes UP again. -/
  | portUp (n : Fin 8)
  /-- GATE_INTERVAL_END (R421): When a gate control entry's INTERVAL ends within a cycle, the next entry's gate states take effect. -/
  | gateIntervalEnd (n : Fin 8)
  /-- HANDOVER_MESSAGE (R349): A device receiving a handover message from its paired partner recovers every protected position of the sender at once, or restores yielded positions from mirrored lockets. -/
  | handoverMessage
  /-- INPUT_SWITCH_CLOSE (R461): After an overvoltage shutdown, VIN falling below 41.0 V closes the input switch and starts a new power-up. -/
  | inputSwitchClose
  /-- PWR_GOOD_HELD_LOW (R474): Another device on the shared open-drain PWR_GOOD line holds it low, which keeps or puts the die in reset as nRESET does. -/
  | pwrGoodHeldLow (held : Bool)
  /-- ASSAYER_SELF_TEST (R327): The assayer self-test run during BOOT and LOAD ends and each assayer takes its role, or stays FAILED if the test failed. -/
  | assayerSelfTest (a : Bool) (b : Bool)
  /-- JOIN_REQUEST_EXPIRY (R407): 10 ms after a forwarded join request from an ID of 0x3_FFFF, the device forgets the requester's serial number and port of arrival. -/
  | joinRequestExpiry (n : Fin 16)
  deriving DecidableEq, Repr

end Sys2Proof
end

