-- ==== Sys2Proof/Machine/Bits.lean ====
section
/-! DEFINITION. Bit-field, byte-order, sign-extension and checksum helpers (R6, R7). -/

namespace Sys2Proof.Machine
open Sys2Proof

/-- Bits [hi:lo] of `n`, as a number (R6). -/
def bitsOf (n hi lo : Nat) : Nat := (n >>> lo) % 2 ^ (hi + 1 - lo)

/-- Bit `i` of `n`. -/
def bitOf (n i : Nat) : Bool := (n >>> i) % 2 == 1

/-- `n` with bits [hi:lo] replaced by the low bits of `v`. -/
def setBits (n hi lo v : Nat) : Nat :=
  let w := hi + 1 - lo
  n - (bitsOf n hi lo <<< lo) + ((v % 2 ^ w) <<< lo)

/-- 1 for true, 0 for false. -/
def b2n (b : Bool) : Nat := if b then 1 else 0

/-- The low `w` bits of `n` read as a two's-complement number (R64). -/
def sext (w n : Nat) : Int :=
  let m := n % 2 ^ w
  if m < 2 ^ (w - 1) then (m : Int) else (m : Int) - (2 ^ w : Nat)

/-- A number as a 32-bit word, modulo 2^32. -/
def word (n : Nat) : Word := BitVec.ofNat 32 n

/-- The low 32 bits of an integer (R65 step 3 with SAT = 0). -/
def wordI (i : Int) : Word := BitVec.ofInt 32 i

/-- Addition that stays at the largest value of `w` bits (the saturating counters of R174, R482). -/
def satAdd (w a b : Nat) : Nat := min (a + b) (2 ^ w - 1)

/-- Bytes `0 .. k-1` of `n`, least significant first (R7). -/
def toBytes : Nat → Nat → List Byte
  | 0, _ => []
  | k + 1, n => BitVec.ofNat 8 n :: toBytes k (n >>> 8)

/-- The number whose little-endian bytes are listed (R7). -/
def ofBytes : List Byte → Nat
  | [] => 0
  | b :: bs => b.toNat + (ofBytes bs <<< 8)

/-- Position of the lowest 1 bit among the low `k` bits, counting from `i`. -/
def lowestFrom : Nat → Nat → Nat → Option Nat
  | 0, _, _ => none
  | k + 1, i, n => if bitOf n i then some i else lowestFrom k (i + 1) n

/-- Number of 1 bits among the low `k` bits. -/
def popCount : Nat → Nat → Nat
  | 0, _ => 0
  | k + 1, n => n % 2 + popCount k (n / 2)

/-- One byte step of CRC-32C, reflected form, polynomial 0x1EDC6F41. -/
def crcByteBits : Nat → Nat → Nat
  | 0, c => c
  | k + 1, c => crcByteBits k (if c % 2 == 1 then (c >>> 1) ^^^ 0x82F63B78 else c >>> 1)

/-- CRC-32C over bytes, from a running register value. -/
def crc32cGo : List Byte → Nat → Nat
  | [], c => c
  | b :: bs, c => crc32cGo bs (crcByteBits 8 (c ^^^ b.toNat))

/-- CRC-32C of a byte string: initial value and final exclusive-or of all ones. -/
def crc32c (bs : List Byte) : Nat := crc32cGo bs 0xFFFFFFFF ^^^ 0xFFFFFFFF

end Sys2Proof.Machine
end

