-- ==== Sys2Proof/Machine/Ip.lean ====
section
/-! DEFINITION. Ethernet, IP and UDP: byte order of the network, checksums, the header walk of R416 and the length rules
of R417, and the datagrams that a bridge link sends (R422). -/

namespace Sys2Proof.Machine
open Sys2Proof

/-- `k` bytes of a number, most significant first. -/
def beBytes (k n : Nat) : List Byte := (toBytes k n).reverse

/-- The number whose bytes are listed most significant first. -/
def ofBe (bs : List Byte) : Nat := ofBytes bs.reverse

/-- Bytes `o` to `o + k - 1`, most significant first; bytes past the end read 0. -/
def beAt (b : List Byte) (o k : Nat) : Nat := ofBe ((List.range k).map fun i => b.getD (o + i) 0)

/-- CRC-32 of IEEE 802.3, reflected form. -/
def fcsBits : Nat → Nat → Nat
  | 0, c => c
  | k + 1, c => fcsBits k (if c % 2 == 1 then (c >>> 1) ^^^ 0xEDB88320 else c >>> 1)

def fcsGo : List Byte → Nat → Nat
  | [], c => c
  | b :: bs, c => fcsGo bs (fcsBits 8 (c ^^^ b.toNat))

/-- The frame check sequence, as the last four bytes of a frame. -/
def fcsOf (b : List Byte) : List Byte := toBytes 4 (fcsGo b 0xFFFFFFFF ^^^ 0xFFFFFFFF)

/-- Sum of 16-bit words, a last odd byte high. -/
def sum16 : List Byte → Nat
  | [] => 0
  | [b] => b.toNat * 256
  | a :: b :: bs => a.toNat * 256 + b.toNat + sum16 bs

def fold16 : Nat → Nat → Nat
  | 0, n => n
  | k + 1, n => fold16 k (n % 65536 + n / 65536)

/-- The Internet checksum. -/
def inetSum (b : List Byte) : Nat := 65535 - fold16 4 (sum16 b)

/-- The outcome of the header walk (R416): why it ended early, tags, outer VID, innermost ethertype, the IP header's
start and the length it declares from there, and the UDP header's start with the IP payload length from there. -/
inductive WalkEnd where
  | done | depth | tags | short
  deriving DecidableEq, Repr

structure Walk where
  why   : WalkEnd
  vid   : Option Nat
  etype : Nat
  ip    : Option (Nat × Nat)
  udp   : Option (Nat × Nat)
  deriving DecidableEq, Repr

/-- IPv6 extension headers that the walk follows (log 51). -/
def isExt (nh : Nat) : Bool := [0, 43, 44, 51, 60, 135].contains nh

def extLen (b : List Byte) (nh pos : Nat) : Nat :=
  if nh = 44 then 8 else if nh = 51 then 4 * ((b.getD (pos + 1) 0).toNat + 2) else 8 * ((b.getD (pos + 1) 0).toNat + 1)

/-- Follows the next-header chain from `pos` with `left` bytes of IP payload and `n` headers walked. -/
def walkNext (b : List Byte) (w : Walk) : Nat → Nat → Nat → Nat → Nat → Walk
  | 0, _, _, _, _ => { w with why := .depth }
  | fuel + 1, nh, pos, left, n =>
    if nh = 17 then
      if 6 ≤ n then { w with why := .depth }
      else if b.length < pos + 8 then { w with why := .short }
      else { w with udp := some (pos, left) }
    else if isExt nh then
      if 6 ≤ n then { w with why := .depth }
      else if b.length < pos + 8 then { w with why := .short }
      else walkNext b w fuel (b.getD pos 0).toNat (pos + extLen b nh pos) (left - extLen b nh pos) (n + 1)
    else w

/-- The walk from an ethertype at `pos` with `tags` tags behind it. -/
def walkType (b : List Byte) (pos tags : Nat) (vid : Option Nat) : Walk :=
  let et := beAt b pos 2
  let w : Walk := ⟨.done, vid, et, none, none⟩
  let ip := pos + 2
  if et = 0x0800 then
    let ihl := (b.getD ip 0).toNat % 16 * 4
    if b.length < ip + 20 ∨ b.length < ip + ihl then { w with why := .short, ip := some (ip, beAt b (ip + 2) 2) }
    else
      let len := beAt b (ip + 2) 2
      let w := { w with ip := some (ip, len) }
      if (b.getD (ip + 9) 0).toNat = 17 then walkNext b w 8 17 (ip + ihl) (len - ihl) (2 + tags) else w
  else if et = 0x86DD then
    if b.length < ip + 40 then { w with why := .short, ip := some (ip, beAt b (ip + 4) 2 + 40) }
    else
      let len := beAt b (ip + 4) 2
      walkNext b { w with ip := some (ip, len + 40) } 8 (b.getD (ip + 6) 0).toNat (ip + 40) len (2 + tags)
  else w

/-- The header walk of a frame without its FCS. -/
def walkTags (b : List Byte) : Nat → Nat → Nat → Option Nat → Walk
  | 0, pos, _, vid => ⟨.tags, vid, beAt b pos 2, none, none⟩
  | fuel + 1, pos, n, vid =>
    let et := beAt b pos 2
    if et = 0x8100 ∨ et = 0x88A8 then
      (if n = 2 then ⟨.tags, vid, et, none, none⟩
       else walkTags b fuel (pos + 4) (n + 1) (if n = 0 then some (beAt b (pos + 2) 2 % 4096) else vid))
    else walkType b pos n vid

def walk (b : List Byte) : Walk := walkTags b 3 12 0 none

/-- The lengths of a walked frame contradict each other (R417), but for the rules of a bridge link. A header that runs
past the frame is such a contradiction (log 51). -/
def lengthsBad (b : List Byte) (w : Walk) : Bool :=
  decide (w.why = .short) ||
  (match w.ip with
   | some (pos, len) =>
     let have_ := b.length - pos
     decide (have_ < len) || (decide (len < have_) && decide (64 < b.length + 4))
   | none => false) ||
  (match w.udp with
   | some (pos, left) =>
     let n := beAt b (pos + 4) 2
     decide (n ≠ left) || decide (n = 0)
   | none => false)

/-- The UDP payload of a walked frame. -/
def udpPayload (b : List Byte) (w : Walk) : List Byte :=
  match w.udp with
  | some (pos, _) => (b.drop (pos + 8)).take (beAt b (pos + 4) 2 - 8)
  | none => []

/-- Recomputes the checksum of a frame's UDP header, if it carries one (R420). -/
def fixUdp (b : List Byte) : List Byte :=
  let w := walk b
  match w.udp, w.ip with
  | some (u, _), some (ip, _) =>
    if beAt b (u + 6) 2 = 0 then b
    else
      let n := beAt b (u + 4) 2
      let addrs := if w.etype = 0x0800 then (b.drop (ip + 12)).take 8 else (b.drop (ip + 8)).take 32
      let body := (b.drop u).take 6 ++ [0, 0] ++ ((b.drop (u + 8)).take (n - 8))
      let c := inetSum (addrs ++ beBytes 4 n ++ beBytes 4 17 ++ body)
      b.take (u + 6) ++ beBytes 2 (if c = 0 then 65535 else c) ++ b.drop (u + 8)
  | _, _ => b

/-- What a bridge link's datagrams carry in their headers. -/
structure BridgeAddr where
  ipv6 : Bool
  tags : List Nat
  dmac : List Byte
  smac : List Byte
  dip  : List Byte
  sip  : List Byte
  port : Nat
  deriving DecidableEq, Repr

/-- An Ethernet frame, without FCS, that carries a UDP payload (R422). Fields that the specification leaves open are
those of log 51. -/
def datagram (a : BridgeAddr) (pl : List Byte) : List Byte :=
  let n := 8 + pl.length
  let tag := match a.tags with
    | [x] => beBytes 2 0x8100 ++ beBytes 2 x
    | [x, y] => beBytes 2 0x88A8 ++ beBytes 2 x ++ beBytes 2 0x8100 ++ beBytes 2 y
    | _ => []
  let udp0 := beBytes 2 a.port ++ beBytes 2 a.port ++ beBytes 2 n
  let head := a.dmac ++ a.smac ++ tag
  let bytes :=
    if a.ipv6 then
      let c := inetSum (a.sip ++ a.dip ++ beBytes 4 n ++ beBytes 4 17 ++ udp0 ++ [0, 0] ++ pl)
      head ++ beBytes 2 0x86DD ++ beBytes 4 0x60000000 ++ beBytes 2 n ++ [17, 64] ++ a.sip ++ a.dip ++ udp0 ++
        beBytes 2 (if c = 0 then 65535 else c) ++ pl
    else
      let h0 := beBytes 2 0x4500 ++ beBytes 2 (20 + n) ++ beBytes 4 0 ++ [64, 17]
      let ips := a.sip.take 4 ++ a.dip.take 4
      head ++ beBytes 2 0x0800 ++ h0 ++ beBytes 2 (inetSum (h0 ++ [0, 0] ++ ips)) ++ ips ++ udp0 ++ [0, 0] ++ pl
  bytes ++ List.replicate (60 - bytes.length) 0

end Sys2Proof.Machine
end

