-- ==== Sys2Proof/Config.lean ====
section
/-! DEFINITION. What the specification leaves open: free values, which nothing constrains. -/

namespace Sys2Proof.Config

/-- A free value: the machine applies it to a counter of its state that it then advances (assumption log 2). -/
opaque freeNat : Nat → Nat

/-- The nine check bits of a quarter of a flit under SECDED (R221), whose matrix no rule gives (assumption log 94). -/
opaque secded : Nat → Nat

/-- The position that the image reserves as the standby for a position of the partner device (R293); no register holds it
(assumption log 34). -/
opaque standby : Nat → Nat

end Sys2Proof.Config
end

