-- ==== Sys2Proof/Machine/RegTable.lean ====
section
/-! DEFINITION. The register pages as tables: which block a page index holds (R489), its type (R490), and for
every register of every block where it lies and which bits take a plain write, a write while EN = 0, a
write-1-to-clear, a clear on read, or are visible (the register tables of chapters 02 to 16). -/

namespace Sys2Proof.Machine
open Sys2Proof

/-- One register, or a row of `cnt` registers `stride` bytes apart: masks of bits that a write sets (`rw`),
that a write sets while EN = 0 only (`en0`), that a 1 clears (`w1c`), that a read clears (`rc`), that a
read shows (`vis`), and that a REG record of the image may set (`img`, R333). -/
structure RegRow where
  off : Nat
  cnt : Nat
  stride : Nat
  rw : Nat
  en0 : Nat
  w1c : Nat
  rc : Nat
  vis : Nat
  img : Nat
  deriving DecidableEq, Repr

/-- The blocks of R489. -/
inductive Blk where
  | ddev | devt | dcfg | dcal | dclk | dstr | dacw | dpwr | dasy | drcv | dbzl | dbzc | dmif | dlpe | zlnk | ethp | hpci | hdma | memc | mser | rrtr | rctl | rmem | rdma | rlane | rclk | rstat | rjnl | tseq | tfct | tsch | tbnk
  deriving DecidableEq, Repr

/-- `PAGE_ID.TYPE` (R490). -/
def blkType : Blk → Nat
  | .ddev => 0x0001
  | .devt => 0x0002
  | .dcfg => 0x0003
  | .dcal => 0x0004
  | .dclk => 0x0005
  | .dstr => 0x0006
  | .dacw => 0x0007
  | .dpwr => 0x0008
  | .dasy => 0x0009
  | .drcv => 0x000A
  | .dbzl => 0x0010
  | .dbzc => 0x0011
  | .dmif => 0x0012
  | .dlpe => 0x0013
  | .zlnk => 0x0020
  | .ethp => 0x0021
  | .hpci => 0x0022
  | .hdma => 0x0023
  | .memc => 0x0024
  | .mser => 0x0025
  | .rrtr => 0x0030
  | .rctl => 0x0031
  | .rmem => 0x0032
  | .rdma => 0x0033
  | .rlane => 0x0034
  | .rclk => 0x0035
  | .rstat => 0x0036
  | .rjnl => 0x0037
  | .tseq => 0x0040
  | .tfct => 0x0041
  | .tsch => 0x0042
  | .tbnk => 0x0043

/-- The `EVT_PEND` bits that a chapter names a cause for (R482, R486). -/
def pendMask : Blk → Nat
  | .ddev => 0x0
  | .devt => 0x0
  | .dcfg => 0x0
  | .dcal => 0x0
  | .dclk => 0x0
  | .dstr => 0x0
  | .dacw => 0x0
  | .dpwr => 0x0
  | .dasy => 0x0
  | .drcv => 0x0
  | .dbzl => 0x0
  | .dbzc => 0x0
  | .dmif => 0x0
  | .dlpe => 0x0
  | .zlnk => 0xFFFFFFFF
  | .ethp => 0x0
  | .hpci => 0x0
  | .hdma => 0xFFFFFFFF
  | .memc => 0x0
  | .mser => 0x0
  | .rrtr => 0x0
  | .rctl => 0x0
  | .rmem => 0x0
  | .rdma => 0xFFFFFFFF
  | .rlane => 0x0
  | .rclk => 0x0
  | .rstat => 0x0
  | .rjnl => 0x0
  | .tseq => 0x3
  | .tfct => 0x0
  | .tsch => 0x3
  | .tbnk => 0x0

def rowsDdev : List RegRow :=
  [⟨0x40, 1, 4, 0x0, 0x0, 0x0, 0x0, 0xffffffff, 0x0⟩,
   ⟨0x44, 1, 4, 0x0, 0x0, 0x0, 0x0, 0x1ff, 0x1ff⟩]

def rowsDevt : List RegRow :=
  [⟨0x40, 1, 4, 0x0, 0x0, 0x0, 0x0, 0xfffff000, 0xfffff000⟩,
   ⟨0x44, 1, 4, 0x0, 0x0, 0x0, 0x0, 0xffff, 0xffff⟩,
   ⟨0x48, 1, 4, 0x0, 0x0, 0x0, 0x0, 0x8000001f, 0x8000001f⟩,
   ⟨0x4c, 1, 4, 0x0, 0x0, 0x0, 0x0, 0xffff, 0x0⟩,
   ⟨0x50, 1, 4, 0x0, 0x0, 0x0, 0x0, 0xffff, 0xffff⟩,
   ⟨0x54, 1, 4, 0x0, 0x0, 0x0, 0x0, 0x1ff, 0x0⟩,
   ⟨0x58, 1, 4, 0x0, 0x0, 0x0, 0xffffffff, 0xffffffff, 0x0⟩,
   ⟨0x60, 4, 4, 0x0, 0x0, 0x0, 0x0, 0xffffffff, 0x0⟩,
   ⟨0x70, 1, 4, 0x0, 0x0, 0x0, 0x0, 0x0, 0x0⟩,
   ⟨0x80, 1, 4, 0x0, 0x0, 0x0, 0x0, 0x3ffff, 0x0⟩]

def rowsDcfg : List RegRow :=
  [⟨0x40, 1, 4, 0x0, 0x0, 0x0, 0x0, 0xfff8ffff, 0x0⟩,
   ⟨0x44, 1, 4, 0x0, 0x0, 0x0, 0x0, 0x0, 0x0⟩,
   ⟨0x48, 1, 4, 0x0, 0x0, 0x0, 0x0, 0xffffffff, 0x0⟩,
   ⟨0x4c, 1, 4, 0x0, 0x0, 0x0, 0x0, 0x1ff, 0x0⟩,
   ⟨0x50, 1, 4, 0x0, 0x0, 0x0, 0x0, 0xffffffff, 0x0⟩,
   ⟨0x54, 1, 4, 0x0, 0x0, 0x0, 0x0, 0xffffffff, 0x0⟩,
   ⟨0x58, 1, 4, 0x0, 0x0, 0x0, 0x0, 0xffffffff, 0x0⟩,
   ⟨0x5c, 1, 4, 0x0, 0x0, 0x0, 0x0, 0x77, 0x0⟩,
   ⟨0x60, 1, 4, 0x0, 0x0, 0x0, 0x0, 0x0, 0x0⟩,
   ⟨0x64, 1, 4, 0x1ffffff, 0x0, 0x0, 0x0, 0x1ffffff, 0x1ffffff⟩,
   ⟨0x68, 1, 4, 0x0, 0x0, 0x0, 0x0, 0x800000ff, 0x0⟩,
   ⟨0x6c, 1, 4, 0x0, 0x0, 0x0, 0x0, 0x1ffff, 0x0⟩,
   ⟨0x70, 1, 4, 0x0, 0x0, 0x0, 0x0, 0x1, 0x1⟩,
   ⟨0x74, 1, 4, 0x0, 0x0, 0x0, 0x0, 0x0, 0x0⟩,
   ⟨0x400, 64, 4, 0xffffffff, 0x0, 0x0, 0x0, 0xffffffff, 0xffffffff⟩,
   ⟨0x800, 512, 4, 0x0, 0x0, 0x0, 0x0, 0x0, 0x0⟩]

def rowsDcal : List RegRow :=
  [⟨0x40, 1, 4, 0x0, 0x0, 0x0, 0x0, 0xffff0007, 0x0⟩,
   ⟨0x44, 1, 4, 0x0, 0x0, 0x0, 0x0, 0x0, 0x0⟩,
   ⟨0x48, 1, 4, 0x0, 0x0, 0x0, 0x0, 0xff, 0x0⟩,
   ⟨0x50, 1, 4, 0x0, 0x0, 0x0, 0x0, 0xffffffff, 0x0⟩,
   ⟨0x54, 1, 4, 0x0, 0x0, 0x0, 0x0, 0xffffffff, 0x0⟩,
   ⟨0x58, 1, 4, 0x0, 0x0, 0x0, 0x0, 0xffff, 0x0⟩,
   ⟨0x5c, 1, 4, 0x0, 0x0, 0x0, 0x0, 0xffffffff, 0x0⟩,
   ⟨0x60, 1, 4, 0x0, 0x0, 0x0, 0x0, 0xffffffff, 0x0⟩,
   ⟨0x64, 1, 4, 0x0, 0x0, 0x0, 0x0, 0xffff, 0x0⟩,
   ⟨0x80, 4, 4, 0x0, 0x0, 0x0, 0x0, 0xff, 0xff⟩,
   ⟨0x90, 18, 4, 0x0, 0x0, 0x0, 0x0, 0xffff, 0xffff⟩,
   ⟨0x100, 16, 4, 0x0, 0x0, 0x0, 0x0, 0xffffffff, 0xffffffff⟩,
   ⟨0x140, 16, 4, 0x0, 0x0, 0x0, 0x0, 0xffffffff, 0xffffffff⟩,
   ⟨0x180, 16, 4, 0x0, 0x0, 0x0, 0x0, 0xffffffff, 0xffffffff⟩,
   ⟨0x1c0, 16, 4, 0x0, 0x0, 0x0, 0x0, 0xffffffff, 0xffffffff⟩,
   ⟨0x200, 15, 4, 0x0, 0x0, 0x0, 0x0, 0xffffffff, 0xffffffff⟩,
   ⟨0x240, 16, 4, 0x0, 0x0, 0x0, 0x0, 0xffffffff, 0xffffffff⟩]

def rowsDclk : List RegRow :=
  [⟨0x40, 1, 4, 0x0, 0x0, 0x0, 0x0, 0x301, 0x1⟩,
   ⟨0x44, 1, 4, 0x0, 0x0, 0x0, 0x0, 0xffffffff, 0x0⟩,
   ⟨0x48, 1, 4, 0x0, 0x0, 0x0, 0x0, 0xffffffff, 0x0⟩,
   ⟨0x4c, 1, 4, 0x0, 0x0, 0x0, 0x0, 0x0, 0x0⟩,
   ⟨0x50, 1, 4, 0xc00fffff, 0x0, 0x0, 0x0, 0xe00fffff, 0xc00fffff⟩,
   ⟨0x54, 1, 4, 0x0, 0x0, 0x0, 0x0, 0xfffff, 0x0⟩,
   ⟨0x58, 1, 4, 0x0, 0x0, 0x0, 0x0, 0xfffff, 0x0⟩,
   ⟨0x5c, 1, 4, 0x0, 0x0, 0x0, 0x0, 0x80000000, 0x0⟩]

def rowsDstr : List RegRow :=
  [⟨0x8, 1, 4, 0x0, 0x0, 0x0, 0x0, 0x0, 0x0⟩,
   ⟨0x40, 1, 4, 0x0, 0x0, 0x0, 0x0, 0xe003ffff, 0xe003ffff⟩,
   ⟨0x44, 1, 4, 0x0, 0x0, 0x0, 0x0, 0x3ffff, 0x0⟩,
   ⟨0x48, 1, 4, 0x0, 0x0, 0x0, 0x0, 0xe000ff00, 0x0⟩,
   ⟨0x4c, 1, 4, 0x0, 0x0, 0x0, 0x0, 0x8003ffff, 0x0⟩,
   ⟨0x50, 1, 4, 0x0, 0x0, 0x0, 0x0, 0xffffffff, 0xffffffff⟩,
   ⟨0x54, 1, 4, 0x0, 0x0, 0x0, 0x0, 0xffffffff, 0xffffffff⟩,
   ⟨0x58, 1, 4, 0x0, 0x0, 0x0, 0x0, 0xffffffff, 0xffffffff⟩,
   ⟨0x60, 1, 4, 0xff8003ff, 0x0, 0x0, 0x0, 0xff8003ff, 0xff8003ff⟩,
   ⟨0x64, 1, 4, 0x0, 0x0, 0x0, 0x0, 0xf8000000, 0x0⟩,
   ⟨0x68, 1, 4, 0x0, 0x0, 0x0, 0x0, 0xffffffff, 0x0⟩,
   ⟨0x6c, 1, 4, 0x0, 0x0, 0x0, 0x0, 0xffffffff, 0x0⟩,
   ⟨0x74, 1, 4, 0x0, 0x0, 0x0, 0x0, 0x0, 0x0⟩,
   ⟨0x100, 64, 4, 0x0, 0x0, 0x0, 0x0, 0x80ff0007, 0x0⟩,
   ⟨0x400, 16, 64, 0x0, 0x0, 0x0, 0x0, 0xffc0ffff, 0xffc0ffff⟩,
   ⟨0x404, 16, 64, 0x0, 0x0, 0x0, 0x0, 0xffffffff, 0xffffffff⟩,
   ⟨0x408, 16, 64, 0x0, 0x0, 0x0, 0x0, 0xffffffff, 0xffffffff⟩,
   ⟨0x40c, 16, 64, 0x0, 0x0, 0x0, 0x0, 0xffff, 0xffff⟩,
   ⟨0x410, 16, 64, 0x0, 0x0, 0x0, 0x0, 0xffffffff, 0xffffffff⟩,
   ⟨0x414, 16, 64, 0x0, 0x0, 0x0, 0x0, 0xffffffff, 0xffffffff⟩,
   ⟨0x418, 16, 64, 0x0, 0x0, 0x0, 0x0, 0xffffffff, 0xffffffff⟩,
   ⟨0x41c, 16, 64, 0x0, 0x0, 0x0, 0x0, 0xffffffff, 0xffffffff⟩,
   ⟨0x420, 16, 64, 0x0, 0x0, 0x0, 0x0, 0xffffffff, 0xffffffff⟩,
   ⟨0x424, 16, 64, 0x0, 0x0, 0x0, 0x0, 0xffffffff, 0xffffffff⟩,
   ⟨0x428, 16, 64, 0x0, 0x0, 0x0, 0x0, 0xffffffff, 0xffffffff⟩,
   ⟨0x42c, 16, 64, 0x0, 0x0, 0x0, 0x0, 0xffffffff, 0xffffffff⟩,
   ⟨0x430, 16, 64, 0x0, 0x0, 0x0, 0x0, 0xe003ffff, 0x0⟩,
   ⟨0x434, 16, 64, 0x0, 0x0, 0x0, 0x0, 0xffff, 0xffff⟩,
   ⟨0x438, 16, 64, 0x0, 0x0, 0x0, 0xffffffff, 0xffffffff, 0x0⟩]

def rowsDacw : List RegRow :=
  [⟨0x40, 1, 4, 0x0, 0x0, 0x0, 0x0, 0x1ffff, 0x1ffff⟩,
   ⟨0x44, 1, 4, 0x0, 0x0, 0x0, 0x0, 0xffffffff, 0x0⟩,
   ⟨0x48, 1, 4, 0x0, 0x0, 0x0, 0x0, 0xffff, 0x0⟩,
   ⟨0x4c, 1, 4, 0x0, 0x0, 0x0, 0x0, 0x7fff, 0x7fff⟩,
   ⟨0x50, 1, 4, 0x0, 0x0, 0x0, 0x0, 0x8703ffff, 0x8703ffff⟩,
   ⟨0x54, 1, 4, 0x0, 0x0, 0x40000000, 0x0, 0xc000ffff, 0x0⟩,
   ⟨0x58, 1, 4, 0x0, 0x0, 0x0, 0xffffffff, 0xffffffff, 0x0⟩,
   ⟨0x5c, 1, 4, 0x0, 0x0, 0x0, 0xffffffff, 0xffffffff, 0x0⟩]

def rowsDpwr : List RegRow :=
  [⟨0x40, 1, 4, 0x0, 0x0, 0x0, 0x0, 0xffff, 0x0⟩,
   ⟨0x44, 1, 4, 0x0, 0x0, 0x0, 0x0, 0xffff, 0x0⟩,
   ⟨0x48, 1, 4, 0x0, 0x0, 0x0, 0x0, 0xfffff, 0x0⟩,
   ⟨0x4c, 1, 4, 0xff0f00ff, 0x0, 0x0, 0x0, 0xff0f00ff, 0xff0f00ff⟩,
   ⟨0x50, 1, 4, 0x0, 0x0, 0x0, 0x0, 0xdff0ffff, 0x0⟩,
   ⟨0x54, 1, 4, 0x0, 0x0, 0x0, 0xffffffff, 0xffffffff, 0x0⟩,
   ⟨0x58, 1, 4, 0x0, 0x0, 0x0, 0x0, 0xffff, 0x0⟩,
   ⟨0x5c, 1, 4, 0x0, 0x0, 0x0, 0x0, 0xffff, 0x0⟩,
   ⟨0x60, 1, 4, 0x0, 0x0, 0x0, 0x0, 0xff, 0x0⟩,
   ⟨0x64, 1, 4, 0x10, 0x0, 0xe, 0x0, 0x1f, 0x10⟩,
   ⟨0x100, 29, 4, 0x0, 0x0, 0x0, 0x0, 0x8fffffff, 0x0⟩]

def rowsDasy : List RegRow :=
  [⟨0x8, 1, 4, 0x0, 0x0, 0x0, 0x0, 0x0, 0x0⟩,
   ⟨0x40, 1, 4, 0x0, 0x0, 0x0, 0x0, 0xf0000000, 0x0⟩,
   ⟨0x44, 1, 4, 0x0, 0x0, 0x0, 0x0, 0xffffffff, 0x0⟩,
   ⟨0x48, 1, 4, 0x0, 0x0, 0x0, 0x0, 0xffffffff, 0x0⟩,
   ⟨0x4c, 1, 4, 0x0, 0x0, 0x0, 0xffffffff, 0xffffffff, 0x0⟩]

def rowsDrcv : List RegRow :=
  [⟨0x40, 1, 4, 0x0, 0x0, 0x20000000, 0x0, 0xe0000000, 0x0⟩,
   ⟨0x44, 1, 4, 0xffff, 0x0, 0x0, 0x0, 0xffff, 0xffff⟩,
   ⟨0x48, 1, 4, 0x0, 0x0, 0x0, 0x0, 0xffff, 0xffff⟩,
   ⟨0x4c, 1, 4, 0x0, 0x0, 0x0, 0x0, 0xffff, 0x0⟩,
   ⟨0x50, 1, 4, 0x0, 0x0, 0x0, 0x0, 0xffffffff, 0x0⟩,
   ⟨0x54, 1, 4, 0xffffffff, 0x0, 0x0, 0x0, 0xffffffff, 0xffffffff⟩,
   ⟨0x58, 1, 4, 0x0, 0x0, 0x0, 0x0, 0x0, 0x0⟩,
   ⟨0x5c, 1, 4, 0xff0fff, 0x0, 0x0, 0x0, 0xff0fff, 0xff0fff⟩,
   ⟨0x60, 1, 4, 0x0, 0x0, 0x0, 0x0, 0x8000ffff, 0x0⟩,
   ⟨0x64, 1, 4, 0x0, 0x0, 0x0, 0x0, 0xffffffff, 0x0⟩,
   ⟨0x68, 1, 4, 0x0, 0x0, 0x0, 0x0, 0x3ff, 0x0⟩,
   ⟨0x80, 8, 4, 0x0, 0x0, 0x0, 0x0, 0xffffffff, 0x0⟩,
   ⟨0xa0, 4, 4, 0x0, 0x0, 0x0, 0x0, 0xffffffff, 0xffffffff⟩,
   ⟨0xb0, 8, 4, 0x0, 0x0, 0x0, 0x0, 0xffffffff, 0x0⟩,
   ⟨0xd0, 8, 4, 0x0, 0x0, 0x0, 0x0, 0xffffffff, 0x0⟩]

def rowsDbzl : List RegRow :=
  [⟨0x40, 1, 4, 0x0, 0x0, 0x0, 0x0, 0x80000007, 0x7⟩,
   ⟨0x44, 1, 4, 0x0, 0x0, 0x0, 0x0, 0xffffffff, 0xffffffff⟩,
   ⟨0x48, 1, 4, 0x0, 0x0, 0x0, 0x0, 0x3ff03ff, 0x3ff03ff⟩,
   ⟨0x4c, 1, 4, 0x0, 0x0, 0x0, 0xffffffff, 0xffffffff, 0x0⟩,
   ⟨0x50, 1, 4, 0x0, 0x0, 0x0, 0x0, 0xffffffff, 0x0⟩,
   ⟨0x80, 8, 4, 0x0, 0x0, 0x0, 0xffffffff, 0xffffffff, 0x0⟩,
   ⟨0x100, 8, 8, 0x0, 0x0, 0x0, 0x0, 0xef0003ff, 0xef0003ff⟩,
   ⟨0x104, 8, 8, 0x0, 0x0, 0x0, 0x0, 0xfff, 0xfff⟩,
   ⟨0x200, 48, 8, 0x0, 0x0, 0x0, 0x0, 0xffdfefff, 0xffdfefff⟩,
   ⟨0x204, 48, 8, 0x0, 0x0, 0x0, 0x0, 0xffff03ff, 0xffff03ff⟩,
   ⟨0x380, 4, 4, 0x40000000, 0x0, 0x0, 0x0, 0xe0000000, 0xe0000000⟩]

def rowsDbzc : List RegRow :=
  [⟨0x40, 512, 4, 0x0, 0x0, 0x0, 0x0, 0xffffffff, 0xffffffff⟩]

def rowsDmif : List RegRow :=
  [⟨0x40, 1, 4, 0x0, 0x0, 0x0, 0x0, 0x80000000, 0x0⟩,
   ⟨0x44, 1, 4, 0x0, 0x0, 0x0, 0x0, 0xffffffff, 0xffffffff⟩,
   ⟨0x48, 1, 4, 0xfffff, 0x0, 0x0, 0x0, 0xfffff, 0xfffff⟩,
   ⟨0x4c, 1, 4, 0x0, 0x0, 0xffff, 0x0, 0xffff, 0x0⟩,
   ⟨0x50, 1, 4, 0x0, 0x0, 0x0, 0x0, 0xffffffff, 0x0⟩,
   ⟨0x54, 1, 4, 0x0, 0x0, 0x0, 0x8000011f, 0x8000011f, 0x0⟩,
   ⟨0x58, 1, 4, 0x0, 0x0, 0x0, 0x0, 0xffffffff, 0x0⟩,
   ⟨0x5c, 1, 4, 0x0, 0x0, 0x0, 0x0, 0xffffffff, 0x0⟩,
   ⟨0x60, 1, 4, 0x0, 0x0, 0x0, 0xffffffff, 0xffffffff, 0x0⟩,
   ⟨0x64, 1, 4, 0x0, 0x0, 0x0, 0xffffffff, 0xffffffff, 0x0⟩,
   ⟨0x100, 16, 4, 0x60000000, 0x0, 0x0, 0x0, 0xf80003ff, 0xf00003ff⟩,
   ⟨0x140, 16, 4, 0x0, 0x0, 0x0, 0x0, 0xffffffff, 0x0⟩,
   ⟨0x180, 16, 4, 0x0, 0x0, 0x0, 0x0, 0xfff, 0xfff⟩,
   ⟨0x1c0, 16, 4, 0x0, 0x0, 0x0, 0x0, 0x1ffff, 0x0⟩,
   ⟨0x200, 32, 4, 0x800103ff, 0x0, 0x0, 0x0, 0x800103ff, 0x800103ff⟩,
   ⟨0x280, 16, 4, 0x80000000, 0x0, 0x0, 0x0, 0x80000fff, 0x80000fff⟩]

def rowsDlpe : List RegRow :=
  [⟨0x40, 1, 4, 0x63003fff, 0x0, 0x0, 0x0, 0xe3003fff, 0xe3003fff⟩,
   ⟨0x44, 1, 4, 0x0, 0x0, 0x0, 0x0, 0xffff3fff, 0x0⟩,
   ⟨0x48, 1, 4, 0xffffffff, 0x0, 0x0, 0x0, 0xffffffff, 0xffffffff⟩,
   ⟨0x4c, 1, 4, 0xffffffff, 0x0, 0x0, 0x0, 0xffffffff, 0xffffffff⟩,
   ⟨0x50, 1, 4, 0xff1f, 0x0, 0x0, 0x0, 0xff1f, 0xff1f⟩,
   ⟨0x54, 1, 4, 0x3fff, 0x0, 0x0, 0x0, 0x3fff, 0x3fff⟩,
   ⟨0x58, 1, 4, 0x0, 0x0, 0x0, 0x0, 0xffffffff, 0x0⟩,
   ⟨0x5c, 1, 4, 0x0, 0x0, 0x0, 0x0, 0xffffffff, 0x0⟩,
   ⟨0x60, 1, 4, 0xffffffff, 0x0, 0x0, 0x0, 0xffffffff, 0xffffffff⟩,
   ⟨0x64, 1, 4, 0xffff, 0x0, 0x0, 0x0, 0xffff, 0xffff⟩,
   ⟨0x68, 1, 4, 0x0, 0x0, 0x0, 0x0, 0xffffffff, 0x0⟩,
   ⟨0x6c, 1, 4, 0x0, 0x0, 0x0, 0x0, 0x800001ff, 0x0⟩,
   ⟨0x80, 32, 4, 0xb0000fff, 0x0, 0x0, 0x0, 0xb0000fff, 0xb0000fff⟩]

def rowsZlnk : List RegRow :=
  [⟨0x8, 1, 4, 0x4, 0x0, 0x0, 0x0, 0x4, 0x4⟩,
   ⟨0x40, 1, 4, 0x0, 0x0, 0x0, 0x0, 0xf0000000, 0xf0000000⟩,
   ⟨0x44, 1, 4, 0x0, 0x0, 0x0, 0x0, 0xffff0000, 0x0⟩,
   ⟨0x48, 1, 4, 0x0, 0x0, 0x0, 0x0, 0x3ffff, 0x0⟩,
   ⟨0x4c, 1, 4, 0x0, 0x0, 0x0, 0xffffffff, 0xffffffff, 0x0⟩,
   ⟨0x50, 1, 4, 0x0, 0x0, 0x0, 0xffffffff, 0xffffffff, 0x0⟩,
   ⟨0x54, 1, 4, 0x0, 0x0, 0x0, 0xffffffff, 0xffffffff, 0x0⟩,
   ⟨0x58, 1, 4, 0x0, 0x0, 0x0, 0xffffffff, 0xffffffff, 0x0⟩,
   ⟨0x5c, 1, 4, 0x0, 0x0, 0x0, 0xffffffff, 0xffffffff, 0x0⟩,
   ⟨0x60, 1, 4, 0x0, 0x0, 0x0, 0xffffffff, 0xffffffff, 0x0⟩,
   ⟨0x70, 1, 4, 0x0, 0x0, 0x0, 0x0, 0xffff, 0x0⟩,
   ⟨0x74, 1, 4, 0xffffff, 0x0, 0x0, 0x0, 0xffffff, 0xffffff⟩,
   ⟨0x80, 16, 4, 0x0, 0x0, 0x0, 0x0, 0x8003ffff, 0x8003ffff⟩,
   ⟨0x100, 16, 64, 0x0, 0x0, 0x0, 0x0, 0x2, 0x2⟩,
   ⟨0x104, 16, 64, 0x0, 0x0, 0x0, 0x0, 0xf0ffffff, 0x0⟩,
   ⟨0x108, 16, 64, 0x0, 0x0, 0x0, 0x0, 0xffffffe0, 0xffffffe0⟩,
   ⟨0x10c, 16, 64, 0x0, 0x0, 0x0, 0x0, 0xffff, 0xffff⟩,
   ⟨0x110, 16, 64, 0x0, 0x0, 0x0, 0x0, 0xffffffe0, 0x0⟩,
   ⟨0x114, 16, 64, 0x0, 0x0, 0x0, 0x0, 0xffff, 0x0⟩,
   ⟨0x118, 16, 64, 0x0, 0x0, 0x0, 0x0, 0x0, 0x0⟩,
   ⟨0x11c, 16, 64, 0x0, 0x0, 0x0, 0x0, 0x7ff001f, 0x7ff001f⟩,
   ⟨0x120, 16, 64, 0x0, 0x0, 0x0, 0x0, 0xffffffff, 0x0⟩,
   ⟨0x124, 16, 64, 0x0, 0x0, 0x0, 0xffffffff, 0xffffffff, 0x0⟩,
   ⟨0x128, 16, 64, 0x0, 0x0, 0x0, 0x0, 0xffffffff, 0x0⟩,
   ⟨0x12c, 16, 64, 0x0, 0x0, 0x0, 0x0, 0xffffffff, 0x0⟩,
   ⟨0x800, 64, 32, 0x80000000, 0x7c7c3fff, 0x0, 0x0, 0xfc7c3fff, 0xfc7c3fff⟩,
   ⟨0x804, 64, 32, 0x0, 0xff07ffff, 0x0, 0x0, 0xff07ffff, 0xff07ffff⟩,
   ⟨0x808, 64, 32, 0x0, 0xffffffff, 0x0, 0x0, 0xffffffff, 0xffffffff⟩,
   ⟨0x80c, 64, 32, 0x0, 0x0, 0x0, 0x0, 0x1fffff, 0x1fffff⟩,
   ⟨0x810, 64, 32, 0x0, 0xffffffff, 0x0, 0x0, 0xffffffff, 0xffffffff⟩,
   ⟨0x814, 64, 32, 0x0, 0x0, 0x0, 0x0, 0xffffffff, 0xffffffff⟩,
   ⟨0x818, 64, 32, 0x0, 0x0, 0x0, 0x0, 0xffffffff, 0xffffffff⟩,
   ⟨0x81c, 64, 32, 0x0, 0x0, 0x0, 0xffffffff, 0xffffffff, 0x0⟩]

def rowsEthp : List RegRow :=
  [⟨0x40, 1, 4, 0x10000000, 0x0, 0x0, 0x0, 0xffffc000, 0xffffc000⟩,
   ⟨0x44, 1, 4, 0x0, 0x0, 0x0, 0x0, 0xc0000000, 0x0⟩,
   ⟨0x48, 1, 4, 0xffffffff, 0x0, 0x0, 0x0, 0xffffffff, 0xffffffff⟩,
   ⟨0x4c, 1, 4, 0x0, 0x0, 0x0, 0x80000000, 0x80003fff, 0x0⟩,
   ⟨0x50, 1, 4, 0x0, 0x0, 0x0, 0x0, 0xffffffff, 0x0⟩,
   ⟨0x54, 1, 4, 0x0, 0x0, 0x0, 0x0, 0xffffffff, 0x0⟩,
   ⟨0x58, 1, 4, 0x0, 0x0, 0x0, 0x0, 0xffffffff, 0x0⟩,
   ⟨0x5c, 1, 4, 0x8000003f, 0x0, 0x0, 0x0, 0xa000003f, 0x8000003f⟩,
   ⟨0x60, 1, 4, 0xffffffff, 0x0, 0x0, 0x0, 0xffffffff, 0xffffffff⟩,
   ⟨0x64, 1, 4, 0xffffffff, 0x0, 0x0, 0x0, 0xffffffff, 0xffffffff⟩,
   ⟨0x68, 1, 4, 0xffffffff, 0x0, 0x0, 0x0, 0xffffffff, 0xffffffff⟩,
   ⟨0x70, 1, 4, 0x0, 0x0, 0x0, 0xffffffff, 0xffffffff, 0x0⟩,
   ⟨0x74, 1, 4, 0x0, 0x0, 0x0, 0xffffffff, 0xffffffff, 0x0⟩,
   ⟨0x78, 1, 4, 0x0, 0x0, 0x0, 0xffffffff, 0xffffffff, 0x0⟩,
   ⟨0x7c, 1, 4, 0x0, 0x0, 0x0, 0xffffffff, 0xffffffff, 0x0⟩,
   ⟨0x80, 1, 4, 0x0, 0x0, 0x0, 0xffffffff, 0xffffffff, 0x0⟩,
   ⟨0x84, 1, 4, 0x0, 0x0, 0x0, 0xffffffff, 0xffffffff, 0x0⟩,
   ⟨0x88, 1, 4, 0x0, 0x0, 0x0, 0xffffffff, 0xffffffff, 0x0⟩,
   ⟨0x8c, 1, 4, 0x0, 0x0, 0x0, 0xffffffff, 0xffffffff, 0x0⟩,
   ⟨0x90, 1, 4, 0x0, 0x0, 0x0, 0xffffffff, 0xffffffff, 0x0⟩,
   ⟨0x100, 32, 8, 0xff000fff, 0x0, 0x0, 0x0, 0xff000fff, 0xff000fff⟩,
   ⟨0x104, 32, 8, 0xffffffff, 0x0, 0x0, 0x0, 0xffffffff, 0xffffffff⟩,
   ⟨0x200, 64, 8, 0xff, 0x0, 0x0, 0x0, 0xff, 0xff⟩,
   ⟨0x204, 64, 8, 0xffffffff, 0x0, 0x0, 0x0, 0xffffffff, 0xffffffff⟩,
   ⟨0x400, 32, 32, 0x80000000, 0x7c7c3fff, 0x0, 0x0, 0xfc7c3fff, 0xfc7c3fff⟩,
   ⟨0x404, 32, 32, 0x0, 0xff07ffff, 0x0, 0x0, 0xff07ffff, 0xff07ffff⟩,
   ⟨0x408, 32, 32, 0x0, 0xffffffff, 0x0, 0x0, 0xffffffff, 0xffffffff⟩,
   ⟨0x40c, 32, 32, 0x0, 0x0, 0x0, 0x0, 0x1fffff, 0x1fffff⟩,
   ⟨0x410, 32, 32, 0x0, 0xffffffff, 0x0, 0x0, 0xffffffff, 0xffffffff⟩,
   ⟨0x414, 32, 32, 0x0, 0x0, 0x0, 0x0, 0xffffffff, 0xffffffff⟩,
   ⟨0x418, 32, 32, 0x0, 0x0, 0x0, 0x0, 0xffffffff, 0xffffffff⟩,
   ⟨0x41c, 32, 32, 0x0, 0x0, 0x0, 0xffffffff, 0xffffffff, 0x0⟩]

def rowsHpci : List RegRow :=
  [⟨0x40, 1, 4, 0x0, 0x0, 0x0, 0x0, 0xfff000ff, 0x0⟩,
   ⟨0x44, 1, 4, 0x3ff, 0x0, 0x0, 0x0, 0x3ff, 0x3ff⟩,
   ⟨0x48, 1, 4, 0x0, 0x0, 0x0, 0x0, 0x0, 0x0⟩,
   ⟨0x4c, 1, 4, 0x0, 0x0, 0x0, 0x0, 0xff000001, 0x0⟩,
   ⟨0x50, 1, 4, 0x0, 0x0, 0x0, 0x0, 0xffffffff, 0x0⟩,
   ⟨0x54, 1, 4, 0x0, 0x0, 0x0, 0x0, 0xffff, 0x0⟩,
   ⟨0x58, 1, 4, 0x0, 0x0, 0x0, 0xffffffff, 0xffffffff, 0x0⟩,
   ⟨0x5c, 1, 4, 0x0, 0x0, 0x0, 0xffffffff, 0xffffffff, 0x0⟩,
   ⟨0x800, 64, 32, 0x80000000, 0x703c3fff, 0x0, 0x0, 0xf03c3fff, 0xf03c3fff⟩,
   ⟨0x804, 64, 32, 0x0, 0xff07ffff, 0x0, 0x0, 0xff07ffff, 0xff07ffff⟩,
   ⟨0x808, 64, 32, 0x1, 0xfffff000, 0x0, 0x0, 0xfffff001, 0xfffff001⟩,
   ⟨0x80c, 64, 32, 0x0, 0xffffffff, 0x0, 0x0, 0xffffffff, 0xffffffff⟩,
   ⟨0x810, 64, 32, 0x0, 0xffffffff, 0x0, 0x0, 0xffffffff, 0xffffffff⟩,
   ⟨0x814, 64, 32, 0x0, 0x0, 0x0, 0x0, 0xffff, 0x0⟩,
   ⟨0x818, 64, 32, 0x0, 0x0, 0x0, 0x0, 0xffff, 0xffff⟩,
   ⟨0x81c, 64, 32, 0x0, 0x0, 0x0, 0xffffffff, 0xffffffff, 0x0⟩]

def rowsHdma : List RegRow :=
  [⟨0x40, 1, 4, 0x0, 0x0, 0x0, 0x0, 0xffffffff, 0x0⟩,
   ⟨0x44, 1, 4, 0xffffff, 0x0, 0x0, 0x0, 0xffffff, 0xffffff⟩,
   ⟨0x48, 1, 4, 0x0, 0x0, 0xffffffff, 0x0, 0xffffffff, 0x0⟩,
   ⟨0x100, 32, 64, 0x0, 0x0, 0x0, 0x0, 0x2, 0x2⟩,
   ⟨0x104, 32, 64, 0x0, 0x0, 0x0, 0x0, 0xf0ffffff, 0x0⟩,
   ⟨0x108, 32, 64, 0x0, 0x0, 0x0, 0x0, 0xffffffe0, 0xffffffe0⟩,
   ⟨0x10c, 32, 64, 0x0, 0x0, 0x0, 0x0, 0xffff, 0xffff⟩,
   ⟨0x110, 32, 64, 0x0, 0x0, 0x0, 0x0, 0xffffffe0, 0x0⟩,
   ⟨0x114, 32, 64, 0x0, 0x0, 0x0, 0x0, 0xffff, 0x0⟩,
   ⟨0x118, 32, 64, 0x0, 0x0, 0x0, 0x0, 0x0, 0x0⟩,
   ⟨0x11c, 32, 64, 0x0, 0x0, 0x0, 0x0, 0x7ff001f, 0x7ff001f⟩,
   ⟨0x120, 32, 64, 0x0, 0x0, 0x0, 0x0, 0xffffffff, 0x0⟩,
   ⟨0x124, 32, 64, 0x0, 0x0, 0x0, 0xffffffff, 0xffffffff, 0x0⟩,
   ⟨0x128, 32, 64, 0x0, 0x0, 0x0, 0x0, 0xffffffff, 0x0⟩,
   ⟨0x12c, 32, 64, 0x0, 0x0, 0x0, 0x0, 0xffffffff, 0x0⟩]

def rowsMemc : List RegRow :=
  [⟨0x40, 1, 4, 0x0, 0x0, 0x0, 0x0, 0xc0000000, 0x0⟩,
   ⟨0x44, 1, 4, 0x0, 0x0, 0x0, 0xffffffff, 0xffffffff, 0x0⟩,
   ⟨0x48, 1, 4, 0x0, 0x0, 0x0, 0xffffffff, 0xffffffff, 0x0⟩,
   ⟨0x4c, 1, 4, 0x0, 0x0, 0x0, 0x0, 0xfffffff8, 0x0⟩,
   ⟨0x50, 1, 4, 0x0, 0x0, 0x0, 0x0, 0xff000007, 0x0⟩,
   ⟨0x54, 1, 4, 0x800000ff, 0x0, 0x0, 0x0, 0x800000ff, 0x800000ff⟩,
   ⟨0x58, 1, 4, 0x0, 0x0, 0x0, 0x0, 0xffffffff, 0x0⟩]

def rowsMser : List RegRow :=
  [⟨0x40, 2, 32, 0xf8000000, 0x0, 0x0, 0x0, 0xf8000000, 0xf8000000⟩,
   ⟨0x44, 2, 32, 0x0, 0x0, 0x0, 0x0, 0x1fffffff, 0x1fffffff⟩,
   ⟨0x48, 2, 32, 0x0, 0x0, 0x0, 0x0, 0xff, 0x0⟩,
   ⟨0x4c, 2, 32, 0x0, 0x0, 0x0, 0xff000000, 0xff00ffff, 0x0⟩,
   ⟨0x80, 1, 4, 0x700000ff, 0x0, 0x0, 0x0, 0xf00000ff, 0xf00000ff⟩,
   ⟨0x84, 1, 4, 0x0, 0x0, 0x0, 0x0, 0x0, 0x0⟩,
   ⟨0x88, 1, 4, 0x0, 0x0, 0x0, 0x0, 0x80000000, 0x0⟩,
   ⟨0x8c, 1, 4, 0xc0000000, 0x0, 0x0, 0x0, 0xc0000003, 0xc0000003⟩,
   ⟨0x90, 1, 4, 0x0, 0x0, 0x0, 0x0, 0x0, 0x0⟩,
   ⟨0x94, 1, 4, 0x0, 0x0, 0x0, 0x0, 0xc0000000, 0x0⟩,
   ⟨0x100, 64, 4, 0xffffffff, 0x0, 0x0, 0x0, 0xffffffff, 0xffffffff⟩,
   ⟨0x200, 64, 4, 0xffffffff, 0x0, 0x0, 0x0, 0xffffffff, 0xffffffff⟩]

def rowsRrtr : List RegRow :=
  [⟨0x40, 1, 4, 0x0, 0x0, 0x0, 0x0, 0xffff, 0xffff⟩,
   ⟨0x44, 1, 4, 0x0, 0x0, 0x0, 0x0, 0xff, 0xff⟩,
   ⟨0x48, 1, 4, 0x0, 0x0, 0x0, 0x0, 0xffff, 0xffff⟩,
   ⟨0x4c, 1, 4, 0x3ff00ff, 0x0, 0x0, 0x0, 0x3ff00ff, 0x3ff00ff⟩,
   ⟨0x50, 1, 4, 0x0, 0x0, 0x0, 0xffffffff, 0xffffffff, 0x0⟩,
   ⟨0x54, 1, 4, 0x0, 0x0, 0x0, 0xffffffff, 0xffffffff, 0x0⟩,
   ⟨0x58, 1, 4, 0x0, 0x0, 0x0, 0xffffffff, 0xffffffff, 0x0⟩,
   ⟨0x5c, 1, 4, 0x0, 0x0, 0x0, 0xffffffff, 0xffffffff, 0x0⟩,
   ⟨0x60, 1, 4, 0x0, 0x0, 0x0, 0xffffffff, 0xffffffff, 0x0⟩,
   ⟨0x800, 128, 16, 0x80000000, 0x7ffc3fff, 0x0, 0x0, 0xfffc3fff, 0xfffc3fff⟩,
   ⟨0x804, 128, 16, 0x0, 0xff07ffff, 0x0, 0x0, 0xff07ffff, 0xff07ffff⟩,
   ⟨0x808, 128, 16, 0x0, 0xffffffff, 0x0, 0x0, 0xffffffff, 0xffffffff⟩,
   ⟨0x80c, 128, 16, 0x0, 0x0, 0x0, 0x0, 0xffffffff, 0xffffffff⟩]

def rowsRctl : List RegRow :=
  [⟨0x40, 1, 4, 0x0, 0x0, 0x0, 0x0, 0xff, 0x0⟩,
   ⟨0x44, 1, 4, 0x0, 0x0, 0x0, 0x0, 0xffff, 0x0⟩]

def rowsRmem : List RegRow :=
  [⟨0x40, 1, 4, 0x0, 0x0, 0x0, 0x0, 0xffffffff, 0xffffffff⟩,
   ⟨0x44, 1, 4, 0x0, 0x0, 0x0, 0x0, 0x0, 0x0⟩,
   ⟨0x48, 1, 4, 0x0, 0x0, 0x0, 0x0, 0xfff, 0x0⟩,
   ⟨0x4c, 1, 4, 0x0, 0x0, 0x0, 0xffffffff, 0xffffffff, 0x0⟩,
   ⟨0x50, 1, 4, 0x0, 0x0, 0x0, 0xffffffff, 0xffffffff, 0x0⟩,
   ⟨0x54, 1, 4, 0x0, 0x0, 0x0, 0xffffffff, 0xffffffff, 0x0⟩,
   ⟨0x58, 1, 4, 0x0, 0x0, 0x0, 0x0, 0xff07ffff, 0x0⟩,
   ⟨0x5c, 1, 4, 0x0, 0x0, 0x0, 0x0, 0xc00fffff, 0x0⟩,
   ⟨0x60, 1, 4, 0x8000ffff, 0x0, 0x0, 0x0, 0x8000ffff, 0x8000ffff⟩,
   ⟨0x64, 1, 4, 0x0, 0x0, 0x0, 0x0, 0x7fff, 0x0⟩,
   ⟨0x68, 1, 4, 0x0, 0x0, 0x0, 0x0, 0xffffffff, 0x0⟩,
   ⟨0x6c, 1, 4, 0x0, 0x0, 0x0, 0xffffffff, 0xffffffff, 0x0⟩,
   ⟨0x100, 32, 4, 0x0, 0x0, 0x0, 0x0, 0xe00003ff, 0x0⟩,
   ⟨0x180, 32, 4, 0x0, 0x0, 0x0, 0x1, 0x1, 0x1⟩,
   ⟨0x200, 1, 4, 0x0, 0x0, 0x0, 0x0, 0x0, 0x0⟩]

def rowsRdma : List RegRow :=
  [⟨0x40, 1, 4, 0x0, 0x0, 0x0, 0x0, 0xffff, 0x0⟩,
   ⟨0x44, 1, 4, 0xffffff, 0x0, 0x0, 0x0, 0xffffff, 0xffffff⟩,
   ⟨0x100, 16, 64, 0x0, 0x0, 0x0, 0x0, 0x2, 0x2⟩,
   ⟨0x104, 16, 64, 0x0, 0x0, 0x0, 0x0, 0xf0ffffff, 0x0⟩,
   ⟨0x108, 16, 64, 0x0, 0x0, 0x0, 0x0, 0xffffffe0, 0xffffffe0⟩,
   ⟨0x10c, 16, 64, 0x0, 0x0, 0x0, 0x0, 0xffff, 0xffff⟩,
   ⟨0x110, 16, 64, 0x0, 0x0, 0x0, 0x0, 0xffffffe0, 0x0⟩,
   ⟨0x114, 16, 64, 0x0, 0x0, 0x0, 0x0, 0xffff, 0x0⟩,
   ⟨0x118, 16, 64, 0x0, 0x0, 0x0, 0x0, 0x0, 0x0⟩,
   ⟨0x11c, 16, 64, 0x0, 0x0, 0x0, 0x0, 0x7ff001f, 0x7ff001f⟩,
   ⟨0x120, 16, 64, 0x0, 0x0, 0x0, 0x0, 0xffffffff, 0x0⟩,
   ⟨0x124, 16, 64, 0x0, 0x0, 0x0, 0xffffffff, 0xffffffff, 0x0⟩,
   ⟨0x128, 16, 64, 0x0, 0x0, 0x0, 0x0, 0xffffffff, 0x0⟩,
   ⟨0x12c, 16, 64, 0x0, 0x0, 0x0, 0x0, 0xffffffff, 0x0⟩]

def rowsRlane : List RegRow :=
  [⟨0x40, 16, 4, 0x0, 0x0, 0x0, 0x0, 0xffffffff, 0xffffffff⟩]

def rowsRclk : List RegRow :=
  [⟨0x40, 1, 4, 0x0, 0x0, 0x0, 0x0, 0xe000001f, 0x8000001f⟩,
   ⟨0x44, 1, 4, 0x0, 0x0, 0x0, 0x0, 0xe000001f, 0x8000001f⟩,
   ⟨0x48, 1, 4, 0x0, 0x0, 0x0, 0x0, 0x3ff03ff, 0x3ff⟩,
   ⟨0x4c, 1, 4, 0x0, 0x0, 0x0, 0x0, 0xffff, 0x0⟩,
   ⟨0x50, 1, 4, 0x0, 0x0, 0x0, 0x0, 0xffff, 0x0⟩,
   ⟨0x54, 1, 4, 0x0, 0x0, 0x0, 0xffffffff, 0xffffffff, 0x0⟩,
   ⟨0x58, 1, 4, 0x0, 0x0, 0x0, 0xffffffff, 0xffffffff, 0x0⟩,
   ⟨0x5c, 1, 4, 0x0, 0x0, 0x0, 0xffffffff, 0xffffffff, 0x0⟩,
   ⟨0x80, 16, 4, 0x40000000, 0x0, 0x0, 0x0, 0xe0f8003b, 0x40f8003b⟩,
   ⟨0xc0, 16, 4, 0x0, 0x0, 0x0, 0x0, 0xffff000f, 0xffff000f⟩]

def rowsRstat : List RegRow :=
  [⟨0x100, 4, 256, 0xbff003ff, 0x0, 0x0, 0x0, 0xbff003ff, 0xbff003ff⟩,
   ⟨0x104, 4, 256, 0x0, 0x0, 0x0, 0x0, 0xffffffff, 0x0⟩,
   ⟨0x108, 4, 256, 0x0, 0x0, 0x0, 0x0, 0xffffffff, 0x0⟩,
   ⟨0x10c, 4, 256, 0x0, 0x0, 0x0, 0x0, 0xffffffff, 0x0⟩,
   ⟨0x110, 4, 256, 0x0, 0x0, 0x0, 0x0, 0xffffffff, 0x0⟩,
   ⟨0x114, 4, 256, 0x0, 0x0, 0x0, 0x0, 0xffffffff, 0x0⟩,
   ⟨0x118, 4, 256, 0x0, 0x0, 0x0, 0x0, 0xffffffff, 0x0⟩,
   ⟨0x11c, 4, 256, 0x0, 0x0, 0x0, 0x0, 0xffffffff, 0x0⟩,
   ⟨0x120, 4, 256, 0x0, 0x0, 0x0, 0x0, 0xffffffff, 0x0⟩,
   ⟨0x140, 16, 4, 0x0, 0x0, 0x0, 0x0, 0xffffffff, 0x0⟩,
   ⟨0x240, 16, 4, 0x0, 0x0, 0x0, 0x0, 0xffffffff, 0x0⟩,
   ⟨0x340, 16, 4, 0x0, 0x0, 0x0, 0x0, 0xffffffff, 0x0⟩,
   ⟨0x440, 16, 4, 0x0, 0x0, 0x0, 0x0, 0xffffffff, 0x0⟩]

def rowsRjnl : List RegRow :=
  [⟨0x40, 1, 4, 0x0, 0x0, 0x0, 0x0, 0xffff, 0xffff⟩,
   ⟨0x44, 1, 4, 0x0, 0x0, 0x0, 0x0, 0x7fff, 0x7fff⟩,
   ⟨0x48, 1, 4, 0x0, 0x0, 0x0, 0x0, 0x7fff, 0x0⟩,
   ⟨0x4c, 1, 4, 0x0, 0x0, 0x0, 0x0, 0x7fff, 0x0⟩,
   ⟨0x50, 1, 4, 0x0, 0x0, 0x0, 0x0, 0x7fff, 0x0⟩,
   ⟨0x54, 1, 4, 0x0, 0x0, 0x0, 0x7fff, 0x7fff, 0x0⟩,
   ⟨0x58, 1, 4, 0x0, 0x0, 0x0, 0x0, 0xffff, 0xffff⟩,
   ⟨0x5c, 2, 4, 0x0, 0x0, 0x0, 0x0, 0x80ff, 0x80ff⟩,
   ⟨0x64, 1, 4, 0x3ff, 0x0, 0x0, 0x0, 0x3ff, 0x3ff⟩,
   ⟨0x68, 1, 4, 0x0, 0x0, 0x0, 0xffffffff, 0xffffffff, 0x0⟩,
   ⟨0x6c, 1, 4, 0x0, 0x0, 0x0, 0xffffffff, 0xffffffff, 0x0⟩,
   ⟨0x80, 16, 4, 0x0, 0x0, 0x0, 0x0, 0xe000ffff, 0x0⟩]

def rowsTseq : List RegRow :=
  [⟨0x8, 1, 4, 0x0, 0x0, 0x0, 0x0, 0x1, 0x1⟩,
   ⟨0xc, 1, 4, 0x0, 0x0, 0x0, 0x0, 0xe7fffc7f, 0x87e3fc7f⟩,
   ⟨0x40, 1, 4, 0x0, 0x0, 0x0, 0x0, 0xffff, 0xffff⟩,
   ⟨0x44, 1, 4, 0x0, 0x0, 0x0, 0x0, 0xf801ffff, 0x0⟩,
   ⟨0x48, 1, 4, 0x0, 0x0, 0x0, 0x0, 0x3fffffff, 0x3fffffff⟩,
   ⟨0x4c, 1, 4, 0x0, 0x0, 0x0, 0x0, 0xff00ffff, 0x0⟩,
   ⟨0x50, 4, 8, 0x0, 0x0, 0x0, 0x0, 0xffffffff, 0xffffffff⟩,
   ⟨0x54, 4, 8, 0x0, 0x0, 0x0, 0x0, 0x1ffff, 0x1ffff⟩,
   ⟨0x70, 1, 4, 0x0, 0x0, 0x0, 0xffffffff, 0xffffffff, 0x0⟩,
   ⟨0x74, 1, 4, 0x0, 0x0, 0x0, 0xffffffff, 0xffffffff, 0x0⟩,
   ⟨0x78, 1, 4, 0x0, 0x0, 0x0, 0x0, 0xffffffff, 0x0⟩,
   ⟨0x80, 8, 4, 0x0, 0x0, 0x0, 0x0, 0xffffffff, 0xffffffff⟩,
   ⟨0x100, 192, 4, 0x0, 0x0, 0x0, 0x0, 0xffffffff, 0xffffffff⟩]

def rowsTfct : List RegRow :=
  [⟨0x40, 1, 4, 0x0, 0x0, 0x0, 0x0, 0x0, 0x0⟩,
   ⟨0x44, 1, 4, 0x0, 0x0, 0x40000000, 0x0, 0xf8fff0ff, 0x0⟩,
   ⟨0x48, 1, 4, 0x0, 0x0, 0x0, 0x0, 0x1ff, 0x1ff⟩,
   ⟨0x4c, 1, 4, 0x0, 0x0, 0x0, 0xffffffff, 0xffffffff, 0x0⟩,
   ⟨0x50, 4, 4, 0x0, 0x0, 0x0, 0x0, 0xffffffff, 0xffffffff⟩,
   ⟨0x60, 1, 4, 0xf, 0x0, 0x0, 0x0, 0xf, 0xf⟩,
   ⟨0x64, 1, 4, 0x0, 0x0, 0x0, 0xffffffff, 0xffffffff, 0x0⟩,
   ⟨0x68, 1, 4, 0x0, 0x0, 0x0, 0xffffffff, 0xffffffff, 0x0⟩,
   ⟨0x100, 80, 4, 0x0, 0x0, 0x0, 0x0, 0xffffffff, 0x0⟩]

def rowsTsch : List RegRow :=
  [⟨0x40, 2, 4, 0x0, 0x0, 0x0, 0x0, 0xffffffff, 0x0⟩,
   ⟨0x48, 1, 4, 0x0, 0x0, 0x0, 0x0, 0x0, 0x0⟩,
   ⟨0x50, 1, 4, 0xfffff, 0x0, 0x0, 0x0, 0xfffff, 0xfffff⟩,
   ⟨0x54, 1, 4, 0x0, 0x0, 0x0, 0xfffff, 0xfffff, 0x0⟩,
   ⟨0x58, 1, 4, 0xffffff, 0x0, 0x0, 0x0, 0xffffff, 0xffffff⟩,
   ⟨0x5c, 2, 8, 0xffffffff, 0x0, 0x0, 0x0, 0xffffffff, 0xffffffff⟩,
   ⟨0x60, 2, 8, 0xffffffff, 0x0, 0x0, 0x0, 0xffffffff, 0xffffffff⟩,
   ⟨0x6c, 1, 4, 0x0, 0x0, 0x0, 0x0, 0x3, 0x3⟩,
   ⟨0x70, 1, 4, 0xf31f, 0x0, 0x0, 0x0, 0xf31f, 0xf31f⟩,
   ⟨0x74, 1, 4, 0xffffffff, 0x0, 0x0, 0x0, 0xffffffff, 0xffffffff⟩,
   ⟨0x78, 1, 4, 0x0, 0x0, 0x0, 0x0, 0x3, 0x0⟩,
   ⟨0x100, 64, 4, 0xb000ffff, 0x0, 0x0, 0x0, 0xf000ffff, 0xb000ffff⟩]

def rowsTbnk : List RegRow :=
  [⟨0x40, 1, 4, 0x0, 0x0, 0x0, 0x0, 0xffff, 0xffff⟩,
   ⟨0x44, 1, 4, 0x0, 0x0, 0x0, 0x0, 0x0, 0x0⟩,
   ⟨0x48, 1, 4, 0x0, 0x0, 0x0, 0x0, 0x7ff, 0x0⟩,
   ⟨0x4c, 1, 4, 0x0, 0x0, 0x0, 0xffffffff, 0xffffffff, 0x0⟩,
   ⟨0x50, 1, 4, 0x0, 0x0, 0x0, 0xffffffff, 0xffffffff, 0x0⟩,
   ⟨0x54, 1, 4, 0x0, 0x0, 0x0, 0xffffffff, 0xffffffff, 0x0⟩,
   ⟨0x58, 1, 4, 0x0, 0x0, 0x0, 0x0, 0xff00ffff, 0x0⟩,
   ⟨0x5c, 1, 4, 0xffffff, 0x0, 0x0, 0x0, 0xffffff, 0xffffff⟩,
   ⟨0x60, 8, 4, 0x0, 0x0, 0x0, 0xffffffff, 0xffffffff, 0x0⟩,
   ⟨0x80, 1, 4, 0x0, 0x0, 0x0, 0xffffff, 0xffffff, 0x0⟩,
   ⟨0x90, 8, 4, 0x0, 0x0, 0x0, 0x0, 0xffffffff, 0x0⟩]

/-- The registers of a block beyond the common header. -/
def rowsOf : Blk → List RegRow
  | .ddev => rowsDdev
  | .devt => rowsDevt
  | .dcfg => rowsDcfg
  | .dcal => rowsDcal
  | .dclk => rowsDclk
  | .dstr => rowsDstr
  | .dacw => rowsDacw
  | .dpwr => rowsDpwr
  | .dasy => rowsDasy
  | .drcv => rowsDrcv
  | .dbzl => rowsDbzl
  | .dbzc => rowsDbzc
  | .dmif => rowsDmif
  | .dlpe => rowsDlpe
  | .zlnk => rowsZlnk
  | .ethp => rowsEthp
  | .hpci => rowsHpci
  | .hdma => rowsHdma
  | .memc => rowsMemc
  | .mser => rowsMser
  | .rrtr => rowsRrtr
  | .rctl => rowsRctl
  | .rmem => rowsRmem
  | .rdma => rowsRdma
  | .rlane => rowsRlane
  | .rclk => rowsRclk
  | .rstat => rowsRstat
  | .rjnl => rowsRjnl
  | .tseq => rowsTseq
  | .tfct => rowsTfct
  | .tsch => rowsTsch
  | .tbnk => rowsTbnk

/-- The block and instance that a page index holds, apart from the position map (R489). -/
def blkOf (p : Nat) : Option (Blk × Nat) :=
  if p < 0x100 then
    if p = 0 then some (.ddev, 0) else if p = 1 then some (.devt, 0) else if p = 2 then some (.dcfg, 0)
    else if p = 3 then some (.dcal, 0) else if p = 4 then some (.dclk, 0) else if p = 5 then some (.dstr, 0)
    else if p = 6 then some (.dacw, 0) else if p = 7 then some (.dpwr, 0)
    else if p = 8 ∨ p = 9 then some (.dasy, p - 8) else if p = 0xA then some (.drcv, 0)
    else if 0x10 ≤ p ∧ p ≤ 0x13 then some (.dbzl, p - 0x10) else if p = 0x18 then some (.dmif, 0)
    else if p = 0x1C then some (.dlpe, 0) else if 0x40 ≤ p ∧ p ≤ 0x7F then some (.dbzc, p - 0x40) else none
  else if p < 0x200 then
    if p ≤ 0x105 then some (.zlnk, p - 0x100) else if 0x108 ≤ p ∧ p ≤ 0x10F then some (.ethp, p - 0x108)
    else if p = 0x110 then some (.hpci, 0) else if p = 0x111 then some (.hdma, 0) else if p = 0x118 then some (.memc, 0)
    else if p = 0x11C then some (.mser, 0) else if 0x120 ≤ p ∧ p ≤ 0x124 then some (.rrtr, p - 0x120 + 16) else none
  else if p < 0x280 then
    let r := (p - 0x200) / 8
    match p % 8 with
    | 0 => some (.rctl, r)
    | 1 => some (.rmem, r)
    | 2 => some (.rdma, r)
    | 3 => some (.rlane, r)
    | 4 => some (.rclk, r)
    | 5 => some (.rrtr, r)
    | 6 => some (.rstat, r)
    | _ => some (.rjnl, r)
  else if 0x400 ≤ p ∧ p < 0x800 then
    let t := (p - 0x400) / 4
    match p % 4 with
    | 0 => some (.tseq, t)
    | 1 => some (.tfct, t)
    | 2 => some (.tsch, t)
    | _ => some (.tbnk, t)
  else none

/-- Whether the register at byte offset `o` is one of the row. -/
def RegRow.holds (r : RegRow) (o : Nat) : Bool :=
  decide (r.off ≤ o) && decide (o < r.off + r.cnt * r.stride) && decide ((o - r.off) % r.stride = 0)

/-- The row of a block that holds the register at byte offset `o`; routers 16 to 20 have no endpoint table (R489). -/
def rowAt (b : Blk) (inst o : Nat) : Option RegRow :=
  if b = .rrtr ∧ 16 ≤ inst ∧ 0x800 ≤ o then none else (rowsOf b).find? (fun r => r.holds o)

end Sys2Proof.Machine
end

