-- ==== Sys2Proof/Machine/RegNames.lean ====
section
/-! DEFINITION. The names of the register fields of every page: byte offset and bit range (the register tables of
chapters 02 to 16). A register with one field takes the register's name; a row of registers takes its index. -/

namespace Sys2Proof.Machine

/-- A register field: byte offset in its page and bits [hi:lo]. -/
structure Fld where
  off : Nat
  hi : Nat
  lo : Nat
  deriving DecidableEq, Repr

namespace HDR
def PAGE_ID : Fld := ⟨0x00, 31, 0⟩
def PAGE_REV : Fld := ⟨0x04, 31, 0⟩
def CTRL : Fld := ⟨0x08, 31, 0⟩
def STATUS : Fld := ⟨0x0c, 31, 0⟩
def EVT_PEND : Fld := ⟨0x10, 31, 0⟩
def EVT_EN : Fld := ⟨0x14, 31, 0⟩
def EVT_FORCE : Fld := ⟨0x18, 31, 0⟩
def ERR_COUNT : Fld := ⟨0x1c, 31, 0⟩
def OWNER : Fld := ⟨0x20, 31, 0⟩
def SCRATCH : Fld := ⟨0x24, 31, 0⟩
end HDR

namespace DDEV
def PART : Fld := ⟨0x40, 31, 0⟩
def POSITIONS : Fld := ⟨0x44, 8, 0⟩
end DDEV

namespace DEVT
def RING_LO : Fld := ⟨0x40, 31, 12⟩
def RING_HI : Fld := ⟨0x44, 15, 0⟩
def RING_CFG_EN : Fld := ⟨0x48, 31, 31⟩
def RING_CFG_LOG2SZ : Fld := ⟨0x48, 4, 0⟩
def WIDX : Fld := ⟨0x4c, 15, 0⟩
def RIDX : Fld := ⟨0x50, 15, 0⟩
def QCOUNT : Fld := ⟨0x54, 8, 0⟩
def LOST : Fld := ⟨0x58, 31, 0⟩
def QREC (n : Nat) : Fld := ⟨0x60 + 0x4 * n, 31, 0⟩
def QPOP : Fld := ⟨0x70, 31, 0⟩
def SUM_PORT : Fld := ⟨0x80, 17, 17⟩
def SUM_DEV : Fld := ⟨0x80, 16, 16⟩
def SUM_REGION : Fld := ⟨0x80, 15, 0⟩
end DEVT

namespace DCFG
def STATUS_STATE : Fld := ⟨0x40, 31, 28⟩
def STATUS_PHDONE : Fld := ⟨0x40, 27, 24⟩
def STATUS_FELLBACK : Fld := ⟨0x40, 23, 23⟩
def STATUS_SOURCE : Fld := ⟨0x40, 22, 20⟩
def STATUS_SLOT : Fld := ⟨0x40, 19, 19⟩
def STATUS_FIRSTCODE : Fld := ⟨0x40, 15, 8⟩
def STATUS_CODE : Fld := ⟨0x40, 7, 0⟩
def LOAD_CMD_KEY : Fld := ⟨0x44, 31, 16⟩
def LOAD_CMD_SRC : Fld := ⟨0x44, 2, 0⟩
def ERR_OFS : Fld := ⟨0x48, 31, 0⟩
def ERR_SECT : Fld := ⟨0x4c, 8, 0⟩
def IMG_ID : Fld := ⟨0x50, 31, 0⟩
def IMG_VER : Fld := ⟨0x54, 31, 0⟩
def LOAD_TIME : Fld := ⟨0x58, 31, 0⟩
def PINS_ERR : Fld := ⟨0x5c, 6, 6⟩
def PINS_DONELINE : Fld := ⟨0x5c, 5, 5⟩
def PINS_DONEREL : Fld := ⟨0x5c, 4, 4⟩
def PINS_MODE : Fld := ⟨0x5c, 2, 0⟩
def FL_CMD_KEY : Fld := ⟨0x60, 31, 16⟩
def FL_CMD_CMD : Fld := ⟨0x60, 1, 0⟩
def FL_ADDR : Fld := ⟨0x64, 24, 0⟩
def FL_STAT_BUSY : Fld := ⟨0x68, 31, 31⟩
def FL_STAT_CODE : Fld := ⟨0x68, 7, 0⟩
def FL_WEAR : Fld := ⟨0x6c, 16, 0⟩
def BOOT_SEL : Fld := ⟨0x70, 0, 0⟩
def HANDOVER_KEY : Fld := ⟨0x74, 31, 16⟩
def HANDOVER_GO : Fld := ⟨0x74, 0, 0⟩
def FL_BUF (n : Nat) : Fld := ⟨0x400 + 0x4 * n, 31, 0⟩
def LOAD_DATA (n : Nat) : Fld := ⟨0x800 + 0x4 * n, 31, 0⟩
end DCFG

namespace DCAL
def CAL_STAT_SEQ : Fld := ⟨0x40, 31, 16⟩
def CAL_STAT_DEFAULT : Fld := ⟨0x40, 2, 2⟩
def CAL_STAT_FACTORY : Fld := ⟨0x40, 1, 1⟩
def CAL_STAT_BUSY : Fld := ⟨0x40, 0, 0⟩
def CAL_CMD_KEY : Fld := ⟨0x44, 31, 16⟩
def CAL_CMD_CMD : Fld := ⟨0x44, 1, 0⟩
def CAL_RESULT : Fld := ⟨0x48, 7, 0⟩
def ID_SERIAL_LO : Fld := ⟨0x50, 31, 0⟩
def ID_SERIAL_HI : Fld := ⟨0x54, 31, 0⟩
def ID_ORDER_REDUND : Fld := ⟨0x58, 15, 8⟩
def ID_ORDER_PLATE : Fld := ⟨0x58, 7, 0⟩
def ID_DATE : Fld := ⟨0x5c, 31, 0⟩
def ID_MAC_LO : Fld := ⟨0x60, 31, 0⟩
def ID_MAC_HI : Fld := ⟨0x64, 15, 0⟩
def OSC_TRIM (n : Nat) : Fld := ⟨0x80 + 0x4 * n, 7, 0⟩
def TSENS_OFS (n : Nat) : Fld := ⟨0x90 + 0x4 * n, 15, 0⟩
def DAC_GAIN (n : Nat) : Fld := ⟨0x100 + 0x4 * n, 31, 0⟩
def DAC_OFS (n : Nat) : Fld := ⟨0x140 + 0x4 * n, 31, 0⟩
def ADC_GAIN (n : Nat) : Fld := ⟨0x180 + 0x4 * n, 31, 0⟩
def ADC_OFS (n : Nat) : Fld := ⟨0x1c0 + 0x4 * n, 31, 0⟩
def SERDES_DEF (n : Nat) : Fld := ⟨0x200 + 0x4 * n, 31, 0⟩
def ANA_TRIM (n : Nat) : Fld := ⟨0x240 + 0x4 * n, 31, 0⟩
end DCAL

namespace DCLK
def REF_CFG_EXTOK : Fld := ⟨0x40, 9, 9⟩
def REF_CFG_ACTIVE : Fld := ⟨0x40, 8, 8⟩
def REF_CFG_SEL : Fld := ⟨0x40, 0, 0⟩
def TB_LO : Fld := ⟨0x44, 31, 0⟩
def TB_HI : Fld := ⟨0x48, 31, 0⟩
def TB_STEP : Fld := ⟨0x4c, 31, 0⟩
def TB_SLEW_EN : Fld := ⟨0x50, 31, 31⟩
def TB_SLEW_DIR : Fld := ⟨0x50, 30, 30⟩
def TB_SLEW_XPORT : Fld := ⟨0x50, 29, 29⟩
def TB_SLEW_PERIOD : Fld := ⟨0x50, 19, 0⟩
def RING_A : Fld := ⟨0x54, 19, 0⟩
def RING_B : Fld := ⟨0x58, 19, 0⟩
def NET_PLL : Fld := ⟨0x5c, 31, 31⟩
end DCLK

namespace DSTR
def CTRL_RTFLUSH : Fld := ⟨0x8, 1, 1⟩
def CTRL_REJOIN : Fld := ⟨0x8, 0, 0⟩
def ID_CFG_MODE : Fld := ⟨0x40, 31, 30⟩
def ID_CFG_SREQ : Fld := ⟨0x40, 29, 29⟩
def ID_CFG_ID : Fld := ⟨0x40, 17, 0⟩
def ID : Fld := ⟨0x44, 17, 0⟩
def JOIN_STAT_STATE : Fld := ⟨0x48, 31, 29⟩
def JOIN_STAT_CODE : Fld := ⟨0x48, 15, 8⟩
def ALIAS_VALID : Fld := ⟨0x4c, 31, 31⟩
def ALIAS_ID : Fld := ⟨0x4c, 17, 0⟩
def RT_BASE : Fld := ⟨0x50, 31, 0⟩
def RWIN_BASE : Fld := ⟨0x54, 31, 0⟩
def RWIN_LIMIT : Fld := ⟨0x58, 31, 0⟩
def TIME_CFG_SRC : Fld := ⟨0x60, 31, 30⟩
def TIME_CFG_LINK : Fld := ⟨0x60, 29, 27⟩
def TIME_CFG_ALT : Fld := ⟨0x60, 26, 24⟩
def TIME_CFG_ALTEN : Fld := ⟨0x60, 23, 23⟩
def TIME_CFG_TPERIOD : Fld := ⟨0x60, 9, 0⟩
def TIME_STAT_LOCKED : Fld := ⟨0x64, 31, 31⟩
def TIME_STAT_HOLD : Fld := ⟨0x64, 30, 30⟩
def TIME_STAT_USING : Fld := ⟨0x64, 29, 27⟩
def TIME_OFS : Fld := ⟨0x68, 31, 0⟩
def TIME_DLY : Fld := ⟨0x6c, 31, 0⟩
def FREE_CMD_CMD : Fld := ⟨0x74, 31, 30⟩
def FREE_CMD_NUM : Fld := ⟨0x74, 11, 0⟩
def MEMBER_VALID (n : Nat) : Fld := ⟨0x100 + 0x4 * n, 31, 31⟩
def MEMBER_HOPS (n : Nat) : Fld := ⟨0x100 + 0x4 * n, 23, 16⟩
def MEMBER_LINK (n : Nat) : Fld := ⟨0x100 + 0x4 * n, 2, 0⟩
def BR_CTL_EN (n : Nat) : Fld := ⟨0x400 + 0x40 * n, 31, 31⟩
def BR_CTL_IPV6 (n : Nat) : Fld := ⟨0x400 + 0x40 * n, 30, 30⟩
def BR_CTL_TAGS (n : Nat) : Fld := ⟨0x400 + 0x40 * n, 29, 28⟩
def BR_CTL_QUEUE (n : Nat) : Fld := ⟨0x400 + 0x40 * n, 27, 25⟩
def BR_CTL_PORT (n : Nat) : Fld := ⟨0x400 + 0x40 * n, 24, 22⟩
def BR_CTL_UDP (n : Nat) : Fld := ⟨0x400 + 0x40 * n, 15, 0⟩
def BR_TCI_OUTER (n : Nat) : Fld := ⟨0x404 + 0x40 * n, 31, 16⟩
def BR_TCI_INNER (n : Nat) : Fld := ⟨0x404 + 0x40 * n, 15, 0⟩
def BR_DMAC_LO (n : Nat) : Fld := ⟨0x408 + 0x40 * n, 31, 0⟩
def BR_DMAC_HI (n : Nat) : Fld := ⟨0x40c + 0x40 * n, 15, 0⟩
def BR_DIP0 (n : Nat) : Fld := ⟨0x410 + 0x40 * n, 31, 0⟩
def BR_DIP1 (n : Nat) : Fld := ⟨0x414 + 0x40 * n, 31, 0⟩
def BR_DIP2 (n : Nat) : Fld := ⟨0x418 + 0x40 * n, 31, 0⟩
def BR_DIP3 (n : Nat) : Fld := ⟨0x41c + 0x40 * n, 31, 0⟩
def BR_SIP0 (n : Nat) : Fld := ⟨0x420 + 0x40 * n, 31, 0⟩
def BR_SIP1 (n : Nat) : Fld := ⟨0x424 + 0x40 * n, 31, 0⟩
def BR_SIP2 (n : Nat) : Fld := ⟨0x428 + 0x40 * n, 31, 0⟩
def BR_SIP3 (n : Nat) : Fld := ⟨0x42c + 0x40 * n, 31, 0⟩
def BR_STAT_STATE (n : Nat) : Fld := ⟨0x430 + 0x40 * n, 31, 29⟩
def BR_STAT_PEER (n : Nat) : Fld := ⟨0x430 + 0x40 * n, 17, 0⟩
def BR_RTO (n : Nat) : Fld := ⟨0x434 + 0x40 * n, 15, 0⟩
def BR_RESEND (n : Nat) : Fld := ⟨0x438 + 0x40 * n, 31, 0⟩
end DSTR

namespace DACW
def EPOCH_CFG : Fld := ⟨0x40, 16, 0⟩
def EPOCH_LO : Fld := ⟨0x44, 31, 0⟩
def EPOCH_HI : Fld := ⟨0x48, 15, 0⟩
def LKT_BASE : Fld := ⟨0x4c, 14, 0⟩
def PAIR_CFG_EN : Fld := ⟨0x50, 31, 31⟩
def PAIR_CFG_LINK : Fld := ⟨0x50, 26, 24⟩
def PAIR_CFG_PARTNER : Fld := ⟨0x50, 17, 0⟩
def PAIR_STAT_UP : Fld := ⟨0x54, 31, 31⟩
def PAIR_STAT_LOST : Fld := ⟨0x54, 30, 30⟩
def PAIR_STAT_RTT : Fld := ⟨0x54, 15, 0⟩
def CAPT_LATE : Fld := ⟨0x58, 31, 0⟩
def REPLAYS : Fld := ⟨0x5c, 31, 0⟩
end DACW

namespace DPWR
def VIN : Fld := ⟨0x40, 15, 0⟩
def IIN : Fld := ⟨0x44, 15, 0⟩
def PIN : Fld := ⟨0x48, 19, 0⟩
def GOV_CFG_CAP : Fld := ⟨0x4c, 31, 24⟩
def GOV_CFG_HYST : Fld := ⟨0x4c, 19, 16⟩
def GOV_CFG_TLIM : Fld := ⟨0x4c, 7, 0⟩
def GOV_STAT_ACTIVE : Fld := ⟨0x50, 31, 31⟩
def GOV_STAT_EXHAUST : Fld := ⟨0x50, 30, 30⟩
def GOV_STAT_STEPPED : Fld := ⟨0x50, 28, 20⟩
def GOV_STAT_BUDGET : Fld := ⟨0x50, 15, 0⟩
def GOV_STEPS : Fld := ⟨0x54, 31, 0⟩
def PLATE : Fld := ⟨0x58, 15, 0⟩
def FIELD : Fld := ⟨0x5c, 15, 0⟩
def OFF_CAUSE : Fld := ⟨0x60, 7, 0⟩
def ALERT_FORCE : Fld := ⟨0x64, 4, 4⟩
def ALERT_PHASE : Fld := ⟨0x64, 3, 3⟩
def ALERT_THERMAL : Fld := ⟨0x64, 2, 2⟩
def ALERT_EXHAUST : Fld := ⟨0x64, 1, 1⟩
def ALERT_FAILSTATIC : Fld := ⟨0x64, 0, 0⟩
def RAIL_STAT_INWIN (n : Nat) : Fld := ⟨0x100 + 0x4 * n, 31, 31⟩
def RAIL_STAT_PHASES (n : Nat) : Fld := ⟨0x100 + 0x4 * n, 27, 24⟩
def RAIL_STAT_LOST (n : Nat) : Fld := ⟨0x100 + 0x4 * n, 23, 16⟩
def RAIL_STAT_MA (n : Nat) : Fld := ⟨0x100 + 0x4 * n, 15, 0⟩
end DPWR

namespace DASY
def CTRL : Fld := ⟨0x8, 0, 0⟩
def ROLE_ROLE : Fld := ⟨0x40, 31, 30⟩
def ROLE_FENCED : Fld := ⟨0x40, 29, 29⟩
def ROLE_SELFOK : Fld := ⟨0x40, 28, 28⟩
def HB_RX : Fld := ⟨0x44, 31, 0⟩
def LOG_ACK : Fld := ⟨0x48, 31, 0⟩
def TAKEOVERS : Fld := ⟨0x4c, 31, 0⟩
end DASY

namespace DRCV
def STATE_MODE : Fld := ⟨0x40, 31, 30⟩
def STATE_OUTSIDE : Fld := ⟨0x40, 29, 29⟩
def CORR_LIMIT : Fld := ⟨0x44, 15, 0⟩
def DMA_RESV : Fld := ⟨0x48, 15, 0⟩
def CH_MOVED : Fld := ⟨0x4c, 15, 0⟩
def LOG_HEAD : Fld := ⟨0x50, 31, 0⟩
def LOG_SEL : Fld := ⟨0x54, 31, 0⟩
def CMD : Fld := ⟨0x58, 7, 0⟩
def CMD_ARG_SUB : Fld := ⟨0x5c, 23, 16⟩
def CMD_ARG_PAGE : Fld := ⟨0x5c, 11, 0⟩
def CMD_STAT_BUSY : Fld := ⟨0x60, 31, 31⟩
def CMD_STAT_CODE : Fld := ⟨0x60, 15, 8⟩
def CMD_STAT_ACTION : Fld := ⟨0x60, 7, 0⟩
def LINK_SP0 : Fld := ⟨0x64, 31, 0⟩
def LINK_SP1 : Fld := ⟨0x68, 9, 0⟩
def LOG_DATA (n : Nat) : Fld := ⟨0x80 + 0x4 * n, 31, 0⟩
def POSMAP (n : Nat) : Fld := ⟨0xa0 + 0x4 * n, 31, 0⟩
def TILE_RET (n : Nat) : Fld := ⟨0xb0 + 0x4 * n, 31, 0⟩
def CH_WD (n : Nat) : Fld := ⟨0xd0 + 0x4 * n, 31, 0⟩
end DRCV

namespace DBZL
def CLK_LOCK : Fld := ⟨0x40, 31, 31⟩
def CLK_FREQ : Fld := ⟨0x40, 2, 0⟩
def FRAME_PHASE : Fld := ⟨0x44, 31, 16⟩
def FRAME_LEN : Fld := ⟨0x44, 15, 0⟩
def XLINK_TXCW : Fld := ⟨0x48, 25, 16⟩
def XLINK_TXCC : Fld := ⟨0x48, 9, 0⟩
def SLOT_MISS : Fld := ⟨0x4c, 31, 0⟩
def FRAME_CNT : Fld := ⟨0x50, 31, 0⟩
def OVR (n : Nat) : Fld := ⟨0x80 + 0x4 * n, 31, 0⟩
def PORT_CFG_IN_EN (n : Nat) : Fld := ⟨0x100 + 0x8 * n, 31, 31⟩
def PORT_CFG_OUT_EN (n : Nat) : Fld := ⟨0x100 + 0x8 * n, 30, 30⟩
def PORT_CFG_OUT_MODE (n : Nat) : Fld := ⟨0x100 + 0x8 * n, 29, 29⟩
def PORT_CFG_OUT_DLY (n : Nat) : Fld := ⟨0x100 + 0x8 * n, 27, 24⟩
def PORT_CFG_IN_BASE (n : Nat) : Fld := ⟨0x100 + 0x8 * n, 9, 0⟩
def PORT_TAKE (n : Nat) : Fld := ⟨0x104 + 0x8 * n, 11, 0⟩
def PIN_CFG_MODE (n : Nat) : Fld := ⟨0x200 + 0x8 * n, 31, 29⟩
def PIN_CFG_LVDS (n : Nat) : Fld := ⟨0x200 + 0x8 * n, 28, 28⟩
def PIN_CFG_SER (n : Nat) : Fld := ⟨0x200 + 0x8 * n, 27, 26⟩
def PIN_CFG_FRAMED (n : Nat) : Fld := ⟨0x200 + 0x8 * n, 25, 25⟩
def PIN_CFG_PULL (n : Nat) : Fld := ⟨0x200 + 0x8 * n, 24, 23⟩
def PIN_CFG_OEINIT (n : Nat) : Fld := ⟨0x200 + 0x8 * n, 22, 22⟩
def PIN_CFG_INIT (n : Nat) : Fld := ⟨0x200 + 0x8 * n, 20, 13⟩
def PIN_CFG_SEL (n : Nat) : Fld := ⟨0x200 + 0x8 * n, 11, 0⟩
def PIN_OUT_TICK (n : Nat) : Fld := ⟨0x204 + 0x8 * n, 31, 16⟩
def PIN_OUT_BASE (n : Nat) : Fld := ⟨0x204 + 0x8 * n, 9, 0⟩
def XCVR_CFG_HALF (n : Nat) : Fld := ⟨0x380 + 0x4 * n, 31, 31⟩
def XCVR_CFG_TERM (n : Nat) : Fld := ⟨0x380 + 0x4 * n, 30, 30⟩
def XCVR_CFG_ECHO (n : Nat) : Fld := ⟨0x380 + 0x4 * n, 29, 29⟩
end DBZL

namespace DBZC
def CELL (n : Nat) : Fld := ⟨0x40 + 0x4 * n, 31, 0⟩
end DBZC

namespace DMIF
def MIF_STAT : Fld := ⟨0x40, 31, 31⟩
def ADC_CFG_PHASE : Fld := ⟨0x44, 31, 16⟩
def ADC_CFG_PERIOD : Fld := ⟨0x44, 15, 0⟩
def DAC_WD : Fld := ⟨0x48, 19, 0⟩
def DO_FAULT : Fld := ⟨0x4c, 15, 0⟩
def DI_LEVEL : Fld := ⟨0x50, 31, 0⟩
def DI_EVT_VALID : Fld := ⟨0x54, 31, 31⟩
def DI_EVT_RISE : Fld := ⟨0x54, 8, 8⟩
def DI_EVT_INPUT : Fld := ⟨0x54, 4, 0⟩
def DI_TLO : Fld := ⟨0x58, 31, 0⟩
def DI_THI : Fld := ⟨0x5c, 31, 0⟩
def DI_OVR : Fld := ⟨0x60, 31, 0⟩
def ADC_OVR : Fld := ⟨0x64, 31, 0⟩
def DAC_CFG_CONN (n : Nat) : Fld := ⟨0x100 + 0x4 * n, 31, 31⟩
def DAC_CFG_SAFE (n : Nat) : Fld := ⟨0x100 + 0x4 * n, 30, 29⟩
def DAC_CFG_SYNC (n : Nat) : Fld := ⟨0x100 + 0x4 * n, 28, 28⟩
def DAC_CFG_STALE (n : Nat) : Fld := ⟨0x100 + 0x4 * n, 27, 27⟩
def DAC_CFG_BASE (n : Nat) : Fld := ⟨0x100 + 0x4 * n, 9, 0⟩
def DAC_CODE_CORR (n : Nat) : Fld := ⟨0x140 + 0x4 * n, 31, 16⟩
def DAC_CODE_CODE (n : Nat) : Fld := ⟨0x140 + 0x4 * n, 15, 0⟩
def ADC_TAKE (n : Nat) : Fld := ⟨0x180 + 0x4 * n, 11, 0⟩
def ADC_DATA_CLIP (n : Nat) : Fld := ⟨0x1c0 + 0x4 * n, 16, 16⟩
def ADC_DATA_SAMPLE (n : Nat) : Fld := ⟨0x1c0 + 0x4 * n, 15, 0⟩
def DI_CFG_TYPE (n : Nat) : Fld := ⟨0x200 + 0x4 * n, 31, 31⟩
def DI_CFG_EDGE_EN (n : Nat) : Fld := ⟨0x200 + 0x4 * n, 16, 16⟩
def DI_CFG_FILT (n : Nat) : Fld := ⟨0x200 + 0x4 * n, 9, 0⟩
def DO_CFG_EN (n : Nat) : Fld := ⟨0x280 + 0x4 * n, 31, 31⟩
def DO_CFG_SRC (n : Nat) : Fld := ⟨0x280 + 0x4 * n, 11, 0⟩
end DMIF

namespace DLPE
def TRACE_CFG_EN : Fld := ⟨0x40, 31, 31⟩
def TRACE_CFG_MODE : Fld := ⟨0x40, 30, 29⟩
def TRACE_CFG_FORCE : Fld := ⟨0x40, 28, 28⟩
def TRACE_CFG_SEG : Fld := ⟨0x40, 25, 24⟩
def TRACE_CFG_POST : Fld := ⟨0x40, 13, 0⟩
def TRACE_STAT_STATE : Fld := ⟨0x44, 31, 30⟩
def TRACE_STAT_WPTR : Fld := ⟨0x44, 29, 16⟩
def TRACE_STAT_TRIGPOS : Fld := ⟨0x44, 13, 0⟩
def TRIG_MASK : Fld := ⟨0x48, 31, 0⟩
def TRIG_VAL : Fld := ⟨0x4c, 31, 0⟩
def TAP_POS : Fld := ⟨0x50, 15, 8⟩
def TAP_QUEUE : Fld := ⟨0x50, 4, 0⟩
def TRACE_SEL : Fld := ⟨0x54, 13, 0⟩
def TRACE_LO : Fld := ⟨0x58, 31, 0⟩
def TRACE_HI : Fld := ⟨0x5c, 31, 0⟩
def MEM_ALO : Fld := ⟨0x60, 31, 0⟩
def MEM_AHI : Fld := ⟨0x64, 15, 0⟩
def MEM_DATA : Fld := ⟨0x68, 31, 0⟩
def MEM_STAT_BUSY : Fld := ⟨0x6c, 31, 31⟩
def MEM_STAT_BAD : Fld := ⟨0x6c, 8, 8⟩
def MEM_STAT_CODE : Fld := ⟨0x6c, 7, 0⟩
def PROBE_EN (n : Nat) : Fld := ⟨0x80 + 0x4 * n, 31, 31⟩
def PROBE_SEG (n : Nat) : Fld := ⟨0x80 + 0x4 * n, 29, 28⟩
def PROBE_SRC (n : Nat) : Fld := ⟨0x80 + 0x4 * n, 11, 0⟩
end DLPE

namespace ZLNK
def CTRL_CFGTX : Fld := ⟨0x8, 2, 2⟩
def CTRL_CLRLANE : Fld := ⟨0x8, 1, 1⟩
def CTRL_RETRAIN : Fld := ⟨0x8, 0, 0⟩
def CFG_MODE : Fld := ⟨0x40, 31, 30⟩
def CFG_MAXW : Fld := ⟨0x40, 29, 28⟩
def STAT_STATE : Fld := ⟨0x44, 31, 29⟩
def STAT_WIDTH : Fld := ⟨0x44, 28, 27⟩
def STAT_GROUP : Fld := ⟨0x44, 26, 24⟩
def STAT_LANEBAD : Fld := ⟨0x44, 23, 16⟩
def PEER : Fld := ⟨0x48, 17, 0⟩
def BLK_ERR : Fld := ⟨0x4c, 31, 0⟩
def RESEND : Fld := ⟨0x50, 31, 0⟩
def FMT_ERR : Fld := ⟨0x54, 31, 0⟩
def ROUTE_MISS : Fld := ⟨0x58, 31, 0⟩
def DOWNS : Fld := ⟨0x5c, 31, 0⟩
def RETRAINS : Fld := ⟨0x60, 31, 0⟩
def ENG_STAT : Fld := ⟨0x70, 15, 0⟩
def RESP_LIMIT : Fld := ⟨0x74, 23, 0⟩
def RDEV_DIR (n : Nat) : Fld := ⟨0x80 + 0x4 * n, 31, 31⟩
def RDEV_DEV (n : Nat) : Fld := ⟨0x80 + 0x4 * n, 17, 0⟩
def CH_CTRL_RESET (n : Nat) : Fld := ⟨0x100 + 0x40 * n, 2, 2⟩
def CH_CTRL_HALTREQ (n : Nat) : Fld := ⟨0x100 + 0x40 * n, 1, 1⟩
def CH_CTRL_START (n : Nat) : Fld := ⟨0x100 + 0x40 * n, 0, 0⟩
def CH_STAT_STATE (n : Nat) : Fld := ⟨0x104 + 0x40 * n, 31, 29⟩
def CH_STAT_DBPEND (n : Nat) : Fld := ⟨0x104 + 0x40 * n, 28, 28⟩
def CH_STAT_LASTCODE (n : Nat) : Fld := ⟨0x104 + 0x40 * n, 23, 16⟩
def CH_STAT_INDEX (n : Nat) : Fld := ⟨0x104 + 0x40 * n, 15, 0⟩
def CH_HEAD_LO (n : Nat) : Fld := ⟨0x108 + 0x40 * n, 31, 5⟩
def CH_HEAD_HI (n : Nat) : Fld := ⟨0x10c + 0x40 * n, 15, 0⟩
def CH_CUR_LO (n : Nat) : Fld := ⟨0x110 + 0x40 * n, 31, 5⟩
def CH_CUR_HI (n : Nat) : Fld := ⟨0x114 + 0x40 * n, 15, 0⟩
def CH_DOORBELL (n : Nat) : Fld := ⟨0x118 + 0x40 * n, 31, 0⟩
def CH_CFG_PRIO (n : Nat) : Fld := ⟨0x11c + 0x40 * n, 26, 24⟩
def CH_CFG_SHARE (n : Nat) : Fld := ⟨0x11c + 0x40 * n, 23, 16⟩
def CH_CFG_BURST (n : Nat) : Fld := ⟨0x11c + 0x40 * n, 4, 0⟩
def CH_LASTSTAT (n : Nat) : Fld := ⟨0x120 + 0x40 * n, 31, 0⟩
def CH_DESC_COUNT (n : Nat) : Fld := ⟨0x124 + 0x40 * n, 31, 0⟩
def CH_BYTES_LO (n : Nat) : Fld := ⟨0x128 + 0x40 * n, 31, 0⟩
def CH_BYTES_HI (n : Nat) : Fld := ⟨0x12c + 0x40 * n, 31, 0⟩
def EP_CTL_EN (n : Nat) : Fld := ⟨0x800 + 0x20 * n, 31, 31⟩
def EP_CTL_DIR (n : Nat) : Fld := ⟨0x800 + 0x20 * n, 30, 30⟩
def EP_CTL_PROT (n : Nat) : Fld := ⟨0x800 + 0x20 * n, 29, 29⟩
def EP_CTL_VC (n : Nat) : Fld := ⟨0x800 + 0x20 * n, 28, 28⟩
def EP_CTL_FRAME (n : Nat) : Fld := ⟨0x800 + 0x20 * n, 27, 27⟩
def EP_CTL_EXC (n : Nat) : Fld := ⟨0x800 + 0x20 * n, 26, 26⟩
def EP_CTL_LOG2SZ (n : Nat) : Fld := ⟨0x800 + 0x20 * n, 22, 18⟩
def EP_CTL_STREAM (n : Nat) : Fld := ⟨0x800 + 0x20 * n, 13, 0⟩
def EP_ROUTE_DRT (n : Nat) : Fld := ⟨0x804 + 0x20 * n, 31, 27⟩
def EP_ROUTE_DPT (n : Nat) : Fld := ⟨0x804 + 0x20 * n, 26, 24⟩
def EP_ROUTE_BUF (n : Nat) : Fld := ⟨0x804 + 0x20 * n, 18, 0⟩
def EP_SEQ (n : Nat) : Fld := ⟨0x808 + 0x20 * n, 31, 0⟩
def EP_CRED (n : Nat) : Fld := ⟨0x80c + 0x20 * n, 20, 0⟩
def EP_RADDR (n : Nat) : Fld := ⟨0x810 + 0x20 * n, 31, 0⟩
def EP_LASTEMIT (n : Nat) : Fld := ⟨0x814 + 0x20 * n, 31, 0⟩
def EP_ACKED (n : Nat) : Fld := ⟨0x818 + 0x20 * n, 31, 0⟩
def EP_DUP (n : Nat) : Fld := ⟨0x81c + 0x20 * n, 31, 0⟩
end ZLNK

namespace ETHP
def CFG_SPEED : Fld := ⟨0x40, 31, 31⟩
def CFG_FEC : Fld := ⟨0x40, 30, 29⟩
def CFG_PROMISC : Fld := ⟨0x40, 28, 28⟩
def CFG_MAXLEN : Fld := ⟨0x40, 27, 14⟩
def STAT : Fld := ⟨0x44, 31, 30⟩
def TS_ADJ_RXLAT : Fld := ⟨0x48, 31, 16⟩
def TS_ADJ_TXLAT : Fld := ⟨0x48, 15, 0⟩
def TS_ID_VALID : Fld := ⟨0x4c, 31, 31⟩
def TS_ID_STREAM : Fld := ⟨0x4c, 13, 0⟩
def TS_SEQ : Fld := ⟨0x50, 31, 0⟩
def TS_LO : Fld := ⟨0x54, 31, 0⟩
def TS_HI : Fld := ⟨0x58, 31, 0⟩
def GCL_CTL_EN : Fld := ⟨0x5c, 31, 31⟩
def GCL_CTL_SWAP : Fld := ⟨0x5c, 30, 30⟩
def GCL_CTL_PEND : Fld := ⟨0x5c, 29, 29⟩
def GCL_CTL_LAST : Fld := ⟨0x5c, 5, 0⟩
def GCL_CYCLE : Fld := ⟨0x60, 31, 0⟩
def GCL_BASE_LO : Fld := ⟨0x64, 31, 0⟩
def GCL_BASE_HI : Fld := ⟨0x68, 31, 0⟩
def RX_FRAMES : Fld := ⟨0x70, 31, 0⟩
def RX_FCS : Fld := ⟨0x74, 31, 0⟩
def RX_LEN : Fld := ⟨0x78, 31, 0⟩
def RX_DEPTH : Fld := ⟨0x7c, 31, 0⟩
def RX_OVR : Fld := ⟨0x80, 31, 0⟩
def RX_BIG : Fld := ⟨0x84, 31, 0⟩
def RX_DROP : Fld := ⟨0x88, 31, 0⟩
def TX_FRAMES : Fld := ⟨0x8c, 31, 0⟩
def TS_OVR : Fld := ⟨0x90, 31, 0⟩
def RULE0_EN (n : Nat) : Fld := ⟨0x100 + 0x8 * n, 31, 31⟩
def RULE0_ACT (n : Nat) : Fld := ⟨0x100 + 0x8 * n, 30, 29⟩
def RULE0_TARGET (n : Nat) : Fld := ⟨0x100 + 0x8 * n, 28, 24⟩
def RULE0_VID (n : Nat) : Fld := ⟨0x100 + 0x8 * n, 11, 0⟩
def RULE1_ETYPE (n : Nat) : Fld := ⟨0x104 + 0x8 * n, 31, 16⟩
def RULE1_UDPDST (n : Nat) : Fld := ⟨0x104 + 0x8 * n, 15, 0⟩
def GCL0 (n : Nat) : Fld := ⟨0x200 + 0x8 * n, 7, 0⟩
def GCL1 (n : Nat) : Fld := ⟨0x204 + 0x8 * n, 31, 0⟩
def EP_CTL_EN (n : Nat) : Fld := ⟨0x400 + 0x20 * n, 31, 31⟩
def EP_CTL_DIR (n : Nat) : Fld := ⟨0x400 + 0x20 * n, 30, 30⟩
def EP_CTL_PROT (n : Nat) : Fld := ⟨0x400 + 0x20 * n, 29, 29⟩
def EP_CTL_VC (n : Nat) : Fld := ⟨0x400 + 0x20 * n, 28, 28⟩
def EP_CTL_FRAME (n : Nat) : Fld := ⟨0x400 + 0x20 * n, 27, 27⟩
def EP_CTL_EXC (n : Nat) : Fld := ⟨0x400 + 0x20 * n, 26, 26⟩
def EP_CTL_LOG2SZ (n : Nat) : Fld := ⟨0x400 + 0x20 * n, 22, 18⟩
def EP_CTL_STREAM (n : Nat) : Fld := ⟨0x400 + 0x20 * n, 13, 0⟩
def EP_ROUTE_DRT (n : Nat) : Fld := ⟨0x404 + 0x20 * n, 31, 27⟩
def EP_ROUTE_DPT (n : Nat) : Fld := ⟨0x404 + 0x20 * n, 26, 24⟩
def EP_ROUTE_BUF (n : Nat) : Fld := ⟨0x404 + 0x20 * n, 18, 0⟩
def EP_SEQ (n : Nat) : Fld := ⟨0x408 + 0x20 * n, 31, 0⟩
def EP_CRED (n : Nat) : Fld := ⟨0x40c + 0x20 * n, 20, 0⟩
def EP_RADDR (n : Nat) : Fld := ⟨0x410 + 0x20 * n, 31, 0⟩
def EP_LASTEMIT (n : Nat) : Fld := ⟨0x414 + 0x20 * n, 31, 0⟩
def EP_ACKED (n : Nat) : Fld := ⟨0x418 + 0x20 * n, 31, 0⟩
def EP_DUP (n : Nat) : Fld := ⟨0x41c + 0x20 * n, 31, 0⟩
end ETHP

namespace HPCI
def LINK_STATE : Fld := ⟨0x40, 31, 29⟩
def LINK_PERS : Fld := ⟨0x40, 28, 28⟩
def LINK_WIDTH : Fld := ⟨0x40, 27, 24⟩
def LINK_SPEED : Fld := ⟨0x40, 23, 20⟩
def LINK_LANEBAD : Fld := ⟨0x40, 7, 0⟩
def IMOD : Fld := ⟨0x44, 9, 0⟩
def SWVEC : Fld := ⟨0x48, 8, 0⟩
def LAST_ERR_CODE : Fld := ⟨0x4c, 31, 24⟩
def LAST_ERR_BAR : Fld := ⟨0x4c, 0, 0⟩
def ERR_ADDR_LO : Fld := ⟨0x50, 31, 0⟩
def ERR_ADDR_HI : Fld := ⟨0x54, 15, 0⟩
def RX_ERR : Fld := ⟨0x58, 31, 0⟩
def DOWNS : Fld := ⟨0x5c, 31, 0⟩
def HEP_CTL_EN (n : Nat) : Fld := ⟨0x800 + 0x20 * n, 31, 31⟩
def HEP_CTL_DIR (n : Nat) : Fld := ⟨0x800 + 0x20 * n, 30, 30⟩
def HEP_CTL_PROT (n : Nat) : Fld := ⟨0x800 + 0x20 * n, 29, 29⟩
def HEP_CTL_VC (n : Nat) : Fld := ⟨0x800 + 0x20 * n, 28, 28⟩
def HEP_CTL_LOG2SZ (n : Nat) : Fld := ⟨0x800 + 0x20 * n, 21, 18⟩
def HEP_CTL_STREAM (n : Nat) : Fld := ⟨0x800 + 0x20 * n, 13, 0⟩
def HEP_ROUTE_DRT (n : Nat) : Fld := ⟨0x804 + 0x20 * n, 31, 27⟩
def HEP_ROUTE_DPT (n : Nat) : Fld := ⟨0x804 + 0x20 * n, 26, 24⟩
def HEP_ROUTE_BUF (n : Nat) : Fld := ⟨0x804 + 0x20 * n, 18, 0⟩
def HEP_HRLO_HRING (n : Nat) : Fld := ⟨0x808 + 0x20 * n, 31, 12⟩
def HEP_HRLO_IEN (n : Nat) : Fld := ⟨0x808 + 0x20 * n, 0, 0⟩
def HEP_HRHI (n : Nat) : Fld := ⟨0x80c + 0x20 * n, 31, 0⟩
def HEP_SEQ (n : Nat) : Fld := ⟨0x810 + 0x20 * n, 31, 0⟩
def HEP_DIDX (n : Nat) : Fld := ⟨0x814 + 0x20 * n, 15, 0⟩
def HEP_HIDX (n : Nat) : Fld := ⟨0x818 + 0x20 * n, 15, 0⟩
def HEP_DUP (n : Nat) : Fld := ⟨0x81c + 0x20 * n, 31, 0⟩
end HPCI

namespace HDMA
def ENG_STAT : Fld := ⟨0x40, 31, 0⟩
def RESP_LIMIT : Fld := ⟨0x44, 23, 0⟩
def DONE_PEND : Fld := ⟨0x48, 31, 0⟩
def CH_CTRL_RESET (n : Nat) : Fld := ⟨0x100 + 0x40 * n, 2, 2⟩
def CH_CTRL_HALTREQ (n : Nat) : Fld := ⟨0x100 + 0x40 * n, 1, 1⟩
def CH_CTRL_START (n : Nat) : Fld := ⟨0x100 + 0x40 * n, 0, 0⟩
def CH_STAT_STATE (n : Nat) : Fld := ⟨0x104 + 0x40 * n, 31, 29⟩
def CH_STAT_DBPEND (n : Nat) : Fld := ⟨0x104 + 0x40 * n, 28, 28⟩
def CH_STAT_LASTCODE (n : Nat) : Fld := ⟨0x104 + 0x40 * n, 23, 16⟩
def CH_STAT_INDEX (n : Nat) : Fld := ⟨0x104 + 0x40 * n, 15, 0⟩
def CH_HEAD_LO (n : Nat) : Fld := ⟨0x108 + 0x40 * n, 31, 5⟩
def CH_HEAD_HI (n : Nat) : Fld := ⟨0x10c + 0x40 * n, 15, 0⟩
def CH_CUR_LO (n : Nat) : Fld := ⟨0x110 + 0x40 * n, 31, 5⟩
def CH_CUR_HI (n : Nat) : Fld := ⟨0x114 + 0x40 * n, 15, 0⟩
def CH_DOORBELL (n : Nat) : Fld := ⟨0x118 + 0x40 * n, 31, 0⟩
def CH_CFG_PRIO (n : Nat) : Fld := ⟨0x11c + 0x40 * n, 26, 24⟩
def CH_CFG_SHARE (n : Nat) : Fld := ⟨0x11c + 0x40 * n, 23, 16⟩
def CH_CFG_BURST (n : Nat) : Fld := ⟨0x11c + 0x40 * n, 4, 0⟩
def CH_LASTSTAT (n : Nat) : Fld := ⟨0x120 + 0x40 * n, 31, 0⟩
def CH_DESC_COUNT (n : Nat) : Fld := ⟨0x124 + 0x40 * n, 31, 0⟩
def CH_BYTES_LO (n : Nat) : Fld := ⟨0x128 + 0x40 * n, 31, 0⟩
def CH_BYTES_HI (n : Nat) : Fld := ⟨0x12c + 0x40 * n, 31, 0⟩
end HDMA

namespace MEMC
def STAT_INIT_DONE : Fld := ⟨0x40, 31, 31⟩
def STAT_TRAINED : Fld := ⟨0x40, 30, 30⟩
def ECC_CORR : Fld := ⟨0x44, 31, 0⟩
def ECC_UNCORR : Fld := ⟨0x48, 31, 0⟩
def ECC_ADDR_LO : Fld := ⟨0x4c, 31, 3⟩
def ECC_ADDR_HI_CODE : Fld := ⟨0x50, 31, 24⟩
def ECC_ADDR_HI_ADDR : Fld := ⟨0x50, 2, 0⟩
def SCRUB_EN : Fld := ⟨0x54, 31, 31⟩
def SCRUB_HOURS : Fld := ⟨0x54, 7, 0⟩
def SCRUB_POS : Fld := ⟨0x58, 31, 0⟩
end MEMC

namespace MSER
def UART_CFG_MODE (n : Nat) : Fld := ⟨0x40 + 0x20 * n, 31, 30⟩
def UART_CFG_PARITY (n : Nat) : Fld := ⟨0x40 + 0x20 * n, 29, 28⟩
def UART_CFG_STOP2 (n : Nat) : Fld := ⟨0x40 + 0x20 * n, 27, 27⟩
def UART_BAUD (n : Nat) : Fld := ⟨0x44 + 0x20 * n, 28, 0⟩
def UART_DATA (n : Nat) : Fld := ⟨0x48 + 0x20 * n, 7, 0⟩
def UART_STAT_OVR (n : Nat) : Fld := ⟨0x4c + 0x20 * n, 31, 24⟩
def UART_STAT_RXCNT (n : Nat) : Fld := ⟨0x4c + 0x20 * n, 15, 8⟩
def UART_STAT_TXFREE (n : Nat) : Fld := ⟨0x4c + 0x20 * n, 7, 0⟩
def SPI_CFG_ROLE : Fld := ⟨0x80, 31, 31⟩
def SPI_CFG_QUAD : Fld := ⟨0x80, 30, 30⟩
def SPI_CFG_CPOL_CPHA : Fld := ⟨0x80, 29, 28⟩
def SPI_CFG_DIV : Fld := ⟨0x80, 7, 0⟩
def SPI_CMD_GO : Fld := ⟨0x84, 31, 31⟩
def SPI_CMD_RX : Fld := ⟨0x84, 30, 30⟩
def SPI_CMD_RXLEN : Fld := ⟨0x84, 16, 8⟩
def SPI_CMD_TXLEN : Fld := ⟨0x84, 7, 0⟩
def SPI_STAT : Fld := ⟨0x88, 31, 31⟩
def I2C_CFG_SPEED : Fld := ⟨0x8c, 31, 30⟩
def I2C_CFG_ADDR_SEL : Fld := ⟨0x8c, 1, 0⟩
def I2C_CMD_GO : Fld := ⟨0x90, 31, 31⟩
def I2C_CMD_READ : Fld := ⟨0x90, 30, 30⟩
def I2C_CMD_ADDR : Fld := ⟨0x90, 29, 23⟩
def I2C_CMD_LEN : Fld := ⟨0x90, 7, 0⟩
def I2C_STAT_BUSY : Fld := ⟨0x94, 31, 31⟩
def I2C_STAT_NACK : Fld := ⟨0x94, 30, 30⟩
def SPI_BUF (n : Nat) : Fld := ⟨0x100 + 0x4 * n, 31, 0⟩
def I2C_BUF (n : Nat) : Fld := ⟨0x200 + 0x4 * n, 31, 0⟩
end MSER

namespace RRTR
def LINK_STAT : Fld := ⟨0x40, 15, 0⟩
def VN_CHK : Fld := ⟨0x44, 7, 0⟩
def URG_BASE : Fld := ⟨0x48, 15, 0⟩
def STRM_CFG_CRBATCH : Fld := ⟨0x4c, 25, 16⟩
def STRM_CFG_PACK_WAIT : Fld := ⟨0x4c, 7, 0⟩
def CORR : Fld := ⟨0x50, 31, 0⟩
def RETRY : Fld := ⟨0x54, 31, 0⟩
def UNCORR : Fld := ⟨0x58, 31, 0⟩
def URG15 : Fld := ⟨0x5c, 31, 0⟩
def DUP : Fld := ⟨0x60, 31, 0⟩
def EP_CTL_EN (n : Nat) : Fld := ⟨0x800 + 0x10 * n, 31, 31⟩
def EP_CTL_MODE (n : Nat) : Fld := ⟨0x800 + 0x10 * n, 30, 29⟩
def EP_CTL_PROT (n : Nat) : Fld := ⟨0x800 + 0x10 * n, 28, 28⟩
def EP_CTL_VC (n : Nat) : Fld := ⟨0x800 + 0x10 * n, 27, 27⟩
def EP_CTL_CH (n : Nat) : Fld := ⟨0x800 + 0x10 * n, 26, 23⟩
def EP_CTL_LOG2SZ (n : Nat) : Fld := ⟨0x800 + 0x10 * n, 22, 18⟩
def EP_CTL_STREAM (n : Nat) : Fld := ⟨0x800 + 0x10 * n, 13, 0⟩
def EP_ROUTE_DRT (n : Nat) : Fld := ⟨0x804 + 0x10 * n, 31, 27⟩
def EP_ROUTE_DPT (n : Nat) : Fld := ⟨0x804 + 0x10 * n, 26, 24⟩
def EP_ROUTE_BUF (n : Nat) : Fld := ⟨0x804 + 0x10 * n, 18, 0⟩
def EP_SEQ (n : Nat) : Fld := ⟨0x808 + 0x10 * n, 31, 0⟩
def EP_CRED_BASE (n : Nat) : Fld := ⟨0x80c + 0x10 * n, 31, 0⟩
def EP_CRED_COUNT (n : Nat) : Fld := ⟨0x80c + 0x10 * n, 20, 0⟩
end RRTR

namespace RCTL
def EVT_SUM : Fld := ⟨0x40, 7, 0⟩
def TILE_SUM : Fld := ⟨0x44, 15, 0⟩
end RCTL

namespace RMEM
def PWR_STATE : Fld := ⟨0x40, 31, 0⟩
def PWR_CMD_BANK : Fld := ⟨0x44, 11, 8⟩
def PWR_CMD_TARGET : Fld := ⟨0x44, 1, 0⟩
def PWR_RESULT_LASTBANK : Fld := ⟨0x48, 11, 8⟩
def PWR_RESULT_LASTCODE : Fld := ⟨0x48, 7, 0⟩
def COLLIDE : Fld := ⟨0x4c, 31, 0⟩
def ECC_CORR : Fld := ⟨0x50, 31, 0⟩
def ECC_UNCORR : Fld := ⟨0x54, 31, 0⟩
def ECC_ADDR_CODE : Fld := ⟨0x58, 31, 24⟩
def ECC_ADDR_WORD : Fld := ⟨0x58, 18, 0⟩
def SPARE_MAP_USED : Fld := ⟨0x5c, 31, 31⟩
def SPARE_MAP_COPYING : Fld := ⟨0x5c, 30, 30⟩
def SPARE_MAP_LBANK : Fld := ⟨0x5c, 19, 16⟩
def SPARE_MAP_RETIRED : Fld := ⟨0x5c, 15, 0⟩
def POLISH_CFG_EN : Fld := ⟨0x60, 31, 31⟩
def POLISH_CFG_INTERVAL : Fld := ⟨0x60, 15, 0⟩
def POLISH_POS : Fld := ⟨0x64, 14, 0⟩
def POLISH_PASS : Fld := ⟨0x68, 31, 0⟩
def POLISH_FAIL : Fld := ⟨0x6c, 31, 0⟩
def LOCK_STATE (n : Nat) : Fld := ⟨0x100 + 0x4 * n, 31, 30⟩
def LOCK_ORPH (n : Nat) : Fld := ⟨0x100 + 0x4 * n, 29, 29⟩
def LOCK_CMD (n : Nat) : Fld := ⟨0x100 + 0x4 * n, 25, 24⟩
def LOCK_OWNER (n : Nat) : Fld := ⟨0x100 + 0x4 * n, 9, 0⟩
def SEM_TAKE (n : Nat) : Fld := ⟨0x180 + 0x4 * n, 0, 0⟩
def SEM_GIVE : Fld := ⟨0x200, 31, 0⟩
end RMEM

namespace RDMA
def ENG_STAT : Fld := ⟨0x40, 15, 0⟩
def RESP_LIMIT : Fld := ⟨0x44, 23, 0⟩
def CH_CTRL_RESET (n : Nat) : Fld := ⟨0x100 + 0x40 * n, 2, 2⟩
def CH_CTRL_HALTREQ (n : Nat) : Fld := ⟨0x100 + 0x40 * n, 1, 1⟩
def CH_CTRL_START (n : Nat) : Fld := ⟨0x100 + 0x40 * n, 0, 0⟩
def CH_STAT_STATE (n : Nat) : Fld := ⟨0x104 + 0x40 * n, 31, 29⟩
def CH_STAT_DBPEND (n : Nat) : Fld := ⟨0x104 + 0x40 * n, 28, 28⟩
def CH_STAT_LASTCODE (n : Nat) : Fld := ⟨0x104 + 0x40 * n, 23, 16⟩
def CH_STAT_INDEX (n : Nat) : Fld := ⟨0x104 + 0x40 * n, 15, 0⟩
def CH_HEAD_LO (n : Nat) : Fld := ⟨0x108 + 0x40 * n, 31, 5⟩
def CH_HEAD_HI (n : Nat) : Fld := ⟨0x10c + 0x40 * n, 15, 0⟩
def CH_CUR_LO (n : Nat) : Fld := ⟨0x110 + 0x40 * n, 31, 5⟩
def CH_CUR_HI (n : Nat) : Fld := ⟨0x114 + 0x40 * n, 15, 0⟩
def CH_DOORBELL (n : Nat) : Fld := ⟨0x118 + 0x40 * n, 31, 0⟩
def CH_CFG_PRIO (n : Nat) : Fld := ⟨0x11c + 0x40 * n, 26, 24⟩
def CH_CFG_SHARE (n : Nat) : Fld := ⟨0x11c + 0x40 * n, 23, 16⟩
def CH_CFG_BURST (n : Nat) : Fld := ⟨0x11c + 0x40 * n, 4, 0⟩
def CH_LASTSTAT (n : Nat) : Fld := ⟨0x120 + 0x40 * n, 31, 0⟩
def CH_DESC_COUNT (n : Nat) : Fld := ⟨0x124 + 0x40 * n, 31, 0⟩
def CH_BYTES_LO (n : Nat) : Fld := ⟨0x128 + 0x40 * n, 31, 0⟩
def CH_BYTES_HI (n : Nat) : Fld := ⟨0x12c + 0x40 * n, 31, 0⟩
end RDMA

namespace RLANE
def LANE_CFG_W1 (n : Nat) : Fld := ⟨0x40 + 0x4 * n, 31, 28⟩
def LANE_CFG_W0 (n : Nat) : Fld := ⟨0x40 + 0x4 * n, 27, 24⟩
def LANE_CFG_S1 (n : Nat) : Fld := ⟨0x40 + 0x4 * n, 23, 20⟩
def LANE_CFG_S0 (n : Nat) : Fld := ⟨0x40 + 0x4 * n, 19, 16⟩
def LANE_CFG_E1 (n : Nat) : Fld := ⟨0x40 + 0x4 * n, 15, 12⟩
def LANE_CFG_E0 (n : Nat) : Fld := ⟨0x40 + 0x4 * n, 11, 8⟩
def LANE_CFG_N1 (n : Nat) : Fld := ⟨0x40 + 0x4 * n, 7, 4⟩
def LANE_CFG_N0 (n : Nat) : Fld := ⟨0x40 + 0x4 * n, 3, 0⟩
end RLANE

namespace RCLK
def PLLA_CFG_EN : Fld := ⟨0x40, 31, 31⟩
def PLLA_CFG_LOCK : Fld := ⟨0x40, 30, 30⟩
def PLLA_CFG_INUSE : Fld := ⟨0x40, 29, 29⟩
def PLLA_CFG_MULT : Fld := ⟨0x40, 4, 0⟩
def PLLB_CFG_EN : Fld := ⟨0x44, 31, 31⟩
def PLLB_CFG_LOCK : Fld := ⟨0x44, 30, 30⟩
def PLLB_CFG_INUSE : Fld := ⟨0x44, 29, 29⟩
def PLLB_CFG_MULT : Fld := ⟨0x44, 4, 0⟩
def RAIL_MEAS : Fld := ⟨0x48, 25, 16⟩
def RAIL_SET : Fld := ⟨0x48, 9, 0⟩
def TEMP : Fld := ⟨0x4c, 15, 0⟩
def NEIGH : Fld := ⟨0x50, 15, 0⟩
def SLIP_CNT : Fld := ⟨0x54, 31, 0⟩
def LATE_CNT : Fld := ⟨0x58, 31, 0⟩
def TRIM_CNT : Fld := ⟨0x5c, 31, 0⟩
def TILE_CLK_BUSY (n : Nat) : Fld := ⟨0x80 + 0x4 * n, 31, 31⟩
def TILE_CLK_PIN (n : Nat) : Fld := ⟨0x80 + 0x4 * n, 30, 30⟩
def TILE_CLK_LOCKABLE (n : Nat) : Fld := ⟨0x80 + 0x4 * n, 29, 29⟩
def TILE_CLK_CURSRC (n : Nat) : Fld := ⟨0x80 + 0x4 * n, 23, 22⟩
def TILE_CLK_CURDIV (n : Nat) : Fld := ⟨0x80 + 0x4 * n, 21, 19⟩
def TILE_CLK_DIV (n : Nat) : Fld := ⟨0x80 + 0x4 * n, 5, 3⟩
def TILE_CLK_SRC (n : Nat) : Fld := ⟨0x80 + 0x4 * n, 1, 0⟩
def LLCFG_MODE (n : Nat) : Fld := ⟨0xc0 + 0x4 * n, 31, 16⟩
def LLCFG_DLY (n : Nat) : Fld := ⟨0xc0 + 0x4 * n, 3, 0⟩
end RCLK

namespace RSTAT
def CFG_EN (n : Nat) : Fld := ⟨0x100 + 0x100 * n, 31, 31⟩
def CFG_CLR (n : Nat) : Fld := ⟨0x100 + 0x100 * n, 30, 30⟩
def CFG_MASK (n : Nat) : Fld := ⟨0x100 + 0x100 * n, 29, 20⟩
def CFG_ID (n : Nat) : Fld := ⟨0x100 + 0x100 * n, 9, 0⟩
def TXN (n : Nat) : Fld := ⟨0x104 + 0x100 * n, 31, 0⟩
def RD_LO (n : Nat) : Fld := ⟨0x108 + 0x100 * n, 31, 0⟩
def RD_HI (n : Nat) : Fld := ⟨0x10c + 0x100 * n, 31, 0⟩
def WR_LO (n : Nat) : Fld := ⟨0x110 + 0x100 * n, 31, 0⟩
def WR_HI (n : Nat) : Fld := ⟨0x114 + 0x100 * n, 31, 0⟩
def LAT_MAX (n : Nat) : Fld := ⟨0x118 + 0x100 * n, 31, 0⟩
def LAT_SUM_LO (n : Nat) : Fld := ⟨0x11c + 0x100 * n, 31, 0⟩
def LAT_SUM_HI (n : Nat) : Fld := ⟨0x120 + 0x100 * n, 31, 0⟩
def HIST_A (n : Nat) : Fld := ⟨0x140 + 0x4 * n, 31, 0⟩
def HIST_B (n : Nat) : Fld := ⟨0x240 + 0x4 * n, 31, 0⟩
def HIST_C (n : Nat) : Fld := ⟨0x340 + 0x4 * n, 31, 0⟩
def HIST_D (n : Nat) : Fld := ⟨0x440 + 0x4 * n, 31, 0⟩
end RSTAT

namespace RJNL
def JBANKS : Fld := ⟨0x40, 15, 0⟩
def JSIZE : Fld := ⟨0x44, 14, 0⟩
def JHEAD : Fld := ⟨0x48, 14, 0⟩
def JTAIL : Fld := ⟨0x4c, 14, 0⟩
def JFILL : Fld := ⟨0x50, 14, 0⟩
def JMAX : Fld := ⟨0x54, 14, 0⟩
def PROT : Fld := ⟨0x58, 15, 0⟩
def LSTEP_EN (n : Nat) : Fld := ⟨0x5c + 0x4 * n, 15, 15⟩
def LSTEP_SECOND (n : Nat) : Fld := ⟨0x5c + 0x4 * n, 7, 4⟩
def LSTEP_FIRST (n : Nat) : Fld := ⟨0x5c + 0x4 * n, 3, 0⟩
def FLUSH : Fld := ⟨0x64, 9, 0⟩
def FULL_CNT : Fld := ⟨0x68, 31, 0⟩
def CAPT_LATE : Fld := ⟨0x6c, 31, 0⟩
def LKT_STAT_BUSY (n : Nat) : Fld := ⟨0x80 + 0x4 * n, 31, 31⟩
def LKT_STAT_HALF (n : Nat) : Fld := ⟨0x80 + 0x4 * n, 30, 30⟩
def LKT_STAT_VALID (n : Nat) : Fld := ⟨0x80 + 0x4 * n, 29, 29⟩
def LKT_STAT_EPOCH16 (n : Nat) : Fld := ⟨0x80 + 0x4 * n, 15, 0⟩
end RJNL

namespace TSEQ
def CTRL_STEP : Fld := ⟨0x8, 1, 1⟩
def CTRL_HALT : Fld := ⟨0x8, 0, 0⟩
def STATUS_HALTED : Fld := ⟨0xc, 31, 31⟩
def STATUS_WAITING : Fld := ⟨0xc, 30, 30⟩
def STATUS_FAULTED : Fld := ⟨0xc, 29, 29⟩
def STATUS_LEVEL : Fld := ⟨0xc, 26, 25⟩
def STATUS_ACTIVE : Fld := ⟨0xc, 24, 21⟩
def STATUS_REPDEPTH : Fld := ⟨0xc, 20, 18⟩
def STATUS_WPOS : Fld := ⟨0xc, 17, 14⟩
def STATUS_RESIDENT : Fld := ⟨0xc, 13, 10⟩
def STATUS_SPILLED : Fld := ⟨0xc, 6, 0⟩
def PC : Fld := ⟨0x40, 15, 0⟩
def XFER_PEND : Fld := ⟨0x44, 31, 31⟩
def XFER_LEFT : Fld := ⟨0x44, 30, 29⟩
def XFER_KIND : Fld := ⟨0x44, 28, 27⟩
def XFER_TAKEN : Fld := ⟨0x44, 16, 16⟩
def XFER_TARGET : Fld := ⟨0x44, 15, 0⟩
def PROG_CFG_LEN : Fld := ⟨0x48, 29, 16⟩
def PROG_CFG_BASE : Fld := ⟨0x48, 15, 0⟩
def FAULT_CODE : Fld := ⟨0x4c, 31, 24⟩
def FAULT_FPC : Fld := ⟨0x4c, 15, 0⟩
def REPA_START (n : Nat) : Fld := ⟨0x50 + 0x8 * n, 31, 16⟩
def REPA_END (n : Nat) : Fld := ⟨0x50 + 0x8 * n, 15, 0⟩
def REPB_VALID (n : Nat) : Fld := ⟨0x54 + 0x8 * n, 16, 16⟩
def REPB_COUNT (n : Nat) : Fld := ⟨0x54 + 0x8 * n, 15, 0⟩
def FETCH_STALL : Fld := ⟨0x70, 31, 0⟩
def SPILL_STALL : Fld := ⟨0x74, 31, 0⟩
def RETIRED : Fld := ⟨0x78, 31, 0⟩
def Z (n : Nat) : Fld := ⟨0x80 + 0x4 * n, 31, 0⟩
def WREG (n : Nat) : Fld := ⟨0x100 + 0x4 * n, 31, 0⟩
end TSEQ

namespace TFCT
def PAGE_CMD_CMD : Fld := ⟨0x40, 31, 30⟩
def PAGE_CMD_SET : Fld := ⟨0x40, 23, 16⟩
def PAGE_CMD_SLOT : Fld := ⟨0x40, 3, 0⟩
def PAGE_STAT_BUSY : Fld := ⟨0x44, 31, 31⟩
def PAGE_STAT_OVF : Fld := ⟨0x44, 30, 30⟩
def PAGE_STAT_QCOUNT : Fld := ⟨0x44, 29, 27⟩
def PAGE_STAT_LASTSET : Fld := ⟨0x44, 23, 16⟩
def PAGE_STAT_LASTSLOT : Fld := ⟨0x44, 15, 12⟩
def PAGE_STAT_LASTCODE : Fld := ⟨0x44, 7, 0⟩
def STORE_CFG : Fld := ⟨0x48, 8, 0⟩
def PAGE_LOST : Fld := ⟨0x4c, 31, 0⟩
def SLOT_SET_SLOT3 (n : Nat) : Fld := ⟨0x50 + 0x4 * n, 31, 24⟩
def SLOT_SET_SLOT2 (n : Nat) : Fld := ⟨0x50 + 0x4 * n, 23, 16⟩
def SLOT_SET_SLOT1 (n : Nat) : Fld := ⟨0x50 + 0x4 * n, 15, 8⟩
def SLOT_SET_SLOT0 (n : Nat) : Fld := ⟨0x50 + 0x4 * n, 7, 0⟩
def SLOT_SEL : Fld := ⟨0x60, 3, 0⟩
def STALL_EMPTY : Fld := ⟨0x64, 31, 0⟩
def STALL_CREDIT : Fld := ⟨0x68, 31, 0⟩
def SLOT_DATA (n : Nat) : Fld := ⟨0x100 + 0x4 * n, 31, 0⟩
end TFCT

namespace TSCH
def PEND (n : Nat) : Fld := ⟨0x40 + 0x4 * n, 31, 0⟩
def SWEVT : Fld := ⟨0x48, 23, 0⟩
def HOLDOFF_LIMIT : Fld := ⟨0x50, 19, 0⟩
def HOLDOFF_MAX : Fld := ⟨0x54, 19, 0⟩
def STALL_LIMIT : Fld := ⟨0x58, 23, 0⟩
def TMR_LO (n : Nat) : Fld := ⟨0x5c + 0x8 * n, 31, 0⟩
def TMR_HI (n : Nat) : Fld := ⟨0x60 + 0x8 * n, 31, 0⟩
def TMR_STAT : Fld := ⟨0x6c, 1, 0⟩
def WIN_ADDR_CELL : Fld := ⟨0x70, 15, 12⟩
def WIN_ADDR_LEVEL : Fld := ⟨0x70, 9, 8⟩
def WIN_ADDR_ITEM : Fld := ⟨0x70, 4, 0⟩
def WIN_DATA : Fld := ⟨0x74, 31, 0⟩
def WIN_STAT : Fld := ⟨0x78, 1, 0⟩
def EVT_TAB_EN (n : Nat) : Fld := ⟨0x100 + 0x4 * n, 31, 31⟩
def EVT_TAB_KIND (n : Nat) : Fld := ⟨0x100 + 0x4 * n, 30, 30⟩
def EVT_TAB_LVL (n : Nat) : Fld := ⟨0x100 + 0x4 * n, 29, 28⟩
def EVT_TAB_VEC (n : Nat) : Fld := ⟨0x100 + 0x4 * n, 15, 0⟩
end TSCH

namespace TBNK
def PWR_STATE : Fld := ⟨0x40, 15, 0⟩
def PWR_CMD_BANK : Fld := ⟨0x44, 10, 8⟩
def PWR_CMD_TARGET : Fld := ⟨0x44, 1, 0⟩
def PWR_RESULT_LASTBANK : Fld := ⟨0x48, 10, 8⟩
def PWR_RESULT_LASTCODE : Fld := ⟨0x48, 7, 0⟩
def COLLIDE : Fld := ⟨0x4c, 31, 0⟩
def ECC_CORR : Fld := ⟨0x50, 31, 0⟩
def ECC_UNCORR : Fld := ⟨0x54, 31, 0⟩
def ECC_ADDR_CODE : Fld := ⟨0x58, 31, 24⟩
def ECC_ADDR_WORD : Fld := ⟨0x58, 15, 0⟩
def STARVE_LIMIT : Fld := ⟨0x5c, 23, 0⟩
def STARVE (n : Nat) : Fld := ⟨0x60 + 0x4 * n, 31, 0⟩
def STARVE_MAX : Fld := ⟨0x80, 23, 0⟩
def DIRTY (n : Nat) : Fld := ⟨0x90 + 0x4 * n, 31, 0⟩
end TBNK

end Sys2Proof.Machine
end

