-- ==== Sys2Proof/Machine/TileState.lean ====
section
/-! DEFINITION. The plain data of one tile: cells, crossbar queues, bank buses, facet slots, paging
engine, sequencer and window ring (chapters 02, 03 and 04). -/

namespace Sys2Proof.Machine
open Sys2Proof

/-- Flags of one register bank (R67). -/
structure Flg where
  z : Bool
  n : Bool
  v : Bool
  c : Bool
  deriving DecidableEq, Repr

/-- One accumulator with its ERR and LATE marks (R73, R518). -/
structure Acc where
  val  : BitVec 80
  err  : Bool
  late : Bool
  deriving DecidableEq, Repr

/-- A registered output: token and validity (R33, R41). -/
structure Out where
  tok   : Tok
  valid : Bool
  deriving DecidableEq, Repr

/-- Search state of an ALU cell (R70). -/
structure Search where
  ext   : Word
  pos   : Word
  idx   : Word
  empty : Bool
  errs  : Bool
  lates : Bool
  deriving DecidableEq, Repr

/-- One cell: banks of registers `v` (key 8 × level + i), flags `fl` (key level), accumulators `acc`
(key 2 × level + selector), outputs, kept crossbar inputs (R40) and search state. -/
structure Cell where
  v   : SMap Word
  fl  : SMap Flg
  acc : SMap Acc
  o   : Out
  q   : Out
  xa  : Tok
  xb  : Tok
  srch : Search
  deriving DecidableEq, Repr

def Flg.zero : Flg := ⟨false, false, false, false⟩
def Acc.zero : Acc := ⟨0, false, false⟩
def Out.zero : Out := ⟨Tok.zero, false⟩
/-- No search in progress (R72; log 3). -/
def Search.init : Search := ⟨0, 0, 0, true, false, false⟩
/-- A cell before an image has set it (R63; log 3). -/
def Cell.init : Cell := ⟨[], [], [], Out.zero, Out.zero, Tok.zero, Tok.zero, Search.init⟩

/-- One read bus X, Y or K (R84): the word fetched for the address issued in the last executed cycle,
the word that falls due in the next executed cycle, and the held word with its crossbar validity. -/
structure RdBus where
  fetched : Option (Word × Bool)
  due     : Option (Word × Bool)
  held    : Tok
  valid   : Bool
  deriving DecidableEq, Repr

def RdBus.init : RdBus := ⟨none, none, Tok.zero, false⟩

/-- A transfer between its execution and the end of its delay slots (R105, TSEQ.XFER); `lvl` is the level to which a
RETE returns (R128). -/
structure Xfer where
  left   : Nat
  kind   : BitVec 2
  taken  : Bool
  target : BitVec 16
  lvl    : BitVec 2
  deriving DecidableEq, Repr

/-- One active block repeat (R108, TSEQ.REPnA and REPnB). -/
structure Rep where
  first : BitVec 16
  last  : BitVec 16
  count : BitVec 16
  deriving DecidableEq, Repr

/-- An instruction that the sequencer has fetched ahead: address, word, and the code of the read (R90, R91). -/
structure Fetched where
  addr : BitVec 16
  w    : Word
  code : Byte
  deriving DecidableEq, Repr

/-- A paging command that has left the queue: set, slot, the words read so far, and the code and word address of the
first read that failed (R48, R49). -/
structure PageRun where
  set   : BitVec 8
  slot  : Fin 16
  words : List Word
  code  : Byte
  addr  : BitVec 16
  deriving DecidableEq, Repr

/-- The state of one physical tile that no plain register of its pages holds. Queues are keyed 0 to 7
lane inputs N0 to W1, 8 to 11 SI0 to SI3, 12 SEQIN, 13 to 16 SO0 to SO3 (R41, R42, R278). Ring words
are keyed 16 × w + k, with H0 to H7 at k = 0 to 7 and M0 to M7 at k = 8 to 15 (R138 WREG). -/
structure Tile where
  cells    : SMap Cell
  selTok   : Tok                     -- selector link: the selected input (R61)
  selIdx   : Tok                     -- selector link: the index token (R61)
  slots    : SMap Word               -- key 80 × slot + word (R39, R55)
  slotSet  : SMap Byte               -- set resident in each slot (SLOT_SETn)
  pageQ    : List (Byte × Fin 16)    -- queued paging commands, oldest first (R47)
  pageRun  : Option PageRun          -- the running command (R48)
  busX     : RdBus
  busY     : RdBus
  busK     : RdBus
  wAddr    : BitVec 16               -- address C15's generator 1 last issued (R86)
  issued   : List Nat                -- word addresses of the bank accesses of the coming bank cycle (R87)
  queues   : SMap (List Tok)
  seqOut   : Out                     -- sequencer output register (R100)
  pc       : BitVec 16
  halted   : Bool
  faulted  : Bool
  wait     : Option (BitVec 32)      -- the WAITEV word while WAITING (R129)
  level    : BitVec 2
  active   : BitVec 4
  wpos     : Nat
  resident : Nat
  spilled  : Nat
  badFill  : Option (Nat × Byte)     -- frame and code of a fill that ended on a bad word (R116)
  retPend  : Bool                    -- a return waits for its frame (R116)
  ring     : SMap Word
  z        : SMap Word
  xfer     : Option Xfer
  reps     : List Rep                -- nesting level 0 (outermost) first
  repLast  : SMap Rep                -- what REPnA and REPnB show of a level that is not active (R138)
  cached   : Option (BitVec 16 × BitVec 16)   -- first and last address of the cached body (R112)
  cmask    : BitVec 16               -- instructions of the cached body already loaded
  cwords   : SMap Word               -- the words of those instructions
  ibuf     : Option Fetched          -- the instruction fetched for the coming cycle (R90)
  inTags   : BitVec 4
  tlatch   : Word                    -- latched high time-base word (R101)
  retired  : Word
  pend     : BitVec 64               -- pending bits of the edge lines (R120)
  eccDue   : Bool                    -- line 38 pulses in the coming cycle, whose bank access failed (R84, R120)
  stepDue  : Bool                    -- a STEP waits for the clock of a gated tile (R138, R244)
  holdRun  : Nat                     -- hold-off watchdog run (R130)
  holdHit  : Bool                    -- line 36 already pulsed in this run
  stallRun : Nat                     -- stall watchdog run (R131)
  stallHit : Bool
  deriving DecidableEq, Repr

/-- A tile before an image has set it: halted, one resident frame, level 0 holding a context (R113,
R138, R339), every other item 0 or empty (log 3). -/
def Tile.init : Tile where
  cells := []
  selTok := Tok.zero
  selIdx := Tok.zero
  slots := []
  slotSet := []
  pageQ := []
  pageRun := none
  busX := RdBus.init
  busY := RdBus.init
  busK := RdBus.init
  wAddr := 0
  issued := []
  queues := []
  seqOut := Out.zero
  pc := 0
  halted := true
  faulted := false
  wait := none
  level := 0
  active := 1
  wpos := 0
  resident := 1
  spilled := 0
  badFill := none
  retPend := false
  ring := []
  z := []
  xfer := none
  reps := []
  repLast := []
  cached := none
  cmask := 0
  cwords := []
  ibuf := none
  inTags := 0
  tlatch := 0
  retired := 0
  pend := 0
  eccDue := false
  stepDue := false
  holdRun := 0
  holdHit := false
  stallRun := 0
  stallHit := false

end Sys2Proof.Machine
end

