-- ==== Sys2Proof/Machine/AcceptState.lean ====
section
/-! DEFINITION. The plain data of accepted work: journal gather buffers, arrival-log entries, locket shadows and
captures, replay, emit counts and lockstep comparators (chapter 09). -/

namespace Sys2Proof.Machine
open Sys2Proof

/-- Kinds of arrival-log entry (R273). -/
inductive LogKind where
  | switch | time | waitev | commit | extwr
  deriving DecidableEq, Repr

/-- One arrival-log entry (R274). -/
structure LogE where
  kind    : LogKind
  phase   : Bool
  tgt     : Nat          -- 0 bank word, 1 page register, 2 window register item
  be      : Nat
  addr    : Nat
  retired : Word
  value   : Word
  page    : Nat
  line    : Nat
  deriving DecidableEq, Repr

/-- What a gather buffer holds, with the epoch of its tile when it was opened: tokens of one input (R269), or log
entries (R274). -/
inductive GatherData where
  | toks (epoch input pos : Nat) (ts : List Tok)
  | logs (epoch : Nat) (es : List LogE)
  deriving DecidableEq, Repr

/-- A gather buffer: its place in the order in which the region's writer opened its records, and the reference tick of its
first entry (R270, R292). -/
structure Gather where
  data   : GatherData
  number : Nat
  opened : Nat
  deriving DecidableEq, Repr

/-- State of a position at a cut that has no place in the state block of R278 (log 30): the rest of the tile, and the
tokens of its out-endpoints that had left SO0 to SO3 and were not sent yet, by p. -/
structure Hid where
  tile : Tile
  held : SMap (List Tok)
  deriving DecidableEq, Repr

def Hid.init : Hid := ⟨Tile.init, []⟩

/-- The locket shadow of a cut (R266): the state block's bytes 0x40 to 0x20FF, the epoch of the cut, the pages that
were dirty, the journal index that stood at the cut, the hidden state, and the count and emit counts with which the
epoch before the cut ended. -/
structure Shadow where
  block : List Byte
  epoch : Nat
  dirty : List Nat
  jpos  : Nat
  hid   : Hid
  retired : Nat
  emitted : SMap Nat
  deriving DecidableEq, Repr

/-- What is left of a running capture (R280): whether the state area is written, the old words taken for held
pages (R156; key: tile word address; data and read code), and whether the header write is out. -/
structure Capture where
  shadow   : Shadow
  taken    : SMap (Word × Nat)
  headerOut : Bool
  deriving DecidableEq, Repr

/-- A recovery or replay in progress (R283, R284): journaled tokens still to feed per input (keys 0 to 11), log entries
still to obey, the count at which the retired tile was halted, tokens that entered after the halt, how many tokens had
entered each input since the cut when it was halted, counts retired before the last cut of the span, and the other
position of a lockstep pair that the spare follows (R290); `inHalt` then holds the counts with which that tile's epochs
ended. -/
structure Replay where
  feed    : SMap (List Tok)
  entries : List LogE
  haltAt  : Nat
  live    : SMap (List Tok)
  going   : Bool         -- false while R283 steps run, true from the spare's start
  inHalt  : SMap Nat
  base    : Nat
  mate    : Option Nat
  far     : Option Nat   -- the position of the partner device that this one takes over from its mirror (R293)
  deriving DecidableEq, Repr

def Replay.init : Replay := ⟨[], [], 0, [], false, [], 0, none, none⟩

/-- The protection state of one position (R263 to R288). -/
structure Prot where
  bufs    : List Gather         -- gather buffers, oldest first entry first (R270)
  inPos   : SMap Nat            -- tokens that entered each input since the cut (R269 POS)
  emitted : SMap Nat            -- tokens emitted per queue-type destination since the cut (R286)
  latched : SMap Nat            -- emit counts latched at step 1 of a recovery (R286)
  epoch   : Nat                 -- epoch counter value of the tile's epoch
  pendingCut : Bool             -- a boundary waits for the tile's clock edge
  capture : Option Capture
  pageMap : BitVec 256          -- committed PAGEMAP (R279)
  horizon : Nat                 -- accesses that arrived before this were held by a recovery that has ended (R275)
  replay  : Option Replay
  deriving DecidableEq, Repr

def Prot.init : Prot where
  bufs := []
  inPos := []
  emitted := []
  latched := []
  epoch := 0
  pendingCut := false
  capture := none
  pageMap := 0
  horizon := 0
  replay := none

/-- One journal record kept in the ring, oldest first: its position's local tile and epoch (R271). -/
structure JRec where
  tile  : Nat
  epoch : Nat
  deriving DecidableEq, Repr

/-- The journal writer and the two lockstep comparators of a region (R268, R272, R289, R290): how many records it has
opened (R292); per pair and
destination the tokens of the first and of the second tile that wait for their match, and whether the pair has
split, with the survivor (0 first, 1 second). -/
structure RegionJ where
  capQ  : List Nat            -- positions whose captures run or wait, in the order of their cuts (R280)
  recs  : List JRec
  opened : Nat
  full  : Bool
  cmpA  : SMap (List Tok)     -- key 64 × pair + destination
  cmpB  : SMap (List Tok)
  split : SMap Nat            -- key pair: 0 together, 1 first runs alone, 2 second runs alone, 3 both halted
  deriving DecidableEq, Repr

def RegionJ.init : RegionJ := ⟨[], [], 0, false, [], [], []⟩

end Sys2Proof.Machine
end

