-- ==== Sys2Proof/Machine/ClockState.lean ====
section
/-! DEFINITION. The plain data of clasps (R252 to R255) and of clock changes in progress (R244, R246). -/

namespace Sys2Proof.Machine
open Sys2Proof

/-- A token in a clasp; `missed` says that its own delivery edge has passed (R255). -/
structure ClaspTok where
  tok    : Tok
  missed : Bool
  deriving DecidableEq, Repr

/-- A clasp: its tokens, oldest first, and whether it runs in SLIP (R254). -/
structure Clasp where
  toks : List ClaspTok
  slip : Bool
  deriving DecidableEq, Repr

def Clasp.init : Clasp := ⟨[], false⟩

/-- A clock switch that has started (R244): source and divider it goes to. -/
structure ClkSwitch where
  src : Nat
  div : Nat
  deriving DecidableEq, Repr

/-- The re-trims of a bezel boundary (R250, R320, R321): the difference (in 1/16 °C) at the last trigger, 0 while it is not
above 20 °C; the clasps that are still to be re-trimmed; whether a further trigger waits. -/
structure Trim where
  at_    : Nat
  due    : List Nat
  queued : Bool
  deriving DecidableEq, Repr

def Trim.init : Trim := ⟨0, [], false⟩

end Sys2Proof.Machine
end

