-- ==== Sys2Proof/Machine/HostState.lean ====
section
/-! DEFINITION. The plain data of the host port, the maintenance ports and the module's power (chapters 14 and 15). -/

namespace Sys2Proof.Machine
open Sys2Proof

/-- A host access that the endpoint has taken and not yet issued on the network (R434). -/
structure BarReq where
  write  : Bool
  bar2   : Bool
  addr   : Nat
  nbytes : Nat
  be     : Nat
  data   : List Byte
  poison : Bool
  deriving DecidableEq, Repr

/-- The completion sent last to the host: its device address, whether its status is Unsupported Request, the EP bit,
the data (R428, R435). -/
structure HostCpl where
  addr : Nat
  ur   : Bool
  ep   : Bool
  data : List Byte
  deriving DecidableEq, Repr

/-- The PCIe endpoint beside its page (R428 to R437). `table` holds the MSI-X table by 32-bit word, `unmasked` the
vectors whose mask bit is 0, `imod` the tick from which a vector may send again; `hold` the tick until which the link
stays in Detect, `dark` the tick until which it is down whatever STATE is; `perst` a low PCIE_PERST_n; `aerCorr` and
`aerUncorr` the AER status words; `msi` a DCFG event that the CONFIG personality's vector reports. -/
structure HostPort where
  queue     : List BarReq
  cpl       : Option HostCpl
  table     : SMap Word
  unmasked  : SMap Nat
  imod      : SMap Nat
  hold      : Nat
  dark      : Nat
  perst     : Bool
  aerCorr   : Nat
  aerUncorr : Nat
  msi       : Bool
  deriving DecidableEq, Repr

/-- From 18 ms after nRESET the endpoint trains whatever STATE is (R429). -/
def HostPort.init : HostPort := ⟨[], none, [], [], [], 1800000, 0, false, 0, 0, false⟩

/-- The serial ports of J4 beside their page (R452 to R457), and the JTAG port. UART lists are by number: receive and
send FIFO, bytes of a maintenance frame that is still coming in; `txAt` is the tick at which the byte at the head of a
send FIFO has left. `reply` holds the last maintenance reply per port (0 and 1 UARTs, 2 SPI, 3 I²C, 4 JTAG); `spiByte`
the byte that RDSR returned; `spiRun` and `i2cRun` a transfer in progress: its command word and the tick at which it
ends; `ir`, `dr` and `boundary` the JTAG instruction, its 32-bit data register and the boundary register, `captured`
what SAMPLE took, `tdo` the reply bytes that still have to leave through the JTAG MAINT register. -/
structure Serial where
  rx       : SMap (List Byte)
  tx       : SMap (List Byte)
  frame    : SMap (List Byte)
  txAt     : SMap Nat
  reply    : SMap (List Byte)
  spiByte  : Byte
  spiRun   : Option (Word × Nat)
  i2cRun   : Option (Word × Nat)
  ir       : Nat
  dr       : Nat
  boundary : BitVec 585
  captured : BitVec 585
  tdo      : List Byte
  deriving DecidableEq, Repr

def Serial.init : Serial := ⟨[], [], [], [], [], 0, none, none, 0xFF, 0, 0, 0, []⟩

/-- The module's power (R459 to R469, R474): whether the rails are up or coming up, whether the module's own release of
PWR_GOOD and another device's hold of it; a power-fail sequence that has started; the tick at which the rails went off;
whether STBY is up; the governor's waves, the last stepped first, the intervals that have stayed calm, the tick from which
it acts again, and the tick since which it has had nothing left to step; the regions whose over-temperature has been
reported, the tick since which each has been at 115 °C, whether the plate's and the supply's excursion has been. -/
structure Power where
  up        : Bool
  rising    : Bool
  good      : Bool
  heldLow   : Bool
  failing   : Bool
  switchOff : Bool
  offAt     : Nat
  stby      : Bool
  waves     : List (List Nat)
  calm      : Nat
  govNext   : Nat
  full      : Option Nat
  hot       : Nat
  hotSince  : SMap Nat
  plateHot  : Bool
  supplyOut : Bool
  deriving DecidableEq, Repr

/-- The module right after power-up: every rail up and PWR_GOOD high. -/
def Power.init : Power :=
  ⟨true, false, true, false, false, false, 0, true, [], 0, 0, none, 0, [], false, false⟩

end Sys2Proof.Machine
end

