-- ==== Sys2Proof/Machine/LoadState.lean ====
section
/-! DEFINITION. The plain data of the flash, of a load and its start-up, and of the assayers' recoveries (chapters 10
and 11). -/

namespace Sys2Proof.Machine
open Sys2Proof

/-- The on-die flash (R328, R329): bytes that are not erased (0xFF), 256-byte pages programmed since their block's last
erase, erase counts by block, the boot selection, a command in progress (1 ERASE of a block, 2 PROGRAM of a page, 3 READ
of a page, 4 a boot selection, each with its number), the bytes that a PROGRAM took from `FL_BUF`, and the calibration
block whose COMMIT is in progress. -/
structure Flash where
  bytes  : SMap Byte
  pages  : SMap Nat
  wear   : SMap Nat
  slot   : Nat
  run    : Option (Nat × Nat)
  buf    : List Byte
  calRun : Option Nat
  deriving DecidableEq, Repr

/-- The bytes of the identity record at the modelled reset: serial number, order letters, date and MAC base, in words of
four bytes. The layout and the values are the model's: those of an LN9640-SP with serial number, date and MAC base 0
(DESIGN CHOICE, log 4). -/
def identityBytes : List Byte := toBytes 8 0 ++ toBytes 4 0x5350 ++ toBytes 4 0 ++ toBytes 8 0

/-- Flash address of the identity record (R328). -/
def identityAt : Nat := 0x1F00000

/-- The flash at the modelled reset: an identity record in its block and every other block erased, so neither the factory
image of slot A nor a calibration record is there: the spec gives no bytes for them (DESIGN CHOICE, log 4). -/
def Flash.init : Flash :=
  ⟨identityBytes.zipIdx.map fun x => (identityAt + x.2, x.1), [], [(identityAt / 256, 1)], 0, none, [], none⟩

/-- A load and its start-up (R327 to R344, R349): the tick at which LOAD began, the bank waves that are done (33: every
bank is ON), whether the header has passed, its FLAGS, PHASES, DONE_WAIT and IMAGE_LEN, the tick at which CLK_LOCK began
and the tick at which the running phase or DONEWAIT began, the source that stands in place of the pins (`LOAD_CMD`), the
sections of tiles (kept for R288), the image offset of the record that set each register (by key), the tiles whose
section is empty, the bank states that the image gives by page, the calibration block in force with its SEQ, and a handover that
waits for the partner's acknowledgements. -/
structure LoadE where
  begun    : Nat
  wave     : Nat
  passed   : Bool
  flags    : Nat
  phases   : Nat
  doneWait : Nat
  len      : Nat
  clk      : Option Nat
  since    : Nat
  src      : Option Nat
  secs     : SMap (List Byte)
  recAt    : SMap Nat
  empty    : SMap Nat
  pwr      : SMap Nat
  calBlock : Option Nat
  handing  : Option Nat
  everRun  : Bool
  deriving DecidableEq, Repr

def LoadE.init : LoadE := ⟨0, 0, false, 0, 0, 0, 0, none, 0, none, [], [], [], [], none, none, false⟩

/-- An action of the active assayer, or of the recovery command engine, that has begun (R299, R310, R318): its number,
the step that runs, the fault code, whether a host command issued it, sub-unit and page of its unit, whether it restores
the locket before the one that the retired tile could not commit, the epoch after which a survivor's locket counts, the
fault's detail, and whether the step is logged as INTENT and waits for the network (R298). -/
structure Act where
  action : Nat
  step   : Nat
  code   : Nat
  host   : Bool
  sub    : Nat
  page   : Nat
  older  : Bool
  epoch  : Nat
  detail : Nat
  held   : Bool
  deriving DecidableEq, Repr

/-- The assayers beside their pages (R299 to R318). `log` holds the last 4,096 entries, word w of entry SEQ at
8 × (SEQ mod 4,096) + w, and `next` the number of the next entry; `acts` the actions in progress by position, or
256 + region for a spare takeover; `faultAt` the tick + 1 of the last fault of each protection group; `predicted` the
predicted failures acted on per bank; `waiting` the positions to be retired after their next locket commits, with the
code; `heardA` and `heardB` the ticks of the last heartbeats of A and B; `lineA`, `lineB` their fault lines; `dead` the
assayers without supply (bits); `testing` those whose self-test runs (bits); `coolAt` the tick from which a boundary may be
stepped again; `coolBy` the steps that a boundary holds islands down by, at 256 × boundary + tile; `pllAt` the tick + 1 at
which a PLL was re-enabled; `detail` the detail of the last ECC or polisher report of a banks or memory page; `spareIn`
the directions of router links that run on their spare group, by the receiving end 8 × router + port. -/
structure Recov where
  log       : SMap Word
  next      : Nat
  acts      : SMap (Option Act)
  faultAt   : SMap Nat
  predicted : SMap Nat
  waiting   : SMap Nat
  heardA    : Nat
  heardB    : Nat
  lineA     : Bool
  lineB     : Bool
  dead      : Nat
  testing   : Nat
  coolAt    : SMap Nat
  coolBy    : SMap Nat
  pllAt     : SMap Nat
  detail    : SMap Nat
  spareIn   : SMap Nat
  deriving DecidableEq, Repr

/-- The self-tests of both assayers run from BOOT (R327). -/
def Recov.init : Recov := ⟨[], 0, [], [], [], [], 0, 0, false, false, 0, 3, [], [], [], [], []⟩

end Sys2Proof.Machine
end

