-- ==== Sys2Proof/Machine/NetState.lean ====
section
/-! DEFINITION. The plain data of the packet network and of the stream endpoints (chapter 07). -/

namespace Sys2Proof.Machine
open Sys2Proof

/-- Classes of R207. -/
inductive PClass where
  | req | rsp | stream | svc
  deriving DecidableEq, Repr

/-- A packet (R207 to R210). `rtr` and `port` say in which input queue it stands: link ports 0 to 6, 7 LOCAL;
`arrived` that it has left its last router for interface `dpt`. `via` lists the routers that a detour still has to
cross (R306). -/
structure Pkt where
  cls    : PClass
  vc     : Bool
  urg    : Nat
  age    : Nat
  drt    : Nat
  dpt    : Nat
  src    : Nat
  tag    : Nat
  write  : Bool
  code   : Nat
  addr   : Nat
  nbytes : Nat
  be     : Nat
  poison : Bool
  data   : List Byte
  stream : Nat
  credit : Bool
  seq    : Nat
  toks   : List Tok
  flits  : Nat
  rtr    : Nat
  port   : Nat
  arrived : Bool
  via    : List Nat
  arrival : Nat       -- its place in the order in which requests and held writes arrived at their targets (R275)
  turned : Bool       -- it has taken a detour, and takes no other (R306)
  stamp  : Nat        -- the newest emission stamp of its tokens (R292)
  waited : Nat        -- bank cycles for which the request has waited at its bank (R153)
  deriving DecidableEq, Repr

/-- What an initiator does with a response (R212, R218). -/
inductive Purpose where
  | memRead (end_ : Nat)                -- endpoint key; a MARK and LAST token
  | memWrite (end_ : Nat)               -- a block of plain writes
  | dmaRead (ch off : Nat) (first : Bool)   -- bytes of range B, or of range A of a COMPARE
  | dmaWrite (ch unit off : Nat)
  | barRead (a : Nat)
  | barWrite
  | remote (link dev key : Nat)         -- a far device's request that arrived on a link
  deriving DecidableEq, Repr

/-- An outstanding transaction: its purpose, kind and size, its address, whether the response watchdog has reported it, and the reference
tick of its issue (R200). -/
structure Txn where
  purpose : Purpose
  write   : Bool
  n       : Nat
  addr    : Nat
  slow    : Bool
  at_     : Nat
  deriving DecidableEq, Repr

/-- An open block of memory-mode writes (R234). -/
structure OpenBlock where
  addr : Nat
  be   : Nat
  data : List Byte
  poison : Bool
  deriving DecidableEq, Repr

/-- One due SIp token of a memory-mode endpoint, in token order: a read, or a report over writes (R234). -/
inductive Due where
  | read (tag : Nat) (tok : Option Tok)
  | report
  | write (tag : Nat) (code : Option Nat)
  deriving DecidableEq, Repr

/-- What a stream-unit endpoint holds beside its registers (R230, R231, R234): tokens of the next packet, credits
gathered for return, the memory-mode address, the open block, and what is outstanding, oldest first. -/
structure Endp where
  held     : List Tok
  gathered : Nat
  addr     : Nat
  block    : Option OpenBlock
  due      : List Due
  sent     : Nat      -- port entries: tokens of the ring that have gone on and are not yet credited (R401)
  credits  : Nat      -- port entries: credits held from the peer that the ring's tokens go to
  fresh    : Nat      -- tokens of the ring that the partner has not acknowledged yet (R291)
  fill     : Nat      -- host ring entries: tokens in the ring in module memory, or waiting for their host slot
  stamps   : List Nat -- emission stamps of the tokens that wait here or in SOp, oldest first (R292)
  since    : Nat      -- port entries: the reference tick, plus 1, of the first token that waits for its packet (R230)
  refused  : Bool     -- its route is refused, and that has been reported (R306)
  stall    : Bool     -- host ring entries after a function reset (R430)
  deriving DecidableEq, Repr

def Endp.init : Endp := ⟨[], 0, 0, none, [], 0, 0, 0, 0, [], 0, false, false⟩

/-- The data of one DMA channel that its registers do not show (R178 to R199). `rd`, `rdA` and `wr` count bytes of
the descriptor (or of element `elem`, whose bytes start `base` bytes into the contiguous side) whose read and write
beats have been issued; `staged` and `stagedA` hold bytes read and not yet used, by their offset; `poisoned` lists
offsets whose words are written poisoned; `equal` counts bytes found equal; `code` is the code that ends the
descriptor, `failAt` the least offset of a write that failed and `failElem` the element. -/
structure Dma where
  desc    : List Word
  elems   : List Nat
  elem    : Nat
  base    : Nat
  rd      : Nat
  rdA     : Nat
  wr      : Nat
  staged  : List (Nat × Byte)
  stagedA : List (Nat × Byte)
  poisoned : List Nat
  equal   : Nat
  differ  : Bool
  outR    : Nat
  outW    : Nat
  code    : Nat
  failAt  : Option Nat
  failElem : Nat
  creditR : Nat
  creditW : Nat
  usedR   : Nat
  usedW   : Nat
  resetting : Bool
  startAfter : Bool
  deriving DecidableEq, Repr

def Dma.init : Dma :=
  ⟨[], [], 0, 0, 0, 0, 0, [], [], [], 0, false, 0, 0, 0, none, 0, 0, 0, 0, 0, false, false⟩

/-- A whole Ethernet frame that waits in an egress queue (R419 to R421): its bytes without FCS, timestamp mode, offset
for one-step, its stream and the sequence of its token 0, and the entry it came from. -/
structure EthOut where
  bytes  : List Byte
  tsMode : Nat
  offset : Nat
  stream : Nat
  seq    : Nat
  entry  : Nat
  deriving DecidableEq, Repr

/-- One entry of the two-step timestamp FIFO (R420). -/
structure TsEntry where
  stream : Nat
  seq    : Nat
  time   : Nat
  deriving DecidableEq, Repr

/-- The ECC state of a stored word other than clean (R145, R146): one bit flipped, uncorrectable, poisoned. -/
inductive Mark where
  | clean | corr | uncorr | poison
  deriving DecidableEq, Repr

/-- What the partner must acknowledge in paired mode (R291): a token that a port entry stored, a journal record of a region
with its place in the order of opening (R292), or a write into the locket area at a byte offset, with the 64-bit words of it
that are poisoned. -/
inductive Mirror where
  | token (key : Nat) (t : Tok)
  | journal (r number : Nat) (ws : List Word)
  | locket (ofs : Nat) (data : List Byte) (bad : List Nat)
  deriving DecidableEq, Repr

/-- An item of the partner's that is still arriving: its kind and argument, the mask of its poisoned words, the data packets
that are missing, and the bytes so far (log 34). -/
structure Inbox where
  kind : Nat
  arg  : Nat
  bad  : Nat
  left : Nat
  data : List Byte
  deriving DecidableEq, Repr

/-- What this device keeps for its partner (R291): the tokens of its port entries, its journal records by region, oldest
first, the bytes and marks of its locket area, and the item that is arriving. Then the paired device's own times: when a
heartbeat came last and when the next goes out (R293), a handover message that is to be acted on, with its positions and
whether it yields them, the positions served here for the partner, and whether they are to be yielded (R349). -/
structure Paired where
  toks    : SMap (List Tok)
  recs    : List (Nat × List Word)
  lkt     : SMap Byte
  bad     : SMap Mark
  inbox   : Option Inbox
  heardAt : Nat
  sendAt  : Nat
  message : Option (Nat × Bool)
  served  : List Nat
  yields  : Bool
  deriving DecidableEq, Repr

def Paired.init : Paired := ⟨[], [], [], [], none, 0, 0, none, [], false⟩

/-- A frame of a Zilaek or bridge link without its link header and trailer: type, class, routing headers and the words
from the first routing header on (R391 to R396). -/
structure Frame where
  typ  : Nat
  cls  : Nat
  nrh  : Nat
  body : List (BitVec 64)
  deriving DecidableEq, Repr

/-- One link, Zilaek (0 to 5) or bridge (8 to 23): frames not yet acknowledged with their numbers, frames that wait,
the number of the next frame sent and expected, receive credits used and owed per class, whether a gap was answered,
the frame sent last, the last TIME frame received, whether R409 restricts the link, the lanes that training found good
at both ends, when the link came UP, and whether HELLO is due (R387, R393, R394, R407, R409, R412). -/
structure Line where
  txSeq   : Nat
  unacked : List (Nat × Frame)
  waiting : List Frame
  rxSeq   : Nat
  used    : List Nat
  owed    : List Nat
  nacked  : Bool
  sent    : List (BitVec 64)
  gotT3   : Nat
  gotAt   : Nat
  only    : Bool
  good    : Nat
  upAt    : Nat
  hello   : Bool
  deriving DecidableEq, Repr

def Line.init : Line := ⟨0, [], [], 0, [0, 0, 0, 0], [0, 0, 0, 0], false, [], 0, 0, false, 0, 0, false⟩

/-- A forwarded join request: the requester's serial number, the line it came by, and when (R407). -/
structure JoinReq where
  serial : Nat
  line   : Nat
  at_    : Nat
  deriving DecidableEq, Repr

/-- The strand's part of the state: numbers granted (keys: the number; values: the holder's serial number + 1), join
requests kept, consecutive offsets below 10 ns, entries that still have to resend from `ACKED`, requests of far devices
that wait for a tag, and what paired mode holds (R291, R293, R349, R398, R402, R407, R413). -/
structure Strand where
  members  : SMap Nat
  strands  : SMap Nat
  reqs     : List JoinReq
  good     : Nat
  resend   : List Nat
  remote   : SMap (List (Nat × Pkt))
  paired   : Paired
  deriving DecidableEq, Repr

def Strand.init : Strand := ⟨[], [], [], 0, [], [], Paired.init⟩

/-- The gate schedule of an Ethernet port: the entries in force (gates, interval), those that a swap brings, the entry
that acts, its end, the next cycle's start, and whether a cycle has started (R421). -/
structure Gate where
  active : List (Nat × Nat)
  swap   : List (Nat × Nat)
  idx    : Nat
  ends   : Nat
  next   : Nat
  going  : Bool
  deriving DecidableEq, Repr

def Gate.init : Gate := ⟨[], [], 0, 0, 0, false⟩

end Sys2Proof.Machine
end

