-- ==== Sys2Proof/Machine/Sparse.lean ====
section
/-! DEFINITION. The one pair of operations on sparse tables and byte memories: reading a key, and
writing it so that the canonical form (keys strictly rising, no entry at the default) is kept. -/

namespace Sys2Proof.Machine
open Sys2Proof

/-- The entry at key `k`, or the default `d` of an absent key. -/
def look {α : Type} (d : α) : SMap α → Nat → α
  | [], _ => d
  | (j, a) :: m, k => if j = k then a else look d m k

/-- The table without key `k`. -/
def drop {α : Type} (m : SMap α) (k : Nat) : SMap α := m.filter fun x => x.1 != k

/-- Inserts an entry before the first key above its own. -/
def enter {α : Type} (k : Nat) (a : α) : SMap α → SMap α
  | [] => [(k, a)]
  | (j, b) :: m => if k < j then (k, a) :: (j, b) :: m else (j, b) :: enter k a m

/-- Inserts, replaces or (when `a` is the default `d`) removes the entry at key `k`. -/
def put {α : Type} [DecidableEq α] (d : α) (m : SMap α) (k : Nat) (a : α) : SMap α :=
  if a = d then drop m k else enter k a (drop m k)

/-- Every key of the table is above `k`, rising, and no entry is the default. -/
def canonFrom {α : Type} [DecidableEq α] (d : α) : Option Nat → SMap α → Bool
  | _, [] => true
  | lo, (j, a) :: m => (match lo with | none => true | some k => decide (k < j)) && decide (a ≠ d) && canonFrom d (some j) m

/-- The canonical form of a table. -/
def canon {α : Type} [DecidableEq α] (d : α) (m : SMap α) : Bool := canonFrom d none m

/-- The keys of a table. -/
def keysOf {α : Type} (m : SMap α) : List Nat := m.map (fun p => p.1)

end Sys2Proof.Machine
end

