-- ==== Sys2Proof/Machine/UnitState.lean ====
section
/-! DEFINITION. The plain data of the smaller units: polishers (R164 to R167), bezel segments, machine interface
channels and the loupe (chapter 12). -/

namespace Sys2Proof.Machine
open Sys2Proof

/-- A region's polisher: whether a step has ever started, and whether one is in progress (R165, R166). -/
structure Polish where
  started : Bool
  running : Bool
  deriving DecidableEq, Repr

def Polish.init : Polish := ⟨false, false⟩

/-- A token launched by bezel token port in `port` of a segment at the end of the last cycle, and whether its CREDIT
was 1 (R365). -/
structure Launch where
  port   : Nat
  tok    : Tok
  credit : Bool
  deriving DecidableEq, Repr

/-- A bezel segment (R353 to R366, R379). Words over pins hold eight bits per local pin. `ff` holds the flip-flops by
cell; `pinIn` the words of the last six cycles, newest first; `out` what the pins' output registers hold now and
`outNext` from the next cycle; `frLast`, `frFresh` and `slotDone` (one bit per pin) the last framed word loaded,
whether one was loaded since the last slot, and whether this frame's slot has passed; `rxHist` and `rx` the 32 bits
sampled from the neighbours (RXCW low, RXCC high) and those that cells read; `prb` and `prbFar` the probe words of the
last cycles, newest first, and those that probe pins show of other segments; `launches`, `takes` and `loads` what the
end of the last cycle brought to the token ports and analog outputs and is not carried out yet; `prevLoad` the LOAD
cells of the last cycle; `nextFrame` the time base of the next frame start (0: frames do not run). -/
structure Bezel where
  ff        : Nat
  pinIn     : List Nat
  out       : Nat
  outNext   : Nat
  frLast    : Nat
  frFresh   : Nat
  slotDone  : Nat
  rxHist    : List Nat
  rx        : Nat
  prb       : List Nat
  prbFar    : Nat
  di        : Nat
  frame     : Bool
  nextFrame : Nat
  frameAge  : Nat
  framed    : Bool          -- a frame has started
  launches  : List Launch
  takes     : Nat
  loads     : List (Nat × Nat)
  prevLoad  : Nat
  imgOff    : Nat           -- pins whose image mode is OFF (R369)
  deriving DecidableEq, Repr

def Bezel.init : Bezel :=
  ⟨0, [], 0, 0, 0, 0, 0, [], 0, [], 0, 0, false, 0, 0, false, [], 0, [], 0, 0⟩

/-- An analog output channel (R371 to R373): the code that waits, the SYNC code that its frame start released, the
output level, the tick from which the next update may come, the tick of the last load, and whether the watchdog has
opened the switch. -/
structure Dac where
  waiting : Option Nat
  due     : Option Nat
  level   : Nat
  nextAt  : Nat
  loadAt  : Nat
  opened  : Bool
  deriving DecidableEq, Repr

def Dac.init : Dac := ⟨none, none, 0, 0, 0, false⟩

/-- One edge of a 24 V input with its time (R375). -/
structure DiEdge where
  input : Nat
  rise  : Bool
  time  : Nat
  deriving DecidableEq, Repr

/-- The loupe (R379 to R383): the trace memory, the probe word of the last sampled cycle, the matching entry of an
armed trace, the entries left after a trigger, and the address of the read in progress. -/
structure Loupe where
  trace : SMap Nat
  word  : Nat
  hit   : Option Nat
  left  : Nat
  read  : Option Nat
  deriving DecidableEq, Repr

def Loupe.init : Loupe := ⟨[], 0, none, 0, none⟩

end Sys2Proof.Machine
end

