-- ==== Sys2Proof/Machine/State.lean ====
section
/-! DEFINITION. The state of the device, the reasons a command can stop, and the state after reset. -/

namespace Sys2Proof.Machine
open Sys2Proof

/-- Why a command faults. -/
inductive Fault where
  /-- Raised by no command: every unit that a command can name exists, and one that cannot act leaves the state as it is.
  Safe: the machine would stop. -/
  | absentUnit
  deriving DecidableEq, Repr

/-- Why a command is refused. -/
inductive Refusal where
  /-- Raised by the arm of a command that has no meaning yet. Safe: the machine stops. -/
  | notModelled (mnemonic : String)
  deriving DecidableEq, Repr

/-- An event record (R494). -/
structure EvRec where
  w0 : Word
  w1 : Word
  w2 : Word
  w3 : Word
  deriving DecidableEq, Repr

/-- A write of one on-chip word: its data, byte enables, alias (R21) and whether its initiator marks it poisoned (R149). -/
structure Store where
  d      : Word
  be     : Nat
  al     : Nat
  poison : Bool
  deriving DecidableEq, Repr

/-- An access to one on-chip word as its bank served it (R150, R158): the word's storage address, the port (0 of a tile
bank, 1 A, 2 B), the requester's rank, the bank cycles it had waited, its initiator ID, the word and its ECC state before
the cycle, the write, and whether a read returned the new data (R154). -/
structure Served where
  addr   : Nat
  port   : Nat
  rank   : Nat
  waited : Nat
  src    : Nat
  old    : Word
  mark   : Mark
  store  : Option Store
  fresh  : Bool
  deriving DecidableEq, Repr

/-- An access to a register that waits at its page (R275, R342): page index, byte offset, data, initiator, whether it is a read,
and its place in the order of arrival. -/
structure HeldWrite where
  page : Nat
  off  : Nat
  v    : Word
  src  : Nat
  read : Bool
  arrival : Nat
  deriving DecidableEq, Repr

/-- The device. Tables that list nothing hold the default everywhere; keys are numbers of units (R11) unless a line says otherwise. -/
structure State where
  pending    : List Instr                 -- commands that wait, first in, first out
  free       : Nat                        -- counter of free values drawn (log 2); the model's own
  tb         : BitVec 64                  -- the time base (R258)
  ticks      : Nat                        -- reference ticks that the time base has counted toward the next slew (R259)
  tbStep     : Nat                        -- a step of the time base that the next tick takes (R259)
  tbPast     : List Nat                   -- the time base at the three ticks before, newest first (log 6); the model's own
  timeSeen   : SMap (Nat × Nat)           -- by reader: the tick and part of a tick of the last time base value read (R258, log 6); the model's own
  age        : Nat                        -- reference ticks since the reset point (log 1)
  released   : Bool                       -- SR_REL has begun: streams and software are released (R341)
  outRel     : Bool                       -- OUT_REL has begun: outputs are released (R341)
  regs       : SMap Word                  -- register words by 1,024 x page + offset / 4 (R482), where they are plain data
  wide       : SMap Nat                   -- registers with more than 32 bits, and latches of their upper words (R486)
  mem        : List Host.Cell             -- bytes by device address (R19); above those, the regions' spare banks (R168)
  marks      : SMap Mark                  -- ECC states other than clean, by word address (R145, R445)
  wback      : SMap Nat                   -- words whose corrected value waits to be written back (R147)
  cyc        : SMap (List Served)         -- what each on-chip bank served in its current bank cycle, in order (R150, R158)
  hostMem    : List Host.Cell             -- bytes of the host's memory (R438, R439)
  tiles      : SMap Tile                  -- by physical tile
  prot       : SMap Prot                  -- by position (R263)
  rj         : SMap RegionJ               -- by region (R268, R289)
  lockets    : SMap Nat                   -- epoch + 1 of the newest committed locket of a position (R281)
  lockHid    : SMap Hid                   -- the rest of the state of that locket (log 30)
  nextEpoch  : Nat                        -- time base value of the next epoch boundary (R266)
  mirrorAt   : List Nat                   -- send times of the mirrored items that the partner has not acknowledged (R291, R292)
  clasps     : SMap Clasp                 -- by clasp: 128 per region, and 2,048 + bezel port for the port-out clasps (R252)
  portOut    : SMap (List Tok)            -- tokens that a bezel port out shows and the fabric has not taken (R366)
  clkSw      : SMap ClkSwitch             -- the running clock switch of an island (R244)
  govG       : SMap Nat                   -- steps that the governor holds an island down by (R467)
  coolA      : SMap Nat                   -- the largest number of steps that a boundary holds an island down by (R308)
  bezelTemp  : SMap Nat                   -- last measured temperature of a bezel segment, in 1/16 degree (R250; log 88)
  trims      : SMap Trim                  -- re-trims of a boundary (R250, R320)
  railsGo    : Bool                       -- rails move in 1 mV per microsecond (R246)
  pwrTo      : SMap Nat                   -- target + 1 of a bank's running transition (R161)
  pwrQ       : SMap Nat                   -- target + 1 of a bank's queued power command (R163)
  polish     : SMap Polish                -- by region (R165)
  spareCopy  : SMap Nat                   -- bank + 1 that a region's spare is being copied from (R168)
  lastRead   : List Byte                  -- the bytes that the last read or access that answers its sender returned; the model's own
  net        : List Pkt                   -- packets in the network, in order of arrival (R206 to R220)
  txns       : SMap (Option Txn)          -- outstanding transactions by 256 x initiator + tag (R212)
  ends       : SMap Endp                  -- by stream entry: 128 x region + endpoint, or the key of a port's entry (Ports)
  fails      : SMap Nat                   -- failed attempts of the flit that waits at a link's receiving side, by 8 x router + port (R223)
  retry      : SMap (Option Pkt)          -- the packet that a link has to resend first (R223)
  detour     : SMap Nat                   -- directions of links that are detoured (R306)
  rr         : SMap Nat                   -- round-robin marks of router outputs (R220)
  dma        : SMap Dma                   -- by channel: 32 x engine + number
  dmaRr      : SMap Nat                   -- round-robin marks of the engines (R196)
  zsend      : SMap (List (Nat × Pkt))    -- accesses that wait because this device has no ID yet, by link (R404)
  vecPend    : SMap Nat                   -- MSI-X vectors that are pending (R437)
  lines      : SMap Line                  -- by link: Zilaek 0 to 5, bridges 8 to 23
  ethQ       : SMap (List EthOut)         -- egress queues by 8 x port + queue (R420)
  tsFifo     : SMap (List TsEntry)        -- timestamp FIFOs by port (R420)
  mirror     : List Mirror                -- what the partner must acknowledge, oldest first (R291)
  strand     : Strand                     -- the strand's part (R405 to R411, R291)
  gates      : SMap Gate                  -- by Ethernet port (R421)
  ethSent    : SMap (List Byte)           -- the frame that a port sent last
  loadBuf    : List Byte                  -- the image bytes received so far (R337)
  routes     : List Host.Cell             -- the route table as it was last flushed (R409)
  writesOpen : Bool                       -- WR_EN has passed (R342)
  heldW      : List HeldWrite             -- accesses that wait at their page (R275, R342)
  arrivals   : Nat                        -- the next place in the order of arrival (R275)
  bezel      : SMap Bezel                 -- by segment
  dacs       : SMap Dac                   -- by analog output
  adcFly     : SMap (List (Nat × Nat))    -- samples that are being delivered, by channel: the tick they were taken at and the code (R374)
  adcVal     : SMap Nat                   -- 1 while a channel's sample waits to be taken (R374)
  adcNext    : Nat                        -- time base value of the next sample (R374)
  diQ        : List DiEdge                -- the edge FIFO of the 24 V inputs (R375)
  loupe      : Loupe                      -- R379 to R383
  host       : HostPort                   -- the PCIe endpoint (R428)
  ser        : Serial                     -- the serial ports of J4 and JTAG (R452)
  power      : Power                      -- the module's power (R459)
  flash      : Flash                      -- R328
  load       : LoadE                      -- the load and its start-up (R327)
  recov      : Recov                      -- the assayers (R298)
  evq        : List EvRec                 -- the event queue, oldest first (R495)
  evLost     : Nat                        -- records lost since the last loss record (R495)
  deriving DecidableEq, Repr

/-- Registers whose reset value is not 0 (the register tables of chapters 11 to 16; the calibration registers at the
nominal values of R377, log 4; phase counts of R459). -/
def resetRegs : SMap Word :=
  [(0x10, 0x9640), (0x812, 0xFFFFFFFF), (0x813, 0x1FF), (0xC16, 0x5350)] ++
  (List.range 16).map (fun n => (0xC40 + n, (32768 : Word))) ++
  (List.range 16).map (fun n => (0xC60 + n, (32768 : Word))) ++
  [(0xC92, 15000), (0xC93, 5000), (0xC94, 11000), (0xC95, 5000), (0xC96, 1200)] ++
  [(0x1411, 0x3FFFF), (0x1413, 0x3FFFF)] ++
  (([5, 3, 2, 2, 5, 3, 4, 3, 3, 3, 3, 3, 3] ++ List.replicate 16 3 : List Nat).zipIdx.map
    fun x => (0x1C40 + x.2, BitVec.ofNat 32 (x.1 * 2 ^ 24))) ++
  (List.range 6).map (fun n => (0x40012 + 0x400 * n, (0x3FFFF : Word))) ++
  [(0x47010, 0x80000000), (0x47011, 3958242), (0x47019, 3958242), (0x47020, 20), (0x47023, 0x40000000)]

/-- The device right after reset: nRESET and PWR_GOOD have just risen on a module that is powered (log 1). -/
def State.reset : State where
  pending := []
  free := 0
  tb := 0
  ticks := 0
  tbStep := 0
  tbPast := []
  timeSeen := []
  age := 0
  released := false
  outRel := false
  regs := resetRegs
  wide := []
  mem := []
  marks := []
  wback := []
  cyc := []
  hostMem := []
  tiles := []
  prot := []
  rj := []
  lockets := []
  lockHid := []
  nextEpoch := 0
  mirrorAt := []
  clasps := []
  portOut := []
  clkSw := []
  govG := []
  coolA := []
  bezelTemp := []
  trims := []
  railsGo := false
  pwrTo := []
  pwrQ := []
  polish := []
  spareCopy := []
  lastRead := []
  net := []
  txns := []
  ends := []
  fails := []
  retry := []
  detour := []
  rr := []
  dma := []
  dmaRr := []
  zsend := []
  vecPend := []
  lines := []
  ethQ := []
  tsFifo := []
  mirror := []
  strand := Strand.init
  gates := []
  ethSent := []
  loadBuf := []
  routes := []
  writesOpen := false
  heldW := []
  arrivals := 0
  bezel := []
  dacs := []
  adcFly := []
  adcVal := []
  adcNext := 0
  diQ := []
  loupe := Loupe.init
  host := HostPort.init
  ser := Serial.init
  power := Power.init
  flash := Flash.init
  load := LoadE.init
  recov := Recov.init
  evq := []
  evLost := 0

end Sys2Proof.Machine
end

