-- ==== Sys2Proof/Machine/Ops.lean ====
section
/-! DEFINITION. The named operations on registers, events, the position map and memory that every meaning
uses (chapters 01, 05, 10, 14 and 16). -/

namespace Sys2Proof.Machine
open Sys2Proof

/-! ### Page indices (R489) -/

def pgDEVT : Nat := 1
def pgDCFG : Nat := 2
def pgDCAL : Nat := 3
def pgDCLK : Nat := 4
def pgDSTR : Nat := 5
def pgDACW : Nat := 6
def pgDPWR : Nat := 7
def pgDASY (i : Nat) : Nat := 8 + i
def pgDRCV : Nat := 0xA
def pgDBZL (s : Nat) : Nat := 0x10 + s
def pgDMIF : Nat := 0x18
def pgDLPE : Nat := 0x1C
def pgDBZC (i : Nat) : Nat := 0x40 + i
def pgZLNK (n : Nat) : Nat := 0x100 + n
def pgETHP (n : Nat) : Nat := 0x108 + n
def pgHPCI : Nat := 0x110
def pgHDMA : Nat := 0x111
def pgMEMC : Nat := 0x118
def pgMSER : Nat := 0x11C
def pgRRTR (r : Nat) : Nat := if r < 16 then 0x205 + 8 * r else 0x110 + r
def pgRCTL (r : Nat) : Nat := 0x200 + 8 * r
def pgRMEM (r : Nat) : Nat := 0x201 + 8 * r
def pgRDMA (r : Nat) : Nat := 0x202 + 8 * r
def pgRLANE (r : Nat) : Nat := 0x203 + 8 * r
def pgRCLK (r : Nat) : Nat := 0x204 + 8 * r
def pgRSTAT (r : Nat) : Nat := 0x206 + 8 * r
def pgRJNL (r : Nat) : Nat := 0x207 + 8 * r
def pgTSEQ (t : Nat) : Nat := 0x400 + 4 * t
def pgTFCT (t : Nat) : Nat := 0x401 + 4 * t
def pgTSCH (t : Nat) : Nat := 0x402 + 4 * t
def pgTBNK (t : Nat) : Nat := 0x403 + 4 * t

/-! ### Registers -/

/-- The stored word of the register at byte offset `off` of page `p`. Tile pages are kept by physical tile. -/
def regAt (s : State) (p off : Nat) : Word := look 0 s.regs (p * 1024 + off / 4)

def setRegAt (s : State) (p off : Nat) (w : Word) : State :=
  { s with regs := put 0 s.regs (p * 1024 + off / 4) w }

/-- A register field. -/
def getF (s : State) (p : Nat) (f : Fld) : Nat := bitsOf (regAt s p f.off).toNat f.hi f.lo

def flagF (s : State) (p : Nat) (f : Fld) : Bool := decide (getF s p f ≠ 0)

def setF (s : State) (p : Nat) (f : Fld) (v : Nat) : State :=
  setRegAt s p f.off (word (setBits (regAt s p f.off).toNat f.hi f.lo v))

/-- Adds to a counter field, which stays at its largest value (R482, R484). -/
def incF (s : State) (p : Nat) (f : Fld) (n : Nat) : State :=
  setF s p f (satAdd (f.hi + 1 - f.lo) (getF s p f) n)

/-- Raises a field to at least `v` (the "longest" registers). -/
def maxF (s : State) (p : Nat) (f : Fld) (v : Nat) : State :=
  if getF s p f < v then setF s p f (min v (2 ^ (f.hi + 1 - f.lo) - 1)) else s

/-- One more refused write or fault of a page. -/
def errCount (s : State) (p : Nat) : State := incF s p HDR.ERR_COUNT 1

/-- A 64-bit counter held whole; its low register shows bits [31:0]. -/
def wideOf (s : State) (p off : Nat) : Nat := look 0 s.wide (p * 1024 + off / 4)

def setWide (s : State) (p off v : Nat) : State := { s with wide := put 0 s.wide (p * 1024 + off / 4) v }

/-! ### Tiles and positions -/

def tileOf (s : State) (t : Nat) : Tile := look Tile.init s.tiles t

def setTile (s : State) (t : Nat) (x : Tile) : State := { s with tiles := put Tile.init s.tiles t x }

def modTile (s : State) (t : Nat) (f : Tile → Tile) : State := setTile s t (f (tileOf s t))

def protOf (s : State) (pos : Nat) : Prot := look Prot.init s.prot pos

def setProt (s : State) (pos : Nat) (x : Prot) : State := { s with prot := put Prot.init s.prot pos x }

def modProt (s : State) (pos : Nat) (f : Prot → Prot) : State := setProt s pos (f (protOf s pos))

def rjOf (s : State) (r : Nat) : RegionJ := look RegionJ.init s.rj r

def setRj (s : State) (r : Nat) (x : RegionJ) : State := { s with rj := put RegionJ.init s.rj r x }

/-- The byte of `POSMAPn` that belongs to region r: bit 7 USED, bit 6 BAD, bits [3:0] the position (R325). -/
def posByte (s : State) (r : Nat) : Nat :=
  bitsOf (regAt s pgDRCV (DRCV.POSMAP (r / 4)).off).toNat (8 * (r % 4) + 7) (8 * (r % 4))

def setPosByte (s : State) (r v : Nat) : State :=
  let o := (DRCV.POSMAP (r / 4)).off
  setRegAt s pgDRCV o (word (setBits (regAt s pgDRCV o).toNat (8 * (r % 4) + 7) (8 * (r % 4)) v))

/-- The image in force enables redundancy (R3, R4, R336). -/
def redund (s : State) : Bool := bitOf s.load.flags 0

/-- The region's spare serves another position. With redundancy disabled the map is the identity (R302). -/
def spareUsed (s : State) (r : Nat) : Bool := redund s && bitOf (posByte s r) 7
def spareBad (s : State) (r : Nat) : Bool := bitOf (posByte s r) 6

/-- Physical tile `t` has been retired (`DRCV.TILE_RETn`). -/
def tileRetired (s : State) (t : Nat) : Bool := bitOf (regAt s pgDRCV (DRCV.TILE_RET (t / 32)).off).toNat (t % 32)

/-- What a position's page index, banks and lanes reach (R302, R304, R491): a physical tile, nothing because the
position is retired, or no block because the spare serves another position. -/
inductive Serves where
  | tile (t : Nat)
  | retired
  | absent
  deriving DecidableEq, Repr

def serves (s : State) (pos : Nat) : Serves :=
  let r := pos / 16
  if spareUsed s r ∧ pos % 16 = 15 then .absent
  else if spareUsed s r ∧ posByte s r % 16 = pos % 16 then
    (if tileRetired s (16 * r + 15) then .retired else .tile (16 * r + 15))
  else if tileRetired s pos then .retired else .tile pos

/-- The position that a physical tile serves. -/
def posOf (s : State) (t : Nat) : Nat :=
  if t % 16 = 15 ∧ spareUsed s (t / 16) then 16 * (t / 16) + posByte s (t / 16) % 16 else t

/-- Position `pos` is protected (`RJNL.PROT`, R263). -/
def isProt (s : State) (pos : Nat) : Bool := bitOf (getF s (pgRJNL (pos / 16)) RJNL.PROT) (pos % 16)

/-- The position is being recovered or replays (R283, R284). -/
def recovering (s : State) (pos : Nat) : Bool := (protOf s pos).replay.isSome

def replaying (s : State) (pos : Nat) : Bool :=
  match (protOf s pos).replay with
  | some x => x.going
  | none => false

/-! ### Events (R486 to R497, R517) -/

/-- Takes a free value and advances the counter (log 2). -/
def takeFree (s : State) : Nat × State := (Config.freeNat s.free, { s with free := s.free + 1 })

/-- The divisors DIV1 to DIV8 by their codes (R241). -/
def divOf (d : Nat) : Nat := ([1, 2, 3, 4, 6, 8] : List Nat).getD d 8

def pllMult (s : State) (r b : Nat) : Nat := getF s (pgRCLK r) (if b = 0 then RCLK.PLLA_CFG_MULT else RCLK.PLLB_CFG_MULT)

/-- Frequency of a source in MHz as R242 counts it: RING at its upper tolerance. -/
def srcMHz (s : State) (r src : Nat) : Nat :=
  if src < 2 then 100 * pllMult s r src else if src = 2 then 412 else 100

def curSrc (s : State) (t : Nat) : Nat := getF s (pgRCLK (t / 16)) (RCLK.TILE_CLK_CURSRC (t % 16))
def curDiv (s : State) (t : Nat) : Nat := getF s (pgRCLK (t / 16)) (RCLK.TILE_CLK_CURDIV (t % 16))

/-- The clock of a physical tile is being switched, so no edge reaches it (R244). -/
def tileGated (s : State) (t : Nat) : Bool := flagF s (pgRCLK (t / 16)) (RCLK.TILE_CLK_BUSY (t % 16))

/-- Cycles of a tile's island in one reference tick (R243). -/
def tileEdges (s : State) (t : Nat) : Nat := max 1 (srcMHz s (t / 16) (curSrc s t) / (100 * divOf (curDiv s t)))

/-- Cycles per reference tick of the bezel island of a segment (R355). -/
def bezelEdges (s : State) (sg : Nat) : Nat :=
  if flagF s (pgDBZL sg) DBZL.CLK_LOCK then max 1 (getF s (pgDBZL sg) DBZL.CLK_FREQ) else 1

/-- Cycles per reference tick of the island that raises a page's events, 0 for one that is not lockable (R240, R517). A
channel of the machine interface lies in the west or the south segment; which one the page does not say, so either may be
meant (log 6). -/
def pageEdges (s : State) (p detail free : Nat) : Nat :=
  if 0x400 ≤ p then
    let t := (p - 0x400) / 4
    if flagF s (pgRCLK (t / 16)) (RCLK.TILE_CLK_LOCKABLE (t % 16)) then tileEdges s t else 0
  else if p = 8 ∨ p = 9 then 0
  else if p = pgDRCV then (if getF s pgDRCV DRCV.STATE_MODE = 2 then 1 else 0)
  else if 0x100 ≤ p ∧ p ≤ 0x118 then 0
  else if 0x120 ≤ p ∧ p < 0x280 then 10
  else if 0x10 ≤ p ∧ p < 0x14 then bezelEdges s (p - 0x10)
  else if 0x40 ≤ p ∧ p < 0x80 then bezelEdges s ((p - 0x40) / 16)
  else if p = pgDMIF then (if detail = 0xFF then 1 else bezelEdges s (2 + free % 2))
  else 1

/-- The island of a page, by one of its pages (R240, R517). -/
def pageIsland (p : Nat) : Nat :=
  if 0x400 ≤ p then p / 4 * 4
  else if 0x200 ≤ p ∧ p < 0x280 ∧ p % 8 ≠ 5 then p / 8 * 8
  else if 0x40 ≤ p ∧ p < 0x80 then 0x10 + (p - 0x40) / 16
  else if p = pgDRCV then 8
  else p

/-- A read of the time base on the island of page `p` (R258, R517): on a lockable island the value at the start of the tick
plus ⌊10 k / c⌋ in its cycle k of c, else the value of up to 3 ticks ago. Which cycle, or which value was delivered last, is
a free value that never runs backwards (log 6). -/
def timeAt (s : State) (p detail : Nat) : Nat × State :=
  let f := takeFree s
  let c := pageEdges s p detail (f.1 / 65536)
  let key := pageIsland p
  let seen := look (0, 0) s.timeSeen key
  if 0 < c then
    let lo := if seen.1 = s.age then min seen.2 (c - 1) else 0
    let k := lo + f.1 % (c - lo)
    ((s.tb.toNat + 10 * k / c) % 2 ^ 64, { f.2 with timeSeen := put (0, 0) s.timeSeen key (s.age, k) })
  else
    let j := f.1 % (1 + min 3 (s.age - seen.1))
    ((s.tb.toNat :: s.tbPast).getD j 0, { f.2 with timeSeen := put (0, 0) s.timeSeen key (s.age - j, 0) })

/-- The die is held in reset: PWR_GOOD is low (R463, R474). -/
def dieReset (s : State) : Bool := !s.power.good || s.power.heldLow

/-- Puts a record into the queue, or discards it and counts the loss (R495, R497). -/
def enqueueRec (s : State) (e : EvRec) : State :=
  if dieReset s then s
  else if s.evq.length < 256 then { s with evq := s.evq ++ [e] }
  else incF { s with evLost := satAdd 32 s.evLost 1 } pgDEVT DEVT.LOST 1

/-- The page index a record carries: a tile page of the position that the tile serves (R491, R494). -/
def shownPage (s : State) (p : Nat) : Nat :=
  if 0x400 ≤ p then 0x400 + 4 * posOf s ((p - 0x400) / 4) + p % 4 else p

/-- Makes and enters one record (R494). -/
def pushEvent (s : State) (p code bit : Nat) (pend : Bool) (detail : Nat) : State :=
  let q := shownPage s p
  let rep := decide (0x400 ≤ p) && replaying s ((q - 0x400) / 4)
  let (tm, s) := timeAt s p detail
  let s := if p = pgDCFG ∧ getF s pgHPCI HPCI.LINK_STATE = 2 ∧ getF s pgHPCI HPCI.LINK_PERS = 0 then
    { s with host := { s.host with msi := true } } else s
  enqueueRec s ⟨word tm, word (tm / 2 ^ 32),
    word (code * 2 ^ 24 + bit * 2 ^ 19 + b2n pend * 2 ^ 18 + b2n rep * 2 ^ 17 + q), word detail⟩

/-- An unconditional event (R486). -/
def raiseEv (s : State) (p code detail : Nat) : State := pushEvent s p code 0 false detail

/-- An optional event: recorded when `EVT_EN` bit `b` is 1 (R486). -/
def raiseOpt (s : State) (p b code detail : Nat) : State :=
  if bitOf (getF s p HDR.EVT_EN) b then pushEvent s p code b false detail else s

/-- A cause event: sets `EVT_PEND` bit `b`, and is recorded when `EVT_EN` bit `b` is 1 (R486). -/
def raiseCause (s : State) (p b code detail : Nat) : State :=
  let s := setF s p ⟨HDR.EVT_PEND.off, b, b⟩ 1
  if bitOf (getF s p HDR.EVT_EN) b then pushEvent s p code b true detail else s

/-- A refusal that a page counts and reports (R20). -/
def refuseAt (s : State) (p code detail : Nat) : State := raiseEv (errCount s p) p code detail

/-! ### What waits (R275, R342) -/

/-- The initiator IDs of the assayers (R212). -/
def isAssayerId (src : Nat) : Bool := decide (src = 0x230 ∨ src = 0x231)

/-- The initiator ID of host software, under which a named register command is served. -/
def hostSrc : Nat := 0x220

/-- Pages that are open to writes in every state (R342). -/
def openPage (p : Nat) : Bool := decide (p = pgDCFG ∨ p = pgDCAL ∨ p = pgHPCI ∨ p = pgMSER)

/-- The position of a tile page index. -/
def pagePos (p : Nat) : Option Nat := if 0x400 ≤ p ∧ p < 0x800 then some ((p - 0x400) / 4) else none

/-- Page index `p` takes no write of `src`: before WR_EN, and while the page's position is being recovered. -/
def pageShut (s : State) (src p : Nat) : Bool :=
  (!(isAssayerId src) && !s.writesOpen && !(openPage p)) || ((pagePos p).any (recovering s) && src != 0x232)

/-- A write to page index `p` waits: while the page takes none, and behind writes to it that wait already (R484). -/
def pageWaits (s : State) (src p : Nat) : Bool :=
  pageShut s src p || (!(isAssayerId src) && s.heldW.any fun w => w.page == p)

/-- An access waits at its page, behind what has arrived before it. -/
def holdAccess (s : State) (p off : Nat) (v : Word) (src : Nat) (read : Bool) : State :=
  { s with heldW := s.heldW ++ [⟨p, off, v, src, read, s.arrivals⟩], arrivals := s.arrivals + 1 }

/-- A register write command: `f` when the page serves it now; else the write waits at its page. A die in reset takes
no write (R474). -/
def regCmd (p off : Nat) (v : Word) (src : Nat) (f : State → State) (s : State) : State :=
  if dieReset s then s
  else if pageWaits s src p then holdAccess s p off v src false else f s

/-- What a unit does that SR_REL has to release first (R342). -/
def whenReleased (f : State → State) (s : State) : State := if s.released then f s else s

/-! ### Memory -/

/-- The one form of memory: addresses strictly rising, no entry equal to what an unlisted address reads as (R161). -/
def Memory.wf (m : List Host.Cell) : Bool := canon 0 m

def memByte (s : State) (a : Nat) : Byte := look 0 s.mem a

def setByte (s : State) (a : Nat) (b : Byte) : State := { s with mem := put 0 s.mem a b }

/-- The little-endian word at byte address `a` (R7). -/
def memWord (s : State) (a : Nat) : Word :=
  word (ofBytes [memByte s a, memByte s (a + 1), memByte s (a + 2), memByte s (a + 3)])

/-- Writes bytes from address `a` on. -/
def setBytes (s : State) (a : Nat) : List Byte → State
  | [] => s
  | b :: bs => setBytes (setByte s a b) (a + 1) bs

def setWord (s : State) (a : Nat) (w : Word) : State := setBytes s a (toBytes 4 w.toNat)

/-- The bytes from `a` on. -/
def memBytes (s : State) (a : Nat) : Nat → List Byte
  | 0 => []
  | n + 1 => memByte s a :: memBytes s (a + 1) n

def hostBytes (s : State) (a : Nat) : Nat → List Byte
  | 0 => []
  | n + 1 => look 0 s.hostMem a :: hostBytes s (a + 1) n

def setHostBytes (s : State) (a : Nat) : List Byte → State
  | [] => s
  | b :: bs => setHostBytes { s with hostMem := put 0 s.hostMem a b } (a + 1) bs

/-- The ECC mark of the stored word at byte address `a` (aligned to the word). -/
def markAt (s : State) (a : Nat) : Mark := look .clean s.marks a

def setMark (s : State) (a : Nat) (m : Mark) : State := { s with marks := put .clean s.marks a m }

/-- The code of a read by its syndrome (R146). -/
def markCode : Mark → Nat
  | .clean => 0
  | .corr => 0x21
  | .uncorr => 0x22
  | .poison => 0x23

def isBad (code : Nat) : Bool := decide (code = 0x22 ∨ code = 0x23)

/-- Where an address leads, before banks and pages are looked at (R19 to R22, R211). -/
inductive Place where
  | lpddr (a : Nat)
  | rmem (r off : Nat)
  | bank (pos off : Nat)
  | page (p off : Nat)
  | bad (code : Nat)
  deriving DecidableEq, Repr

/-- Bits [45:44] of an address (R21). -/
def aliasOf (a : Nat) : Nat := bitsOf a 45 44

def placeOf (a : Nat) : Place :=
  let b := a % 2 ^ 44
  let al := aliasOf a
  if 2 ^ 46 ≤ a then .bad 0x10
  else if b < 0x800000000 then (if al = 0 then .lpddr b else .bad 0x11)
  else if 0x1000000000 ≤ b ∧ b < 0x1002000000 then
    (if al = 3 then .bad 0x11 else .rmem ((b - 0x1000000000) / 0x200000) (b % 0x200000))
  else if 0x1100000000 ≤ b ∧ b < 0x1104000000 then
    (if al = 3 then .bad 0x11 else .bank ((b - 0x1100000000) / 0x40000) (b % 0x40000))
  else if 0x1200000000 ≤ b ∧ b < 0x1201000000 then
    (if al ≠ 0 then .bad 0x11
     else if 0x800 ≤ (b - 0x1200000000) / 0x1000 then .bad 0x12 else .page ((b - 0x1200000000) / 0x1000) (b % 0x1000))
  else .bad 0x10

/-- Byte address of word `w` of physical tile `t` (R78). -/
def bankAddr (t w : Nat) : Nat := 0x1100000000 + 0x40000 * t + 4 * (w % 65536)

def rmemAddr (r off : Nat) : Nat := 0x1000000000 + 0x200000 * r + off

/-- Storage of the spare physical bank of region `r`, outside every address of R19 (R142, R168). -/
def spareAddr (r off : Nat) : Nat := 0x1800000000 + 0x20000 * r + off % 0x20000

/-- Logical bank `b` of region `r` maps to the spare physical bank (R168). -/
def onSpare (s : State) (r b : Nat) : Bool :=
  flagF s (pgRMEM r) RMEM.SPARE_MAP_USED && getF s (pgRMEM r) RMEM.SPARE_MAP_LBANK == b

/-- Storage address of byte `off` of region memory (R143, R168). -/
def rmemStore (s : State) (r off : Nat) : Nat := if onSpare s r (off / 0x20000) then spareAddr r off else rmemAddr r off

/-- Power state of tile bank `b` of a physical tile, and of logical region bank `b` (R160). -/
def bankState (s : State) (t b : Nat) : Nat := bitsOf (getF s (pgTBNK t) TBNK.PWR_STATE) (2 * b + 1) (2 * b)

def rbankState (s : State) (r b : Nat) : Nat := bitsOf (getF s (pgRMEM r) RMEM.PWR_STATE) (2 * b + 1) (2 * b)

def setBankState (s : State) (t b v : Nat) : State :=
  setF s (pgTBNK t) TBNK.PWR_STATE (setBits (getF s (pgTBNK t) TBNK.PWR_STATE) (2 * b + 1) (2 * b) v)

def setRbankState (s : State) (r b v : Nat) : State :=
  setF s (pgRMEM r) RMEM.PWR_STATE (setBits (getF s (pgRMEM r) RMEM.PWR_STATE) (2 * b + 1) (2 * b) v)

/-- Whether the bank that holds word `w` of a physical tile is ON. -/
def bankOn (s : State) (t w : Nat) : Bool := decide (bankState s t (w % 65536 / 8192) = 2)

/-- The refusal of an access to a memory place: 0 when it is served (R162, R169, R304). -/
def placeRefusal (s : State) : Place → Nat
  | .lpddr _ => 0
  | .rmem r off =>
    let b := off / 0x20000
    if bitOf (getF s (pgRMEM r) RMEM.SPARE_MAP_RETIRED) b then 0x15
    else if rbankState s r b ≠ 2 then 0x16 else 0
  | .bank pos off =>
    match serves s pos with
    | .tile t => if bankState s t (off / 0x8000) ≠ 2 then 0x16 else 0
    | _ => 0x15
  | .page p _ =>
    match blkOf p with
    | none => 0x12
    | some (.tseq, pos) | some (.tfct, pos) | some (.tsch, pos) | some (.tbnk, pos) =>
      (match serves s pos with
       | .tile _ => 0
       | .retired => 0x15
       | .absent => 0x12)
    | some _ => 0
  | .bad c => c

/-- The storage byte address of a memory place: tile banks by physical tile. -/
def storageOf (s : State) : Place → Option Nat
  | .lpddr a => some a
  | .rmem r off => some (rmemStore s r off)
  | .bank pos off =>
    match serves s pos with
    | .tile t => some (0x1100000000 + 0x40000 * t + off)
    | _ => none
  | _ => none

/-- The page that reports a memory place's ECC, and the word field it shows (R147, R174, R175, R451). -/
def eccPage (s : State) : Place → Nat × Nat
  | .lpddr a => (pgMEMC, a / 8)
  | .rmem r off => (pgRMEM r, off / 4)
  | .bank pos off => (pgTBNK (match serves s pos with | .tile t => t | _ => pos), off / 4)
  | _ => (0, 0)

/-- The stored word's key: 32-bit words on chip, 64-bit words in LPDDR5 (R145, R445). -/
def wordKey (a : Nat) : Nat := if a < 0x800000000 then a - a % 8 else a - a % 4

/-- Keeps the detail of a report of a banks or memory page for the recovery log (R310, R501). -/
def keepDetail (s : State) (p d : Nat) : State := { s with recov := { s.recov with detail := put 0 s.recov.detail p d } }

/-- What a checked read does beside returning data (R146, R147): counters, address, event, write-back. -/
def eccNote (s : State) (pl : Place) (addr key : Nat) : State :=
  let p := (eccPage s pl).1
  let w := (eccPage s pl).2
  let lp := decide (p = pgMEMC)
  match markAt s key with
  | .clean => s
  | .corr =>
    let s := incF s p (if lp then MEMC.ECC_CORR else if p < 0x400 then RMEM.ECC_CORR else TBNK.ECC_CORR) 1
    raiseOpt { s with wback := put 0 s.wback key 1 } p 0 0x21 (addr % 2 ^ 32)
  | m =>
    let code := markCode m
    let s := incF s p (if lp then MEMC.ECC_UNCORR else if p < 0x400 then RMEM.ECC_UNCORR else TBNK.ECC_UNCORR) 1
    let s :=
      if lp then setF (setF (setF s p MEMC.ECC_ADDR_LO w) p MEMC.ECC_ADDR_HI_CODE code) p MEMC.ECC_ADDR_HI_ADDR (w / 2 ^ 29)
      else if p < 0x400 then setF (setF s p RMEM.ECC_ADDR_WORD w) p RMEM.ECC_ADDR_CODE code
      else setF (setF s p TBNK.ECC_ADDR_WORD w) p TBNK.ECC_ADDR_CODE code
    raiseEv (keepDetail s p (addr % 2 ^ 32)) p code (addr % 2 ^ 32)

end Sys2Proof.Machine
end

