-- ==== Sys2Proof/Machine/Reclog.lean ====
section
/-! DEFINITION. The recovery log and the assayers' roles (R298, R309, R310, R324, R325). -/

namespace Sys2Proof.Machine
open Sys2Proof

def modRecov (s : State) (f : Recov → Recov) : State := { s with recov := f s.recov }

/-- `DASY.ROLE.ROLE`: 0 OFF, 1 ACTIVE, 2 STANDBY, 3 FAILED. -/
def roleOf (s : State) (i : Nat) : Nat := getF s (pgDASY i) DASY.ROLE_ROLE

def setRole (s : State) (i v : Nat) : State := setF s (pgDASY i) DASY.ROLE_ROLE v

/-- The active assayer. -/
def activeAssayer (s : State) : Option Nat := if roleOf s 0 = 1 then some 0 else if roleOf s 1 = 1 then some 1 else none

/-- `DRCV.STATE.MODE` is FAILSTATIC. -/
def failStaticOn (s : State) : Bool := getF s pgDRCV DRCV.STATE_MODE == 2

/-- Kinds of entry (R310). -/
def lkIntent : Nat := 1
def lkDone : Nat := 2
def lkPart : Nat := 3
def lkNote : Nat := 4

/-- The network runs: the network PLL is locked, and with it every router (R298). -/
def netUp (s : State) : Bool := flagF s pgDCLK DCLK.NET_PLL

/-- The detail with which the fault that causes an action was reported (R310, R501): for 0x21 to 0x24 that of the bank's
page. An action of the host has no fault code and no detail. -/
def detailAt (s : State) (code page : Nat) : Nat :=
  let p := if 0x400 ≤ page then pgTBNK (match serves s ((page - 0x400) / 4) with | .tile t => t | _ => (page - 0x400) / 4) else page
  if 0x21 ≤ code ∧ code ≤ 0x24 then look 0 s.recov.detail p else 0

/-- Writes a log entry; every assayer that runs holds it at once (R310). -/
def logWrite (s : State) (kind action step code : Nat) (host : Bool) (sub page progress detail : Nat) : State :=
  let tm := timeAt s pgDRCV 0
  let s := tm.2
  let n := s.recov.next
  let ws : List Nat :=
    [n, kind * 2 ^ 28 + action * 2 ^ 20 + step * 2 ^ 16 + code * 2 ^ 8 + b2n host, sub * 2 ^ 16 + page, detail,
     tm.1, tm.1 / 2 ^ 32, progress, 0]
  let s := modRecov s fun x => { x with
    next := n + 1
    log := ws.zipIdx.foldl (fun m w => put 0 m (8 * (n % 4096) + w.2) (word w.1)) x.log }
  let s := setF s pgDRCV DRCV.LOG_HEAD n
  (List.range 2).foldl (fun s i =>
    if roleOf s i = 1 ∨ roleOf s i = 2 then setF s (pgDASY i) DASY.LOG_ACK n else s) s

/-- Word `n` of the entry that `LOG_SEL` names, 0 when it is no longer held (R325). -/
def logData (s : State) (n : Nat) : Word :=
  let sel := getF s pgDRCV DRCV.LOG_SEL
  let back := (s.recov.next + 2 ^ 32 - 1 - sel) % 2 ^ 32
  if back < 4096 ∧ back < s.recov.next then look 0 s.recov.log (8 * (sel % 4096) + n) else 0

/-- The active assayer notes a fault on which it does not act (R300, R310). -/
def noteLog (s : State) (code page : Nat) : State :=
  if (activeAssayer s).isSome then logWrite s lkNote 0xD 0 code false 0 page 0 (detailAt s code page) else s

/-- A condition of R294 has failed (R309). -/
def outside (s : State) (page sub : Nat) : State :=
  raiseEv (setF s pgDRCV DRCV.STATE_OUTSIDE 1) pgDRCV 0x56 (page + sub * 2 ^ 16)

/-- A fault of the protection group that a page and sub-unit name; on a second one within 2 ms, or while the supply is outside
its range (R294 condition 4), the active assayer says that R294 does not cover it (R309). -/
def groupFault (s : State) (page sub : Nat) : State :=
  if (activeAssayer s).isNone then s
  else
    let k := 256 * page + sub
    let last := look 0 s.recov.faultAt k
    let s := modRecov s fun x => { x with faultAt := put 0 x.faultAt k (s.age + 1) }
    if (last ≠ 0 ∧ s.age < last + 199999) ∨ s.power.supplyOut = true then outside s page sub else s

/-- An action of one step: INTENT, the step, DONE (R310). -/
def oneStep (s : State) (action code : Nat) (host : Bool) (sub page : Nat) (f : State → State) : State :=
  let d := detailAt s code page
  logWrite (f (logWrite s lkIntent action 1 code host sub page 0 d)) lkDone action 1 code host sub page 0 d

def actOf (s : State) (key : Nat) : Option Act := look none s.recov.acts key
def setAct (s : State) (key : Nat) (x : Option Act) : State := modRecov s fun y => { y with acts := put none y.acts key x }

/-- An action of one step that reads or writes memory or pages: while the network is down it stays logged as INTENT under
`key`, and it is performed when it is asked for again (R298). -/
def netStep (s : State) (key action code : Nat) (host : Bool) (sub page : Nat) (f : State → State) : State :=
  let old := (actOf s key).filter fun x => x.held && x.action == action
  let x : Act := old.getD ⟨action, 1, code, host, sub, page, false, 0, detailAt s code page, true⟩
  let log := fun (s : State) (kind : Nat) => logWrite s kind action 1 x.code x.host x.sub x.page 0 x.detail
  let s := if old.isSome then s else log s lkIntent
  if netUp s then log (f (if old.isSome then setAct s key none else s)) lkDone else setAct s key (some x)

end Sys2Proof.Machine
end

