-- ==== Sys2Proof/Machine/Facets.lean ====
section
/-! DEFINITION. The facet word, the facet set, the crossbar entry and the validity rules of a set
(R24, R27 to R42, R61, R62). -/

namespace Sys2Proof.Machine
open Sys2Proof

/-- Operations of an ALU cell (R34). -/
inductive AluOp where
  | nop | mov | add | sub | adc | sbc | neg | abs | band | bor | bxor | bnot | shl | shr | sar | rol
  | min | max | clamp | sel | cmp | minix | maxix | popc | clz | pack | ext16 | wsel | widx | wfin
  deriving DecidableEq, Repr

/-- Operations of a MAC cell (R35). -/
inductive MacOp where
  | nop | mov | mul | mac | msu | accld | accadd | accmv | add | sub
  deriving DecidableEq, Repr

/-- Operations of an address cell (R36). -/
inductive AddrOp where
  | nop | mov | add | sub | band | bor | shl | shr
  deriving DecidableEq, Repr

/-- MAC arithmetic modes (R37). -/
inductive MacMode where
  | d16 | s32 | g64
  deriving DecidableEq, Repr

/-- The type of each cell of a tile (R11). -/
inductive CellType where
  | addr | alu | mac
  deriving DecidableEq, Repr

def cellType (c : Nat) : CellType :=
  if c = 0 ∨ c = 15 then .addr else if c = 5 ∨ c = 6 ∨ c = 9 ∨ c = 10 then .mac else .alu

def aluOps : List AluOp :=
  [.nop, .mov, .add, .sub, .adc, .sbc, .neg, .abs, .band, .bor, .bxor, .bnot, .shl, .shr, .sar, .rol,
   .min, .max, .clamp, .sel, .cmp, .minix, .maxix, .popc, .clz, .pack, .ext16]

def aluOpOf (n : Nat) : Option AluOp :=
  if n = 0x20 then some .wsel else if n = 0x21 then some .widx else if n = 0x22 then some .wfin else aluOps[n]?

def macOpOf (n : Nat) : Option MacOp :=
  ([.nop, .mov, .mul, .mac, .msu, .accld, .accadd, .accmv, .add, .sub] : List MacOp)[n]?

def addrOpOf (n : Nat) : Option AddrOp :=
  ([.nop, .mov, .add, .sub, .band, .bor, .shl, .shr] : List AddrOp)[n]?

def macModeOf (n : Nat) : Option MacMode := ([.d16, .s32, .g64] : List MacMode)[n]?

/-- The fields of a facet word (R27). -/
structure Facet where
  op : Nat
  mode : Nat
  srcA : Nat
  srcB : Nat
  srcC : Nat
  wben : Bool
  wbreg : Nat
  accsel : Nat
  aclr : Bool
  scale : Nat
  sat : Bool
  flagw : Bool
  cond : Nat
  tagop : Nat
  evout : Bool
  typ : Nat
  ohold : Bool
  rsv : Nat
  imm : Word
  deriving DecidableEq, Repr

/-- Reads the fields of a 128-bit facet word (R27). -/
def facetOf (n : Nat) : Facet where
  op := bitsOf n 127 122
  mode := bitsOf n 121 120
  srcA := bitsOf n 119 116
  srcB := bitsOf n 115 112
  srcC := bitsOf n 111 108
  wben := bitOf n 107
  wbreg := bitsOf n 106 104
  accsel := bitsOf n 103 103
  aclr := bitOf n 102
  scale := bitsOf n 101 98
  sat := bitOf n 97
  flagw := bitOf n 96
  cond := bitsOf n 95 92
  tagop := bitsOf n 91 89
  evout := bitOf n 88
  typ := bitsOf n 87 64
  ohold := bitOf n 63
  rsv := bitsOf n 62 32
  imm := word (bitsOf n 31 0)

/-- The facet word of cell `c` in a set whose 32-bit words are read by `w` (R27, R39). -/
def facetAt (w : Nat → Word) (c : Nat) : Facet :=
  facetOf ((w (4 * c)).toNat + ((w (4 * c + 1)).toNat <<< 32) + ((w (4 * c + 2)).toNat <<< 64) + ((w (4 * c + 3)).toNat <<< 96))

/-- The crossbar entry byte of destination `d` (R39, R40). -/
def xbarByte (w : Nat → Word) (d : Nat) : Nat := bitsOf (w (64 + d / 4)).toNat (8 * (d % 4) + 7) (8 * (d % 4))

/-- One crossbar entry (R40). -/
structure XEntry where
  en : Bool
  peek : Bool
  src : Nat
  deriving DecidableEq, Repr

def xentryOf (b : Nat) : XEntry := ⟨bitOf b 7, bitOf b 6, b % 64⟩

def xentry (w : Nat → Word) (d : Nat) : XEntry := xentryOf (xbarByte w d)

/-- Sources 32 to 43 are queue sources (R41). -/
def isQueueSrc (s : Nat) : Bool := decide (32 ≤ s ∧ s ≤ 43)

/-- Selector members 0 to 7 in order (R24). -/
def selMembers : List Nat := [3, 4, 7, 8, 11, 12, 13, 14]

/-- One cell's facet word keeps R28, R30, R32, R34 to R36, R38 and the placement rules of R62. -/
def facetOk (c : Nat) (f : Facet) : Bool :=
  decide (f.rsv = 0) && decide (f.cond ≤ 11) && decide (f.tagop ≤ 6) &&
  (match cellType c with
   | .alu =>
     decide (f.mode = 0) && decide (f.accsel = 0) && !f.aclr && decide (f.typ % 2 ^ 20 = 0) &&
     (match aluOpOf f.op with
      | none => false
      | some .wsel => selMembers.contains c
      | some .widx => decide (c = 1)
      | some .wfin => decide (c = 2)
      | some _ => true)
   | .mac => (macModeOf f.mode).isSome && decide (f.typ = 0) && (macOpOf f.op).isSome
   | .addr =>
     decide (f.mode = 0) && decide (f.accsel = 0) && !f.aclr && (addrOpOf f.op).isSome &&
     decide (f.typ % 256 = 0) && decide (bitsOf f.typ 16 16 = 0) && decide (bitsOf f.typ 8 8 = 0))

/-- G64 pairs agree on MODE, and in G64 on OP, ACCSEL and ACLR (R37). -/
def pairOk (a b : Facet) : Bool :=
  if a.mode = 2 ∨ b.mode = 2 then
    decide (a.mode = b.mode) && decide (a.op = b.op) && decide (a.accsel = b.accsel) && (a.aclr == b.aclr)
  else true

/-- WSEL runs on members 0 to k − 1 only, and with WIDX in C1 (R62). -/
def selectorOk (fs : Nat → Facet) : Bool :=
  let runs := selMembers.map fun c => decide ((fs c).op = 0x20)
  let prefixOk := (runs.dropWhile id).all (fun b => !b)
  prefixOk && (!(runs.any id) || decide ((fs 1).op = 0x21))

/-- One crossbar entry keeps R40 to R42; `lane` answers whether the lane rules of R52 hold for it. -/
def xentryOk (lane : Nat → XEntry → Bool) (d b : Nat) : Bool :=
  let e := xentryOf b
  if e.en then
    decide (d ≤ 45) && decide (e.src ≤ 48) && (!e.peek || isQueueSrc e.src) && lane d e
  else decide (b = 0)

/-- The validity of a whole set (R52); `laneOut k` says that lane output k is XBAR, `laneIn k` that lane
input k is driven and not passed through (R56, R58). -/
def setOk (w : Nat → Word) (laneOut laneIn : Nat → Bool) : Bool :=
  let fs := fun c => facetAt w c
  (List.range 16).all (fun c => facetOk c (fs c)) &&
  pairOk (fs 5) (fs 6) && pairOk (fs 9) (fs 10) && selectorOk fs &&
  (List.range 64).all (fun d => xentryOk
    (fun d e => (if 32 ≤ d ∧ d ≤ 39 then laneOut (d - 32) else true) &&
                (if 32 ≤ e.src ∧ e.src ≤ 39 then laneIn (e.src - 32) else true)) d (xbarByte w d))

/-- Bank and word offset of word `w` of set `s` in the facet store, as a tile word address (R46, R78). -/
def storeAddr (s w : Nat) : Nat := (w % 4) * 8192 + 20 * s + w / 4

end Sys2Proof.Machine
end

