-- ==== Sys2Proof/Machine/Flags.lean ====
section
/-! DEFINITION. Flags, rounding, narrowing and result tags of the cell datapath (R30, R32, R65 to R67). -/

namespace Sys2Proof.Machine
open Sys2Proof

/-- Flags as bits Z, N, V, C of window item FLAGS (R137). -/
def flgToNat (f : Flg) : Nat := b2n f.z + 2 * b2n f.n + 4 * b2n f.v + 8 * b2n f.c

def flgOfNat (n : Nat) : Flg := ⟨bitOf n 0, bitOf n 1, bitOf n 2, bitOf n 3⟩

/-- Tags numbered as R98: bit 0 LAST, bit 1 MARK, bit 2 ERR, bit 3 LATE. -/
def tagsOf (t : Tok) : Nat := b2n t.last + 2 * b2n t.mark + 4 * b2n t.err + 8 * b2n t.late

def tokOf (d : Word) (tags : Nat) : Tok := ⟨d, bitOf tags 0, bitOf tags 1, bitOf tags 2, bitOf tags 3⟩

/-- The rounding modes of R66. -/
inductive Rounding where
  | conv
  | trunc
  deriving DecidableEq, Repr

/-- The shift step of R66. -/
def shiftScale (x s : Int) (md : Rounding) : Int :=
  if 0 ≤ s then x * 2 ^ s.toNat
  else
    let k := (-s).toNat
    let q := x / 2 ^ k
    let r := x % 2 ^ k
    match md with
    | .trunc => q
    | .conv => if r > 2 ^ (k - 1) then q + 1 else if r = 2 ^ (k - 1) ∧ q % 2 = 1 then q + 1 else q

/-- The narrowing step of R65 to `w` bits: the value kept and whether it was out of range. -/
def narrow (w : Nat) (sat : Bool) (x : Int) : Int × Bool :=
  let hi : Int := 2 ^ (w - 1) - 1
  let lo : Int := -(2 ^ (w - 1))
  if x > hi then (if sat then hi else sext w (x % 2 ^ w).toNat, true)
  else if x < lo then (if sat then lo else sext w (x % 2 ^ w).toNat, true)
  else (x, false)

/-- The four-bit field SCALE as a signed shift, −8 to +7 (R27). -/
def scaleOf (n : Nat) : Int := sext 4 n

/-- Z and N of a 32-bit result, V and C as given (R67). -/
def flagsOf (r : Word) (v c : Bool) : Flg := ⟨r = 0, r.msb, v, c⟩

/-- COND of R30 over the flags at the start of the cycle and operand A. -/
def condHolds (cond : Nat) (f : Flg) (a : Tok) : Bool :=
  match cond with
  | 0 => true
  | 1 => f.z
  | 2 => !f.z
  | 3 => f.n
  | 4 => !f.n
  | 5 => f.v
  | 6 => !f.v
  | 7 => f.c
  | 8 => !f.c
  | 9 => a.mark
  | 10 => a.last
  | 11 => !a.last
  | _ => false

/-- LAST and MARK of a result by TAGOP (R32). -/
def tagOp (t : Nat) (a b : Tok) : Bool × Bool :=
  match t with
  | 0 => (a.last, a.mark)
  | 1 => (b.last, b.mark)
  | 2 => (a.last || b.last, a.mark || b.mark)
  | 3 => (false, false)
  | 4 => (true, false)
  | 5 => (false, true)
  | 6 => (true, true)
  | _ => (false, false)

/-- A result token: data, LAST and MARK by TAGOP, ERR and LATE as the OR over the operands read (R32). -/
def resultTok (d : Word) (tag : Nat) (a b : Tok) (err late : Bool) : Tok :=
  let lm := tagOp tag a b
  ⟨d, lm.1, lm.2, err, late⟩

end Sys2Proof.Machine
end

