-- ==== Sys2Proof/Machine/Operands.lean ====
section
/-! DEFINITION. Operand forms: the facet's source fields (R29), the sequencer's operand formats (R94)
and its register fields (R95). -/

namespace Sys2Proof.Machine
open Sys2Proof

/-- What a cell sees besides its own state in one executed cycle: the active level and the bus data. -/
structure Seen where
  level : Nat
  bx : Tok
  by_ : Tok
  bk : Tok
  deriving DecidableEq, Repr

/-- Register i of the active level's bank (R29). -/
def cellV (c : Cell) (level i : Nat) : Word := look 0 c.v (8 * level + i)

/-- The operand that a source field names (R29). -/
def operand (e : Seen) (c : Cell) (imm : Word) (src : Nat) : Tok :=
  match src with
  | 0 => c.xa
  | 1 => c.xb
  | 2 => e.bx
  | 3 => e.by_
  | 4 => e.bk
  | 5 => Tok.plain imm
  | 6 => Tok.zero
  | 7 => c.o.tok
  | n => Tok.plain (cellV c e.level (n - 8))

/-- The operand formats of R94. -/
inductive Fmt where
  | r | i | u | b | j | pi | pr | n
  deriving DecidableEq, Repr

/-- The sequencer operations of R96. -/
inductive SeqOp where
  | nop | add | sub | and_ | or_ | xor | shl | shr | sar | slt | sltu | mul
  | addi | andi | ori | xori | shli | shri | sari | slti | lui | li | llo | ld | st
  | beq | bne | blt | bge | bltu | bgeu | j | jr | call | callr | ret | rete | repi | repr
  | in_ | out | intag | pagei | pager | waitev | rdtime | swev | halt
  deriving DecidableEq, Repr

/-- The operation code of each operation (R96). -/
def opcodeOf : SeqOp → Nat
  | .nop => 0x00 | .add => 0x01 | .sub => 0x02 | .and_ => 0x03 | .or_ => 0x04 | .xor => 0x05 | .shl => 0x06
  | .shr => 0x07 | .sar => 0x08 | .slt => 0x09 | .sltu => 0x0A | .mul => 0x0B
  | .addi => 0x10 | .andi => 0x11 | .ori => 0x12 | .xori => 0x13 | .shli => 0x14 | .shri => 0x15 | .sari => 0x16
  | .slti => 0x17 | .lui => 0x18 | .li => 0x19 | .llo => 0x1A | .ld => 0x1C | .st => 0x1D
  | .beq => 0x20 | .bne => 0x21 | .blt => 0x22 | .bge => 0x23 | .bltu => 0x24 | .bgeu => 0x25
  | .j => 0x26 | .jr => 0x27 | .call => 0x28 | .callr => 0x29 | .ret => 0x2A | .rete => 0x2B
  | .repi => 0x30 | .repr => 0x31 | .in_ => 0x34 | .out => 0x35 | .intag => 0x36
  | .pagei => 0x38 | .pager => 0x39 | .waitev => 0x3A | .rdtime => 0x3B | .swev => 0x3C | .halt => 0x3F

def allSeqOps : List SeqOp :=
  [.nop, .add, .sub, .and_, .or_, .xor, .shl, .shr, .sar, .slt, .sltu, .mul, .addi, .andi, .ori, .xori, .shli,
   .shri, .sari, .slti, .lui, .li, .llo, .ld, .st, .beq, .bne, .blt, .bge, .bltu, .bgeu, .j, .jr, .call, .callr,
   .ret, .rete, .repi, .repr, .in_, .out, .intag, .pagei, .pager, .waitev, .rdtime, .swev, .halt]

/-- The operation that a six-bit operation code names, if any (R96, R97). -/
def seqOpOf (n : Nat) : Option SeqOp := allSeqOps.find? (fun o => opcodeOf o == n)

/-- The operand bits [20:0] that must be 0 in each operation (R94, R96, R101, R102, R129). -/
def reservedMask : SeqOp → Nat
  | .add | .sub | .and_ | .or_ | .xor | .shl | .shr | .sar | .slt | .sltu | .mul => 0x00003F
  | .addi | .andi | .ori | .xori | .shli | .shri | .sari | .slti | .ld | .st => 0
  | .lui | .li | .llo => 0
  | .beq | .bne | .blt | .bge | .bltu | .bgeu => 0
  | .j | .call => 0x1F0000
  | .jr | .callr | .pager => 0x1F07FF
  | .repi => 0
  | .repr => 0x00F000
  | .in_ | .intag => 0x00FFFF
  | .out => 0x1F0000
  | .rdtime => 0x00FFFE
  | .pagei => 0x1FF000
  | .waitev => 0x1FFFC0
  | .swev => 0x1FFFE0
  | .nop | .ret | .rete | .halt => 0x1FFFFF

/-- Fields of the operand bits (R94). -/
def fRD (o : Nat) : Nat := bitsOf o 20 16
def fRA (o : Nat) : Nat := bitsOf o 15 11
def fRB (o : Nat) : Nat := bitsOf o 10 6
def fImm11 (o : Nat) : Int := sext 11 o
def fImm16 (o : Nat) : Nat := bitsOf o 15 0
def fBra (o : Nat) : Nat := bitsOf o 20 16
def fBrb (o : Nat) : Nat := bitsOf o 15 11
def fCount (o : Nat) : Nat := bitsOf o 20 5
def fLenI (o : Nat) : Nat := bitsOf o 4 0
def fLenR (o : Nat) : Nat := bitsOf o 11 0
def fVal (o : Nat) : Nat := bitsOf o 11 0

/-- The instruction word of an operation with FV, FSLOT and operand bits (R92). -/
def insnWord (op : SeqOp) (fv : Bool) (fs : Fin 16) (o : BitVec 21) : Word :=
  word ((opcodeOf op <<< 26) + (b2n fv <<< 25) + (fs.val <<< 21) + o.toNat)

/-- Where register field r lies in the ring for window w: M0..M7 of w, H0..H7 of w, U as the M registers
of w + 1 (mod 12) (R95, R113, R138). -/
def ringKey (w r : Nat) : Nat :=
  if r < 8 then 16 * w + 8 + r
  else if r < 16 then 16 * w + (r - 8)
  else 16 * ((w + 1) % 12) + 8 + (r - 16)

/-- Reads the register that a five-bit field names (R95). -/
def seqReg (t : Tile) (r : Nat) : Word :=
  if r < 24 then look 0 t.ring (ringKey t.wpos r) else look 0 t.z (r - 24)

/-- Writes the register that a five-bit field names (R95). -/
def setSeqReg (t : Tile) (r : Nat) (v : Word) : Tile :=
  if r < 24 then { t with ring := put 0 t.ring (ringKey t.wpos r) v } else { t with z := put 0 t.z (r - 24) v }

end Sys2Proof.Machine
end

