-- ==== Sys2Proof/Machine/Cells.lean ====
section
/-! DEFINITION. What one cell does in an executed cycle: ALU, MAC and address operations, search,
selector, accumulators, address generators, and the result path (R31 to R33, R61, R62, R65 to R82, R518). -/

namespace Sys2Proof.Machine
open Sys2Proof

/-- A value with the flags that FLAGW would set (R67, R68). -/
structure Val where
  r : Word
  f : Flg
  deriving DecidableEq, Repr

/-- A value whose flags are Z and N, with C and V clear (R68, "ZN"). -/
def valZN (r : Word) : Val := ⟨r, flagsOf r false false⟩

/-- A value whose carry is named and whose V is clear (the shifts of R68). -/
def valC (r : Word) (c : Bool) : Val := ⟨r, flagsOf r false c⟩

/-- Scale, round, narrow to 32 bits and set V when the value was out of range (R65, R68). -/
def valScaled (x : Int) (c : Bool) (scale : Int) (sat : Bool) (md : Rounding) : Val :=
  let y := narrow 32 sat (shiftScale x scale md)
  ⟨wordI y.1, flagsOf (wordI y.1) y.2 c⟩

/-- Sum, A + B + carry in, with the carry out of bit 31 of the unscaled sum (R68 ADD, ADC). -/
def valAdd (a b : Word) (cin : Nat) (scale : Int) (sat : Bool) (md : Rounding) : Val :=
  valScaled (a.toInt + b.toInt + cin) (decide (2 ^ 32 ≤ a.toNat + b.toNat + cin)) scale sat md

/-- Difference, A − B − borrow in, with C = 1 when there is no borrow (R68 SUB, SBC). -/
def valSub (a b : Word) (bin : Nat) (scale : Int) (sat : Bool) (md : Rounding) : Val :=
  valScaled (a.toInt - b.toInt - bin) (decide (b.toNat + bin ≤ a.toNat)) scale sat md

/-- Leading 0 bits of a word (R68 CLZ). -/
def clzGo : Nat → Nat → Nat
  | 0, _ => 0
  | k + 1, n => if bitOf n k then 0 else 1 + clzGo k n

/-- SHL, SHR, SAR and ROL by the low five bits of the count, C as R68 states. -/
def shlVal (a b : Word) : Val :=
  let k := b.toNat % 32
  valC (a <<< k) (decide (k ≠ 0) && bitOf a.toNat (32 - k))
def shrVal (a b : Word) : Val :=
  let k := b.toNat % 32
  valC (a >>> k) (decide (k ≠ 0) && bitOf a.toNat (k - 1))
def sarVal (a b : Word) : Val :=
  let k := b.toNat % 32
  valC (a.sshiftRight k) (decide (k ≠ 0) && bitOf a.toNat (k - 1))
def rolVal (a b : Word) : Val :=
  let k := b.toNat % 32
  let r := a.rotateLeft k
  valC r (decide (k ≠ 0) && bitOf r.toNat 0)

/-- The operations of R68 that compute a value in one cycle; `none` for those with no value there. -/
def aluVal (op : AluOp) (a b c : Word) (cf : Bool) (scale : Int) (sat : Bool) : Option Val :=
  match op with
  | .mov => some (valZN a)
  | .add => some (valAdd a b 0 scale sat .conv)
  | .sub => some (valSub a b 0 scale sat .conv)
  | .adc => some (valAdd a b (b2n cf) scale sat .conv)
  | .sbc => some (valSub a b (1 - b2n cf) scale sat .conv)
  | .neg => some (valSub 0 a 0 scale sat .conv)
  | .abs => some (valScaled (if a.toInt < 0 then -a.toInt else a.toInt) false scale sat .conv)
  | .band => some (valZN (a &&& b))
  | .bor => some (valZN (a ||| b))
  | .bxor => some (valZN (a ^^^ b))
  | .bnot => some (valZN (~~~a))
  | .shl => some (shlVal a b)
  | .shr => some (shrVal a b)
  | .sar => some (sarVal a b)
  | .rol => some (rolVal a b)
  | .min => some (valZN (if a.toInt ≤ b.toInt then a else b))
  | .max => some (valZN (if a.toInt ≤ b.toInt then b else a))
  | .clamp =>
    let m := if a.toInt ≤ b.toInt then b else a
    let r := if m.toInt ≤ c.toInt then m else c
    some ⟨r, flagsOf r (decide (r ≠ a)) false⟩
  | .sel => some (valZN (if c = 0 then b else a))
  | .cmp => some (valSub a b 0 0 false .conv)
  | .popc => some (valZN (word (popCount 32 a.toNat)))
  | .clz => some (valZN (word (clzGo 32 a.toNat)))
  | .pack => some (valZN (word (bitsOf a.toNat 15 0 + (bitsOf b.toNat 15 0 <<< 16))))
  | .ext16 => some (valZN (wordI (sext 16 a.toNat)))
  | .nop | .minix | .maxix | .wsel | .widx | .wfin => none

/-- How many of the operands A, B, C an ALU operation reads (R32, R68). -/
def aluReads : AluOp → Nat
  | .nop | .wsel | .widx | .wfin => 0
  | .mov | .neg | .abs | .bnot | .minix | .maxix | .popc | .clz | .ext16 => 1
  | .clamp | .sel => 3
  | _ => 2

/-- OR of ERR and OR of LATE over the operands read (R32). -/
def orErr (n : Nat) (a b c : Tok) : Bool := (decide (1 ≤ n) && a.err) || (decide (2 ≤ n) && b.err) || (decide (3 ≤ n) && c.err)
def orLate (n : Nat) (a b c : Tok) : Bool := (decide (1 ≤ n) && a.late) || (decide (2 ≤ n) && b.late) || (decide (3 ≤ n) && c.late)

/-- What a cell sends out of itself in a cycle, with its new state. -/
structure CellStep where
  cell  : Cell
  evout : Bool                -- EVOUT pulses (R27, R31)
  bus0  : Option Nat          -- address issued by generator 0 (R80)
  bus1  : Option Nat          -- address issued by generator 1
  wsel  : Option (List Tok)   -- the four inputs a selector member offers (R61)
  widx  : Option Tok          -- the index token of C1 (R61)
  deriving DecidableEq, Repr

/-- A cell whose COND is false: only its outputs stop being valid (R31, R33). -/
def idleCell (c : Cell) : CellStep :=
  ⟨{ c with o := { c.o with valid := false }, q := { c.q with valid := false } }, false, none, none, none, none⟩

/-- Registers the results of a cycle: outputs under OHOLD, write-back, flags (R33, R65 step 4, R69). -/
def commit (c : Cell) (f : Facet) (level : Nat) (o q : Option Tok) (fl : Option Flg) : Cell :=
  let hold (old : Out) (n : Option Tok) : Out :=
    match n with
    | none => { old with valid := false }
    | some t => if f.ohold then { old with valid := false } else ⟨t, true⟩
  { c with
    o := hold c.o o
    q := hold c.q q
    v := (match o with
      | some t => if f.wben then put 0 c.v (8 * level + f.wbreg) t.data else c.v
      | none => c.v)
    fl := (match fl with
      | some x => if f.flagw then put Flg.zero c.fl level x else c.fl
      | none => c.fl) }

/-- One step of the running search (R70): the new state, whether a new extreme was found, and the
emission of EXT and POS with the ERR and LATE of the whole search. -/
def searchStep (s : Search) (a : Tok) (isMax : Bool) : Search × Bool :=
  if s.empty || a.mark then
    (⟨a.data, 0, 1, a.last, a.err, a.late⟩, true)
  else
    let better := if isMax then decide (s.ext.toInt < a.data.toInt) else decide (a.data.toInt < s.ext.toInt)
    (⟨if better then a.data else s.ext, if better then s.idx else s.pos,
      if s.idx = 0xFFFFFFFF then s.idx else s.idx + 1, a.last, s.errs || a.err, s.lates || a.late⟩, better)

/-- An ALU cell in an executed cycle whose COND holds (R34, R61, R68 to R71). -/
def stepAlu (e : Seen) (selTok selIdx : Tok) (c : Cell) (f : Facet) : CellStep :=
  let opd := operand e c f.imm
  let a := opd f.srcA
  let b := opd f.srcB
  let cc := opd f.srcC
  let fl := look Flg.zero c.fl e.level
  let fin (o q : Option Tok) (g : Option Flg) : CellStep := ⟨commit c f e.level o q g, f.evout, none, none, none, none⟩
  match aluOpOf f.op with
  | none | some .nop => fin none none none
  | some .wsel => { fin none none none with wsel := some [a, b, cc, opd (bitsOf f.typ 23 20)] }
  | some .widx => { fin none none none with widx := some a }
  | some .wfin =>
    fin (some (resultTok selTok.data f.tagop selTok selIdx (selTok.err || selIdx.err) (selTok.late || selIdx.late))) none none
  | some .minix | some .maxix =>
    let r := searchStep c.srch a (decide (f.op = 0x16))
    let zf : Flg := ⟨r.2, false, false, false⟩
    let out (w : Word) : Option Tok := if a.last then some (resultTok w f.tagop a a r.1.errs r.1.lates) else none
    let st := fin (out r.1.ext) (out r.1.pos) (some zf)
    { st with cell := { st.cell with srch := r.1 } }
  | some .cmp => fin none none ((aluVal .cmp a.data b.data cc.data fl.c 0 false).map Val.f)
  | some op =>
    let n := aluReads op
    match aluVal op a.data b.data cc.data fl.c (scaleOf f.scale) f.sat with
    | some v => fin (some (resultTok v.r f.tagop a b (orErr n a b cc) (orLate n a b cc))) none (some v.f)
    | none => fin none none none

/-- One generator of an address cell (R80): the address issued and the pointer update. -/
def generate (c : Cell) (level : Nat) (g : Nat) : Option Nat × Option (Nat × Word) :=
  if bitOf g 7 then
    let ptrReg := bitsOf g 6 5
    let ofsReg := 4 + bitsOf g 4 3
    let ptr := (cellV c level ptrReg).toNat
    let ofs := (cellV c level ofsReg).toNat
    let p := ptr % 65536
    let n : Int := (p : Int) + sext 16 ofs
    let len := ofs / 65536
    let n' : Int :=
      if bitOf g 1 ∧ len ≠ 0 then
        let m := 2 ^ (Nat.log2 (2 * len - 1))
        let base : Int := ((p - p % m : Nat) : Int)
        if base + len ≤ n then n - len else if n < base then n + len else n
      else n
    (some p, if bitOf g 2 then some (ptrReg, word (ptr - p + (n' % 65536).toNat)) else none)
  else (none, none)

/-- An address cell in an executed cycle whose COND holds (R36, R80 to R82). -/
def stepAddr (e : Seen) (c : Cell) (f : Facet) : CellStep :=
  let a := operand e c f.imm f.srcA
  let b := operand e c f.imm f.srcB
  let g0 := generate c e.level (bitsOf f.typ 23 16)
  let g1 := generate c e.level (bitsOf f.typ 15 8)
  let upd (c : Cell) (u : Option (Nat × Word)) : Cell :=
    match u with
    | some (r, w) => { c with v := put 0 c.v (8 * e.level + r) w }
    | none => c
  let c' := upd (upd c g0.2) g1.2
  let res : Option (Val × Nat) :=
    match addrOpOf f.op with
    | none | some .nop => none
    | some .mov => some (valZN a.data, 1)
    | some .add => some (valAdd a.data b.data 0 0 false .conv, 2)
    | some .sub => some (valSub a.data b.data 0 0 false .conv, 2)
    | some .band => some (valZN (a.data &&& b.data), 2)
    | some .bor => some (valZN (a.data ||| b.data), 2)
    | some .shl => some (valZN (a.data <<< (b.data.toNat % 32)), 2)
    | some .shr => some (valZN (a.data >>> (b.data.toNat % 32)), 2)
  let done := match res with
    | none => commit c' f e.level none none none
    | some (v, n) => commit c' f e.level
        (some (resultTok v.r f.tagop a b (orErr n a b Tok.zero) (orLate n a b Tok.zero))) none
        (some v.f)
  let q : Out := match g0.1 with
    | some p => ⟨Tok.plain (word p), true⟩
    | none => { c.q with valid := false }
  ⟨{ done with q := q }, f.evout, g0.1, g1.1, none, none⟩

/-- The accumulator that a facet selects in a level's bank (R73, R75). -/
def accOf (c : Cell) (level sel : Nat) : Acc := look Acc.zero c.acc (2 * level + sel)

def setAcc (c : Cell) (level sel : Nat) (a : Acc) : Cell := { c with acc := put Acc.zero c.acc (2 * level + sel) a }

/-- Signed lanes or values held in accumulator bits (R73). -/
def accLane (v : BitVec 80) (lane : Nat) : Int := sext 40 (v.toNat >>> (40 * lane))
def acc72 (v : BitVec 80) : Int := sext 72 v.toNat
def acc144 (w e : BitVec 80) : Int := sext 144 (w.toNat % 2 ^ 72 + ((e.toNat % 2 ^ 72) <<< 72))

def packLanes (l0 l1 : Int) : BitVec 80 := BitVec.ofNat 80 ((l0 % 2 ^ 40).toNat + ((l1 % 2 ^ 40).toNat <<< 40))
def pack72 (x : Int) : BitVec 80 := BitVec.ofInt 80 x
/-- West and east cells of a 144-bit value, bits [79:72] of both copies of bit 143 (R73). -/
def packWest (x : Int) : BitVec 80 := BitVec.ofNat 80 ((x % 2 ^ 72).toNat + (if x < 0 then 0xFF <<< 72 else 0))
def packEast (x : Int) : BitVec 80 := BitVec.ofInt 80 (x / 2 ^ 72)

/-- The accumulator arithmetic of R75 on one signed value of `w` bits: new value and overflow. -/
def accArith (op : MacOp) (w : Nat) (sat : Bool) (old prod a : Int) : Int × Bool :=
  match op with
  | .mac => narrow w sat (old + prod)
  | .msu => narrow w sat (old - prod)
  | .accld => narrow w sat a
  | .accadd => narrow w sat (old + a)
  | _ => (old, false)

/-- Whether a MAC operation writes the accumulator (R75). -/
def macWrites : MacOp → Bool
  | .mac | .msu | .accld | .accadd => true
  | _ => false

/-- How many of the operands A and B a MAC operation reads (R32, R75). -/
def macReads : MacOp → Nat
  | .nop | .accmv => 0
  | .mov | .accld | .accadd => 1
  | _ => 2

/-- The marks after an accumulator operation (R518). -/
def newMark (op : MacOp) (old opd : Bool) : Bool :=
  match op with
  | .accld => opd
  | _ => old || opd

/-- MOV, ADD and SUB of a MAC cell (R75). -/
def macPlain (op : MacOp) (a b : Word) (scale : Int) (sat : Bool) (md : Rounding) : Option Val :=
  match op with
  | .mov => some (valZN a)
  | .add => some (valAdd a b 0 scale sat md)
  | .sub => some (valSub a b 0 scale sat md)
  | _ => none

/-- A MAC cell in D16 or S32 in an executed cycle whose COND holds (R73 to R76, R518). -/
def stepMac (e : Seen) (c : Cell) (f : Facet) (d16 : Bool) (op : MacOp) : CellStep :=
  let a := operand e c f.imm f.srcA
  let b := operand e c f.imm f.srcB
  let n := macReads op
  let er := orErr n a b Tok.zero
  let la := orLate n a b Tok.zero
  let sc := scaleOf f.scale
  let old := if f.aclr then Acc.zero else accOf c e.level f.accsel
  let an := a.data.toNat
  let bn := b.data.toNat
  let p0 : Int := if d16 then sext 16 an * sext 16 bn else a.data.toInt * b.data.toInt
  let p1 : Int := sext 16 (an >>> 16) * sext 16 (bn >>> 16)
  let v0 : Int := if d16 then accLane old.val 0 else acc72 old.val
  let v1 : Int := accLane old.val 1
  let w := if d16 then 40 else 72
  let r0 := accArith op w f.sat v0 p0 (if d16 then sext 16 an else a.data.toInt)
  let r1 := accArith op 40 f.sat v1 p1 (sext 16 (an >>> 16))
  let newAcc : Acc :=
    if macWrites op then
      ⟨if d16 then packLanes r0.1 r1.1 else pack72 r0.1, newMark op old.err er, newMark op old.late la⟩
    else old
  let c' := if macWrites op || f.aclr then setAcc c e.level f.accsel newAcc else c
  let fin (o q : Option Tok) (g : Option Flg) : CellStep := ⟨commit c' f e.level o q g, f.evout, none, none, none, none⟩
  match op with
  | .nop => fin none none none
  | .mul =>
    let v := valScaled p0 false sc f.sat .conv
    fin (some (resultTok v.r f.tagop a b er la)) none (some v.f)
  | .accmv =>
    let o0 := narrow 32 f.sat (shiftScale v0 sc .conv)
    let o1 := narrow 32 f.sat (shiftScale v1 sc .conv)
    let t0 := resultTok (wordI o0.1) f.tagop a b old.err old.late
    if d16 then
      fin (some t0) (some { t0 with data := wordI o1.1 })
        (some ⟨decide (wordI o0.1 = 0 ∧ wordI o1.1 = 0), (wordI o0.1).msb, o0.2 || o1.2, false⟩)
    else fin (some t0) none (some (flagsOf (wordI o0.1) o0.2 false))
  | .mac | .msu | .accld | .accadd =>
    fin none none (some
      (if d16 then ⟨decide (r0.1 = 0 ∧ r1.1 = 0), decide (r0.1 < 0), r0.2 || r1.2, false⟩
       else ⟨decide (r0.1 = 0), decide (r0.1 < 0), r0.2, false⟩))
  | .mov | .add | .sub =>
    match macPlain op a.data b.data sc f.sat .conv with
    | some v => fin (some (resultTok v.r f.tagop a b er la)) none (some v.f)
    | none => fin none none none

/-- The flags of both cells of a pair whose cells add or move on their own operands (R75, R77), over the 64-bit result: V
when either half's exact value was out of range, C the carry of the high half (DEDUCED, log 81). -/
def pairFlags (w e : Val) : Flg := ⟨decide (w.r = 0 ∧ e.r = 0), e.f.n, w.f.v || e.f.v, e.f.c⟩

/-- One cell of a G64 pair; `west` says which one. The west facet `fw` governs COND, SCALE and SAT
(R77); `cw`, `ce` are the two cells at the start of the cycle. -/
def stepG64 (e : Seen) (cw ce : Cell) (fw fe : Facet) (west : Bool) (op : MacOp) : CellStep :=
  let c := if west then cw else ce
  let f := if west then fw else fe
  let aw := operand e cw fw.imm fw.srcA
  let bw := operand e cw fw.imm fw.srcB
  let ae := operand e ce fe.imm fe.srcA
  let be := operand e ce fe.imm fe.srcB
  let a := if west then aw else ae
  let b := if west then bw else be
  let n := macReads op
  let er := orErr n aw bw Tok.zero || orErr n ae be Tok.zero
  let la := orLate n aw bw Tok.zero || orLate n ae be Tok.zero
  let sc := scaleOf fw.scale
  let a64 : Int := sext 64 (aw.data.toNat + (ae.data.toNat <<< 32))
  let b64 : Int := sext 64 (bw.data.toNat + (be.data.toNat <<< 32))
  let ow := accOf cw e.level fw.accsel
  let oe := accOf ce e.level fe.accsel
  let old : Int := if fw.aclr then 0 else acc144 ow.val oe.val
  let oerr := !fw.aclr && (ow.err || oe.err)
  let olate := !fw.aclr && (ow.late || oe.late)
  let r := accArith op 144 fw.sat old (a64 * b64) a64
  let pk := if west then packWest r.1 else packEast r.1
  let newAcc : Acc := if macWrites op then ⟨pk, newMark op oerr er, newMark op olate la⟩ else Acc.zero
  let c' := if macWrites op || fw.aclr then setAcc c e.level f.accsel newAcc else c
  let fin (o : Option Tok) (g : Option Flg) : CellStep := ⟨commit c' f e.level o none g, f.evout, none, none, none, none⟩
  let half (x : Int) : Word := wordI (if west then x else x / 2 ^ 32)
  match op with
  | .nop => fin none none
  | .mul | .accmv =>
    let y := narrow 64 fw.sat (shiftScale (if op = .mul then a64 * b64 else old) sc .trunc)
    let g : Flg := ⟨decide (y.1 = 0), decide (y.1 < 0), y.2, false⟩
    let ee := if op = .mul then er else oerr
    let ll := if op = .mul then la else olate
    fin (some (resultTok (half y.1) f.tagop a b ee ll)) (some g)
  | .mac | .msu | .accld | .accadd => fin none (some ⟨decide (r.1 = 0), decide (r.1 < 0), r.2, false⟩)
  | .mov | .add | .sub =>
    match macPlain op aw.data bw.data sc fw.sat .trunc, macPlain op ae.data be.data sc fw.sat .trunc with
    | some vw, some ve =>
      fin (some (resultTok (if west then vw.r else ve.r) f.tagop a b er la)) (some (pairFlags vw ve))
    | _, _ => fin none none

/-- The west cell of the pair that cell `c` belongs to (R24). -/
def westOf (c : Nat) : Nat := if c = 6 then 5 else if c = 10 then 9 else c
def eastOf (c : Nat) : Nat := if c = 5 then 6 else if c = 9 then 10 else c

/-- Cell `c` in one executed cycle, from the cells as they stood at its start with this cycle's
crossbar inputs (R25, R31, R77). -/
def stepCell (e : Seen) (selTok selIdx : Tok) (fs : Nat → Facet) (cs : Nat → Cell) (c : Nat) : CellStep :=
  let me := cs c
  let f := fs c
  let runs (k : Nat) : Bool := condHolds (fs k).cond (look Flg.zero (cs k).fl e.level) (operand e (cs k) (fs k).imm (fs k).srcA)
  match cellType c with
  | .alu => if runs c then stepAlu e selTok selIdx me f else idleCell me
  | .addr => if runs c then stepAddr e me f else idleCell me
  | .mac =>
    match macModeOf f.mode, macOpOf f.op with
    | some .g64, some op =>
      let w := westOf c
      if runs w then stepG64 e (cs w) (cs (eastOf w)) (fs w) (fs (eastOf w)) (decide (c = w)) op else idleCell me
    | some md, some op => if runs c then stepMac e me f (decide (md = .d16)) op else idleCell me
    | _, _ => idleCell me

/-- The selector link after a cycle (R61, R62): unchanged when no index ran; otherwise the named
member's input, or the zero word with ERR when that member did not run WSEL. -/
def selectorLink (steps : Nat → CellStep) (selTok selIdx : Tok) : Tok × Tok :=
  match (steps 1).widx with
  | none => (selTok, selIdx)
  | some i =>
    let n := i.data.toNat % 32
    match selMembers[n / 4]? with
    | none => (selTok, i)
    | some m =>
      match (steps m).wsel with
      | some offers => (offers.getD (n % 4) Tok.zero, i)
      | none => ({ Tok.zero with err := true }, i)

end Sys2Proof.Machine
end

