-- ==== Sys2Proof/Machine/Banks.lean ====
section
/-! DEFINITION. On-chip memory as its banks serve it: the accesses of one bank cycle, their ranks and ports, and the order
in which writes that meet apply (R142 to R159). -/

namespace Sys2Proof.Machine
open Sys2Proof

/-- Byte mask of a word from four byte enables. -/
def beMask (be : Nat) : Word :=
  word (b2n (bitOf be 0) * 0xFF + b2n (bitOf be 1) * 0xFF00 + b2n (bitOf be 2) * 0xFF0000 + b2n (bitOf be 3) * 0xFF000000)

/-- A word after a write of `d` with byte enables, normal, bit-set or bit-clear (R21, R144). -/
def mergeWord (old d : Word) (be al : Nat) : Word :=
  let m := beMask be
  if al = 1 then old ||| (d &&& m)
  else if al = 2 then old &&& ~~~(d &&& m)
  else (old &&& ~~~m) ||| (d &&& m)

/-- Marks the 1 KiB page of a tile-bank word dirty (R157). -/
def setDirty (s : State) (t w : Nat) : State :=
  setF s (pgTBNK t) ⟨(TBNK.DIRTY (w / 8192)).off, w % 8192 / 256, w % 8192 / 256⟩ 1

/-- Takes the old data of a word of a held page before it is written (R156). -/
def holdOld (s : State) (t w : Nat) : State :=
  let pos := posOf s t
  match (protOf s pos).capture with
  | some c =>
    if c.shadow.dirty.contains (w / 256) ∧ (c.taken.find? (fun x => x.1 == w)).isNone then
      let a := bankAddr t w
      let s := eccNote s (.bank pos (4 * w)) (bankAddr pos w) a
      setProt s pos { protOf s pos with capture := some { c with taken := put (0, 9) c.taken w (memWord s a, markCode (markAt s a)) } }
    else s
  | none => s

/-! ### One bank cycle (R151, R154, R155, R158) -/

/-- A storage address lies in a tile bank. -/
def isTileAddr (a : Nat) : Bool := decide (0x1100000000 ≤ a) && decide (a < 0x1104000000)

/-- First storage address of the bank that holds an address (R142). -/
def bankStart (a : Nat) : Nat := if isTileAddr a then a - a % 0x8000 else a - a % 0x20000

/-- What a port serves in one bank cycle: a word of a tile bank, a row of region memory (R142). -/
def unitAt (a : Nat) : Nat := if isTileAddr a then a / 4 else a / 16

/-- Of two requests at one port, `x` wins: by rank, then by the cycles waited, then by initiator ID (R151). -/
def Served.wins (x y : Served) : Bool :=
  decide (x.rank < y.rank) || (x.rank == y.rank && (decide (y.waited < x.waited) || (x.waited == y.waited && decide (x.src < y.src))))

/-- A write is applied after another: at one port the winner last; port A after port B (R151, R155, R158). -/
def Served.appliedAfter (x y : Served) : Bool := decide (x.port < y.port) || (x.port == y.port && x.wins y)

/-- The writes of a word in the order in which they are applied, the last one first. -/
def enterWrite (x : Served) : List Served → List Served
  | [] => [x]
  | y :: ys => if x.appliedAfter y then x :: y :: ys else y :: enterWrite x ys

/-- A word and its ECC state after a write (R144, R149). -/
def storeInto (w : Word × Mark) (k : Store) : Word × Mark :=
  (mergeWord w.1 k.d k.be k.al,
   if k.poison || (isBad (markCode w.2) && !(k.be == 15 && k.al == 0)) then .poison else .clean)

/-- A word after the writes of a cycle, given the last one first. -/
def storeAll (w : Word × Mark) (ws : List Served) : Word × Mark :=
  ws.foldr (fun x w => match x.store with | some k => storeInto w k | none => w) w

/-- The code that a write returns with its completion: that of the word as the writes before it left it (R149, R155). -/
def storeCode (w : Word × Mark) (k : Store) : Nat :=
  if isBad (markCode w.2) && !(k.be == 15 && k.al == 0) then markCode w.2 else 0

/-- The accesses that the bank of an address served in its last cycle. -/
def cycleAt (s : State) (a : Nat) : List Served := look [] s.cyc (bankStart a)

/-- A new cycle of the bank that holds an address. -/
def openCycle (s : State) (a : Nat) : State := { s with cyc := put [] s.cyc (bankStart a) [] }

/-- An access can be served in a cycle: its port serves no other word or row then, and no read of the word that is to
return the new data has been answered without it (R151, R154, R158). -/
def fitsCycle (c : List Served) (x : Served) : Bool :=
  ((c.filter fun y => y.port == x.port).all fun y => unitAt y.addr == unitAt x.addr) &&
  !(x.store.isSome && c.any fun y => y.addr == x.addr && y.fresh)

/-- An access loses a cycle: the winner at its port goes before it and takes another word or row (R151). -/
def losesCycle (c : List Served) (x : Served) : Bool :=
  c.any fun y => y.port == x.port && unitAt y.addr != unitAt x.addr && y.wins x

/-- The word's data and ECC state before the cycle in which it is served. -/
def oldWord (s : State) (a : Nat) : Word × Mark :=
  match (cycleAt s a).find? fun y => y.addr == a with
  | some y => (y.old, y.mark)
  | none => (memWord s a, markAt s a)

/-- The region and offset of a storage address of region memory, while that bank is copied to the spare (R168). -/
def mirrored (s : State) (a : Nat) : Option Nat :=
  if 0x1000000000 ≤ a ∧ a < 0x1002000000 then
    let r := (a - 0x1000000000) / 0x200000
    if look 0 s.spareCopy r = a % 0x200000 / 0x20000 + 1 then some (spareAddr r a) else none
  else none

def setStored (s : State) (a : Nat) (w : Word × Mark) : State :=
  let s := setMark (setWord s a w.1) a w.2
  { s with wback := put 0 s.wback a 0 }

/-- The page of a storage address's memory, with its field `COLLIDE`. -/
def collidePage (s : State) (a : Nat) : Nat × Fld :=
  if isTileAddr a then (pgTBNK ((a - 0x1100000000) / 0x40000), TBNK.COLLIDE)
  else if 0x1800000000 ≤ a then (pgRMEM ((a - 0x1800000000) / 0x20000), RMEM.COLLIDE)
  else (pgRMEM ((a - 0x1000000000) / 0x200000), RMEM.COLLIDE)

/-- Serves one access in the last opened cycle of its bank; answers the code of a write's completion. A tile bank marks its
page dirty and gives a capture the old data (R156, R157); writes to a bank that is being copied go to the spare as well
(R168); the second write of a word in a cycle is counted (R155). -/
def serve (s : State) (x : Served) : State × Nat :=
  let a := x.addr
  let w0 := oldWord s a
  let mine := (cycleAt s a).filter fun y => y.addr == a && y.store.isSome
  let x := { x with old := w0.1, mark := w0.2 }
  let s := { s with cyc := put [] s.cyc (bankStart a) (cycleAt s a ++ [x]) }
  match x.store with
  | none => (s, 0)
  | some k =>
    let others := mine.foldr enterWrite []
    let w := storeAll w0 (enterWrite x others)
    let code := storeCode (storeAll w0 (others.filter fun y => x.appliedAfter y)) k
    let t := (a - 0x1100000000) / 0x40000
    let s := if isTileAddr a then setDirty (holdOld s t (a % 0x40000 / 4)) t (a % 0x40000 / 4) else s
    let s := setStored s a w
    let s := match mirrored s a with | some b => setStored s b w | none => s
    let p := collidePage s a
    (if mine.length = 1 then raiseOpt (incF s p.1 p.2 1) p.1 1 0x51 0 else s, code)

/-- Serves an access in the cycle that its bank is in, or else in a new one. -/
def serveNext (s : State) (x : Served) : State × Nat :=
  serve (if fitsCycle (cycleAt s x.addr) x then s else openCycle s x.addr) x

/-- Serves an access in a cycle of its own. -/
def serveAlone (s : State) (x : Served) : State × Nat := serve (openCycle s x.addr) x

/-- A read of a word by a requester of a tile bank (rank) or region-memory port. -/
def readOf (a port rank src : Nat) (fresh : Bool) : Served := ⟨a, port, rank, 0, src, 0, .clean, none, fresh⟩

/-- A write of a word. -/
def writeOf (a port rank src : Nat) (k : Store) : Served := ⟨a, port, rank, 0, src, 0, .clean, some k, false⟩

/-- Stores a whole word of region memory on port A at a rank (R158). -/
def storeA (s : State) (a rank : Nat) (d : Word) : State := (serveAlone s (writeOf a 1 rank 0 ⟨d, 15, 0, false⟩)).1

/-- Stores a tile-bank word of a physical tile in a cycle of its own, by the requester of a rank (R150). -/
def storeTileWord (s : State) (t w : Nat) (d : Word) (be al : Nat) (poison : Bool) (rank : Nat) : State × Nat :=
  serveAlone s (writeOf (bankAddr t w) 0 rank 0 ⟨d, be, al, poison⟩)

/-- A requester of the network or of the device's own units at a bank: initiator, cycles waited, and whether its access
stands at the bank in the cycle of the accesses served last there (R151; log 82). -/
structure Via where
  src    : Nat
  waited : Nat
  meet   : Bool
  deriving DecidableEq, Repr

/-- An access that meets no other. -/
def Via.of (src : Nat) : Via := ⟨src, 0, false⟩

/-- Rank of an initiator at a tile bank (R150) and on port B (R158). -/
def rankOf (tile : Bool) (src : Nat) : Nat :=
  if isAssayerId src then (if tile then 9 else 1)
  else if src = 0x232 then (if tile then 13 else 5)
  else if tile then 10 else 2

/-- The request of an initiator for the word at a storage address. -/
def viaReq (v : Via) (a : Nat) (k : Option Store) : Served :=
  let t := isTileAddr a
  ⟨a, if t then 0 else 2, rankOf t v.src, v.waited, v.src, 0, .clean, k, !(isAssayerId v.src) && v.src != 0x232⟩

/-- The requests of one access, which come at one bank: those that the bank's last cycle serves, when the access meets it,
come first (R151). -/
def viaOrder (s : State) (v : Via) (xs : List Served) : List Served :=
  let fits (x : Served) : Bool := v.meet && fitsCycle (cycleAt s x.addr) x
  xs.filter fits ++ xs.filter fun x => !(fits x)

/-- The access stands at the bank in its last cycle and loses it (R151, R153). -/
def viaWaits (s : State) (v : Via) (xs : List Served) : Bool :=
  v.meet && !(xs.any fun x => fitsCycle (cycleAt s x.addr) x) && xs.any fun x => losesCycle (cycleAt s x.addr) x

/-- Serves the requests of an access in order: the first in a new cycle unless it meets the last one. Answers the first
code of a completion. -/
def serveVia (s : State) (v : Via) (xs : List Served) : State × Nat :=
  let s := match xs with | x :: _ => if v.meet then s else openCycle s x.addr | [] => s
  (viaOrder s v xs).foldl (fun r x => let q := serveNext r.1 x; (q.1, if r.2 ≠ 0 then r.2 else q.2)) (s, 0)

end Sys2Proof.Machine
end

