-- ==== Sys2Proof/Machine/Lanes.lean ====
section
/-! DEFINITION. The regional word lanes: where a lane output leads, which inputs are driven, and the clasps at the
receiving side (R56 to R60, R252). -/

namespace Sys2Proof.Machine
open Sys2Proof

/-- Setting of lane output `k` (N0, N1, E0, E1, S0, S1, W0, W1) of a position (R56, R60). -/
def laneSetting (s : State) (pos k : Nat) : Nat :=
  bitsOf (regAt s (pgRLANE (pos / 16)) (RLANE.LANE_CFG_N0 (pos % 16)).off).toNat (4 * k + 3) (4 * k)

/-- Die row and column of a position (R59). -/
def dieRow (pos : Nat) : Nat := 4 * (pos / 16 / 4) + pos % 16 / 4
def dieCol (pos : Nat) : Nat := 4 * (pos / 16 % 4) + pos % 16 % 4

/-- The bezel token port at side `d` (0 N, 1 E, 2 S, 3 W) of a position, if its side lies on the die edge at an odd
place (R59). -/
def bezelPortAt (pos d : Nat) : Option Nat :=
  let r := dieRow pos
  let c := dieCol pos
  match d with
  | 0 => if r = 0 ∧ c % 2 = 1 then some (c / 2) else none
  | 1 => if c = 15 ∧ r % 2 = 1 then some (8 + r / 2) else none
  | 2 => if r = 15 ∧ c % 2 = 1 then some (16 + c / 2) else none
  | _ => if c = 0 ∧ r % 2 = 1 then some (24 + r / 2) else none

/-- The position and side (as a lane input number of lane 0) that a bezel token port attaches to (R59). -/
def portTile (j : Nat) : Nat × Nat :=
  let at_ (row col : Nat) : Nat := 16 * (4 * (row / 4) + col / 4) + 4 * (row % 4) + col % 4
  if j < 8 then (at_ 0 (2 * j + 1), 0)
  else if j < 16 then (at_ (2 * (j - 8) + 1) 15, 2)
  else if j < 24 then (at_ 15 (2 * (j - 16) + 1), 4)
  else (at_ (2 * (j - 24) + 1) 0, 6)

/-- The neighbour of a position on side `d` within its region. -/
def neighbour (pos d : Nat) : Option Nat :=
  let l := pos % 16
  match d with
  | 0 => if 4 ≤ l then some (pos - 4) else none
  | 1 => if l % 4 < 3 then some (pos + 1) else none
  | 2 => if l < 12 then some (pos + 4) else none
  | _ => if 0 < l % 4 then some (pos - 1) else none

/-- Where a lane leads: a tile's lane input, a bezel token port out, or nowhere. -/
inductive LaneEnd where
  | input (pos i : Nat)
  | port (j : Nat)
  | nowhere
  deriving DecidableEq, Repr

/-- The lane output of `pos` that passes input `i` on, if any (R56). -/
def passedTo (s : State) (pos i : Nat) : Option Nat := (List.range 8).find? (fun o => laneSetting s pos o == 8 + i)

/-- Follows a token that leaves by output `k` of a position through at most `fuel` more switches (R57, R58). -/
def laneEndGo (s : State) : Nat → Nat → Nat → LaneEnd
  | 0, _, _ => .nowhere
  | fuel + 1, pos, k =>
    let d := k / 2
    match neighbour pos d with
    | none => if k % 2 = 0 then (match bezelPortAt pos d with | some j => .port j | none => .nowhere) else .nowhere
    | some n =>
      let i := 2 * ((d + 2) % 4) + k % 2
      match passedTo s n i with
      | some o => laneEndGo s fuel n o
      | none => .input n i

def laneEnd (s : State) (pos k : Nat) : LaneEnd := laneEndGo s 5 pos k

/-- Where a token of a bezel token port in arrives: its tile's lane input, or on through a pass (R59). -/
def portInEnd (s : State) (j : Nat) : LaneEnd :=
  let t := portTile j
  match passedTo s t.1 t.2 with
  | some o => laneEnd s t.1 o
  | none => .input t.1 t.2

/-- Segment page and index of a bezel token port (R353, R369): ports 0 to 7 north, 8 to 15 east, 16 to 23 south, 24
to 31 west. -/
def portPage (j : Nat) : Nat := pgDBZL (j / 8)

/-- Lane input `i` of a position is driven by a lane output or a bezel token port (R52). -/
def laneDriven (s : State) (pos i : Nat) : Bool :=
  let d := i / 2
  match neighbour pos d with
  | some n => decide (laneSetting s n (2 * ((d + 2) % 4) + i % 2) ≠ 0)
  | none =>
    if i % 2 = 0 then
      (match bezelPortAt pos d with
       | some j => flagF s (portPage j) (DBZL.PORT_CFG_IN_EN (j % 8))
       | none => false)
    else false

/-- Lane input `i` may be read by the crossbar: driven and not passed through (R52, R58). -/
def laneReadable (s : State) (pos i : Nat) : Bool := laneDriven s pos i && (passedTo s pos i).isNone

/-- Validity of a facet set at a position (R52). -/
def setValid (s : State) (pos : Nat) (w : Nat → Word) : Bool :=
  setOk w (fun k => laneSetting s pos k == 1) (fun k => laneReadable s pos k)

/-- Key of the clasp at a lane end: 8 × position + input, or 2,048 + bezel port out. -/
def claspKey : LaneEnd → Option Nat
  | .input pos i => some (8 * pos + i)
  | .port j => some (2048 + j)
  | .nowhere => none

def claspOf (s : State) (k : Nat) : Clasp := look Clasp.init s.clasps k

def setClasp (s : State) (k : Nat) (c : Clasp) : State := { s with clasps := put Clasp.init s.clasps k c }

/-- Tokens that bezel token port out `j` shows or still has to show (R366). -/
def portShown (s : State) (j : Nat) : List Tok := look [] s.portOut j

/-- A clasp holds four tokens (R255; log 20 for ASYNC); that of a token port out counts those it already shows
(R366). -/
def claspRoom (s : State) (k : Nat) : Bool :=
  decide ((claspOf s k).toks.length + (if 2048 ≤ k then (portShown s (k - 2048)).length else 0) < 4)

def claspPush (s : State) (k : Nat) (t : Tok) : State :=
  let c := claspOf s k
  setClasp s k { c with toks := c.toks ++ [⟨t, false⟩] }

end Sys2Proof.Machine
end

