-- ==== Sys2Proof/Machine/Trace.lean ====
section
/-! DEFINITION. The loupe's trace: entries, arming, triggering, and the tap on a queue (R380, R382, R383). -/

namespace Sys2Proof.Machine
open Sys2Proof

/-- `TRACE_STAT.STATE`: 0 IDLE, 1 ARMED, 2 TRIGGERED, 3 DONE. -/
def traceState (s : State) : Nat := getF s pgDLPE DLPE.TRACE_STAT_STATE

/-- The trace triggers with entry `p` as its trigger entry: `POST` further entries follow (R380). -/
def traceTrigAt (s : State) (p : Nat) : State :=
  let post := getF s pgDLPE DLPE.TRACE_CFG_POST
  let s := setF s pgDLPE DLPE.TRACE_STAT_TRIGPOS p
  let s := setF s pgDLPE DLPE.TRACE_STAT_STATE (if post = 0 then 3 else 2)
  { s with loupe := { s.loupe with hit := none, left := post } }

/-- An armed trace whose last entry matched triggers. -/
def traceTrig (s : State) : State :=
  match s.loupe.hit with
  | some p => if traceState s = 1 then traceTrigAt s p else s
  | none => s

/-- (probes and `TRIG_MASK`) = `TRIG_VAL` (R380). -/
def traceMatch (s : State) (probes : Nat) : Bool :=
  decide (probes &&& getF s pgDLPE DLPE.TRIG_MASK = getF s pgDLPE DLPE.TRIG_VAL)

/-- Writes one entry of an armed or triggered trace; `probes` decide whether it is the trigger entry. -/
def traceEntry (s : State) (v probes : Nat) : State :=
  let s := traceTrig s
  let st := traceState s
  if st = 1 ∨ st = 2 then
    let w := getF s pgDLPE DLPE.TRACE_STAT_WPTR
    let s := { s with loupe := { s.loupe with trace := put 0 s.loupe.trace w v } }
    let s := setF s pgDLPE DLPE.TRACE_STAT_WPTR ((w + 1) % 16384)
    if st = 1 then (if traceMatch s probes then { s with loupe := { s.loupe with hit := some w } } else s)
    else
      let s := { s with loupe := { s.loupe with left := s.loupe.left - 1 } }
      if s.loupe.left = 0 then setF s pgDLPE DLPE.TRACE_STAT_STATE 3 else s
  else s

/-- `FORCE` triggers an armed trace; the next entry is its trigger entry (log 40). -/
def traceForce (s : State) : State :=
  let s := traceTrig s
  if traceState s = 1 then traceTrigAt s (getF s pgDLPE DLPE.TRACE_STAT_WPTR) else s

/-- A write of `TRACE_CFG` (R380, R383). A write of `EN` = 1 arms a trace that is IDLE or DONE (log 40). -/
def traceCfgWrite (s : State) (v : Word) : State :=
  let n := v.toNat
  if bitsOf n 30 29 = 3 then errCount s pgDLPE
  else
    let s := setF (setF s pgDLPE DLPE.TRACE_CFG_EN (bitsOf n 31 31)) pgDLPE DLPE.TRACE_CFG_MODE (bitsOf n 30 29)
    let s := setF (setF s pgDLPE DLPE.TRACE_CFG_SEG (bitsOf n 25 24)) pgDLPE DLPE.TRACE_CFG_POST (bitsOf n 13 0)
    let s :=
      if bitOf n 31 then
        (if traceState s = 0 ∨ traceState s = 3 then
           { setF s pgDLPE DLPE.TRACE_STAT_STATE 1 with loupe := { s.loupe with hit := none } }
         else s)
      else { setF s pgDLPE DLPE.TRACE_STAT_STATE 0 with loupe := { s.loupe with hit := none } }
    if bitOf n 28 then traceForce s else s

/-- The token tap: `q` numbered as `TAP.QUEUE` (R380, R383). -/
def tapTrace (s : State) (pos q : Nat) (t : Tok) : State :=
  if getF s pgDLPE DLPE.TRACE_CFG_MODE = 2 ∧ getF s pgDLPE DLPE.TAP_POS = pos ∧ getF s pgDLPE DLPE.TAP_QUEUE = q then
    traceEntry s (s.tb.toNat % 2 ^ 24 * 2 ^ 40 + tagsOf t * 2 ^ 32 + t.data.toNat) s.loupe.word
  else s

/-- A read of `TRACE_LO` (`half` 0) or `TRACE_HI` (1). -/
def traceWord (s : State) (half : Nat) : Word :=
  word (look 0 s.loupe.trace (getF s pgDLPE DLPE.TRACE_SEL) / 2 ^ (32 * half))

/-- TRACE_EN. -/
def execTraceEn (v : Word) (s : State) : Host.Outcome State Fault Refusal := .next (regCmd pgDLPE DLPE.TRACE_CFG_EN.off v hostSrc (fun s => traceCfgWrite s v) s)

/-- FORCE. -/
def execForce (s : State) : Host.Outcome State Fault Refusal := .next (regCmd pgDLPE DLPE.TRACE_CFG_EN.off (regAt s pgDLPE DLPE.TRACE_CFG_EN.off ||| word (2 ^ 28)) hostSrc (fun s => traceForce s) s)

/-- TRACE_TRIGGER. -/
def execTraceTrigger (s : State) : Host.Outcome State Fault Refusal := .next (traceTrig s)

end Sys2Proof.Machine
end

