-- ==== Sys2Proof/Machine/Journal.lean ====
section
/-! DEFINITION. The ingress journal and the arrival log: gather buffers, records, freeing, and the entry of a token
into an input queue (R264, R268 to R275, R289). -/

namespace Sys2Proof.Machine
open Sys2Proof

/-- The bank that holds the k-th 2,048 records of the allotment: the k-th 1 bit of `RJNL.JBANKS` (R268). -/
def journalBankGo : Nat → Nat → Nat → Nat → Option Nat
  | 0, _, _, _ => none
  | fuel + 1, banks, b, k =>
    if bitOf banks b then (if k = 0 then some b else journalBankGo fuel banks (b + 1) (k - 1))
    else journalBankGo fuel banks (b + 1) k

def journalBank (s : State) (r k : Nat) : Option Nat := journalBankGo 16 (getF s (pgRJNL r) RJNL.JBANKS) 0 k

/-- Address of journal record `i` of a region (R268). -/
def recordAddr (s : State) (r i : Nat) : Option Nat :=
  (journalBank s r (i / 2048)).map fun b => rmemStore s r (0x20000 * b + 64 * (i % 2048))

/-- Logical bank `b` of region `r` is a journal bank (R268). -/
def isJournalBank (s : State) (r b : Nat) : Bool := bitOf (getF s (pgRJNL r) RJNL.JBANKS) b

/-- Tags of up to eight tokens from `i` on, four bits each (R269). -/
def tagWord (ts : List Tok) : Nat := ofBytes [] + (ts.foldr (fun t n => tagsOf t + n * 16) 0)

/-- The sixteen words of a TOKENS record (R269). -/
def tokensRecord (l input pos epoch : Nat) (ts : List Tok) : List Nat :=
  [0x10000000 + l * 2 ^ 24 + input * 2 ^ 20 + ts.length * 2 ^ 16 + epoch % 65536, pos] ++
  (List.range 12).map (fun i => (ts.getD i Tok.zero).data.toNat) ++
  [tagWord (ts.take 8), tagWord (ts.drop 8)]

def kindNo : LogKind → Nat
  | .switch => 1
  | .time => 2
  | .waitev => 3
  | .commit => 4
  | .extwr => 5

/-- The four words of a log entry (R274). -/
def entryWords (e : LogE) : List Nat :=
  [kindNo e.kind * 2 ^ 28 + b2n e.phase * 2 ^ 27 + e.tgt * 2 ^ 25 + e.be * 2 ^ 21 + e.addr % 65536,
   e.retired.toNat, e.value.toNat, e.page * 256 + e.line]

/-- The sixteen words of a LOG record (R274). -/
def logRecord (l epoch : Nat) (es : List LogE) : List Nat :=
  [0x20000000 + l * 2 ^ 24 + es.length * 2 ^ 16 + epoch % 65536, 0, 0, 0] ++
  (es.map entryWords).flatten ++ List.replicate (12 - 4 * es.length) 0

/-- A gather buffer that must be written at once: 12 tokens or 3 entries (R270). -/
def GatherData.complete : GatherData → Bool
  | .toks _ _ _ ts => decide (12 ≤ ts.length)
  | .logs _ es => decide (3 ≤ es.length)

/-- The record of a gather buffer, and its epoch. -/
def recordOf (l : Nat) : GatherData → List Nat
  | .toks ep i pos ts => tokensRecord l i pos ep ts
  | .logs ep es => logRecord l ep es

def GatherData.epochOf : GatherData → Nat
  | .toks ep _ _ _ => ep
  | .logs ep _ => ep

/-- Place of journal record `i` of a region, while its bank is named (R268). -/
def recordPlace (s : State) (r i : Nat) : Place :=
  match journalBank s r (i / 2048) with
  | some b => .rmem r (0x20000 * b + 64 * (i % 2048))
  | none => .bad 0x10

/-- Writes one record at the head of the ring, on port A at rank 2 (R158, R268, R270); `none` when no record is free
(R272). A bank that is not ON or is retired refuses the record, which is then lost: the page counts it and raises the
code (R20, R162, R169; DEDUCED, log 83). -/
def writeRecord (s : State) (r tile epoch : Nat) (ws : List Nat) : Option State :=
  let p := pgRJNL r
  if getF s p RJNL.JFILL < getF s p RJNL.JSIZE then
    match recordAddr s r (getF s p RJNL.JHEAD) with
    | some a =>
      let c := placeRefusal s (recordPlace s r (getF s p RJNL.JHEAD))
      let s := if c ≠ 0 then refuseAt s p c 0
        else (ws.zipIdx).foldl (fun s x => storeA s (a + 4 * x.2) 2 (word x.1)) s
      let s := setF s p RJNL.JHEAD ((getF s p RJNL.JHEAD + 1) % getF s p RJNL.JSIZE)
      let s := setF s p RJNL.JFILL (getF s p RJNL.JFILL + 1)
      let s := maxF s p RJNL.JMAX (getF s p RJNL.JFILL)
      let j := rjOf s r
      some (setRj s r { j with recs := j.recs ++ [⟨tile, epoch⟩] })
    | none => none
  else none

/-- In paired mode, one more item for the partner (R291). -/
def mirrorOut (s : State) (m : Mirror) : State :=
  if flagF s pgDACW DACW.PAIR_CFG_EN then { s with mirror := s.mirror ++ [m] } else s

/-- Enters the full state of a region's journal (R272). R294 then fails, which `OUTSIDE` shows (R309). -/
def journalFull (s : State) (r : Nat) : State :=
  let j := rjOf s r
  if j.full then s
  else setF (raiseEv (setRj s r { j with full := true }) (pgRJNL r) 0x68 0) pgDRCV DRCV.STATE_OUTSIDE 1

/-- Writes the oldest gather buffer of a position; `none` when there is none or no record is free. In paired mode the
record is mirrored (R291). -/
def writeOldest (s : State) (pos : Nat) : Option State :=
  match (protOf s pos).bufs with
  | [] => none
  | g :: rest =>
    let ws := recordOf (pos % 16) g.data
    (writeRecord s (pos / 16) (pos % 16) g.data.epochOf ws).map fun s =>
      mirrorOut (modProt s pos fun y => { y with bufs := rest }) (.journal (pos / 16) g.number (ws.map word))

/-- Writes gather buffers, oldest first, while one is complete (or, with `all`, until none is left). -/
def drainBufs (all : Bool) : Nat → State → Nat → State
  | 0, s, _ => s
  | fuel + 1, s, pos =>
    let bs := (protOf s pos).bufs
    if bs.any (fun g => g.data.complete) || (all && !bs.isEmpty) then
      match writeOldest s pos with
      | some s => drainBufs all fuel s pos
      | none => journalFull s (pos / 16)
    else s

def drainReady (s : State) (pos : Nat) : State := drainBufs false 64 s pos
def drainAll (s : State) (pos : Nat) : State := drainBufs true 64 s pos

/-- Adds a token to its input's buffer of the epoch, when one is open (R269, R270). -/
def joinTok : List Gather → Nat → Nat → Tok → Option (List Gather)
  | [], _, _, _ => none
  | g :: rest, ep, i, t =>
    match g.data with
    | .toks e j p ts =>
      if e = ep ∧ j = i ∧ ts.length < 12 then some ({ g with data := .toks e j p (ts ++ [t]) } :: rest)
      else (joinTok rest ep i t).map (g :: ·)
    | .logs _ _ => (joinTok rest ep i t).map (g :: ·)

/-- Adds a log entry to the buffer of the epoch, when one is open. -/
def joinLog : List Gather → Nat → LogE → Option (List Gather)
  | [], _, _ => none
  | g :: rest, ep, x =>
    match g.data with
    | .logs e es =>
      if e = ep ∧ es.length < 3 then some ({ g with data := .logs e (es ++ [x]) } :: rest)
      else (joinLog rest ep x).map (g :: ·)
    | .toks _ _ _ _ => (joinLog rest ep x).map (g :: ·)

/-- The gather buffers of a position with an entry added: to the open buffer, or to one opened for it (R270, R292). -/
def gather (s : State) (pos : Nat) (joined : Option (List Gather)) (fresh : GatherData) : State :=
  match joined with
  | some bs => modProt s pos fun x => { x with bufs := bs }
  | none =>
    let j := rjOf s (pos / 16)
    setRj (modProt s pos fun x => { x with bufs := x.bufs ++ [⟨fresh, j.opened, s.age⟩] }) (pos / 16) { j with opened := j.opened + 1 }

/-- Taps a token that enters input `i` (0 to 11) of a protected position (R268). -/
def tapToken (s : State) (pos i : Nat) (t : Tok) : State :=
  if isProt s pos then
    let x := protOf s pos
    let s := gather s pos (joinTok x.bufs x.epoch i t) (.toks x.epoch i (look 0 x.inPos i) [t])
    drainReady (modProt s pos fun x => { x with inPos := put 0 x.inPos i (look 0 x.inPos i + 1) }) pos
  else s

/-- Gives a log entry of a lockstep survivor to the spare that replays beside it (R290). -/
def entryToMate (s : State) (pos : Nat) (e : LogE) : State :=
  (List.range 16).foldl (fun s l =>
    let q := 16 * (pos / 16) + l
    match (protOf s q).replay with
    | some x =>
      if x.mate = some pos ∧ x.going then
        modProt s q fun y => { y with replay := some { x with entries := x.entries ++ [{ e with retired := e.retired + word x.base }] } }
      else s
    | none => s) s

/-- Logs a happening of a protected position that does not replay (R273). -/
def logEntry (s : State) (pos : Nat) (e : LogE) : State :=
  if isProt s pos && !recovering s pos then
    let x := protOf s pos
    drainReady (entryToMate (gather s pos (joinLog x.bufs x.epoch e) (.logs x.epoch [e])) pos e) pos
  else s

def plainEntry (k : LogKind) (retired value : Word) (line : Nat) : LogE := ⟨k, false, 0, 0, 0, retired, value, 0, line⟩

/-- Every protected position of the region that is not retired has committed a locket of a cut after epoch `e` (R271). -/
def freedEpoch (s : State) (r e : Nat) : Bool :=
  (List.range 16).all fun l =>
    let p := pgRJNL r
    !(isProt s (16 * r + l)) || serves s (16 * r + l) == .retired || (flagF s p (RJNL.LKT_STAT_VALID l) && decide (e < look 0 s.lockets (16 * r + l)))

/-- Frees records in ring order (R271). -/
def freeRecords : Nat → State → Nat → State
  | 0, s, _ => s
  | fuel + 1, s, r =>
    match (rjOf s r).recs with
    | x :: rest =>
      if freedEpoch s r x.epoch then
        let p := pgRJNL r
        let s := setRj s r { rjOf s r with recs := rest, full := false }
        let s := setF s p RJNL.JTAIL ((getF s p RJNL.JTAIL + 1) % (max 1 (getF s p RJNL.JSIZE)))
        let s := setF s p RJNL.JFILL (getF s p RJNL.JFILL - 1)
        freeRecords fuel s r
      else s
    | [] => s

/-! ### Input queues -/

/-- Depth of a tile queue: 4 lane inputs and SEQIN, 8 stream ports (R100, R228, R278). -/
def queueDepth (q : Nat) : Nat := if q < 8 ∨ q = 12 then 4 else 8

def queueOf (t : Tile) (q : Nat) : List Tok := look [] t.queues q

def setQueue (t : Tile) (q : Nat) (ts : List Tok) : Tile := { t with queues := put [] t.queues q ts }

/-- Sets the pending bit of an edge line (R120). -/
def pulse (t : Tile) (line : Nat) : Tile := { t with pend := t.pend ||| BitVec.ofNat 64 (2 ^ line) }

/-- A position's place in a lockstep pair (R289): pair number, the other position, whether this is the first, and what
the pair's `split` says (0 together, 1 first runs alone, 2 second runs alone, 3 both halted). -/
structure InPair where
  n     : Nat
  other : Nat
  first : Bool
  split : Nat
  deriving DecidableEq, Repr

def pairOf (s : State) (pos : Nat) : Option InPair :=
  (List.range 2).findSome? fun n =>
    let p := pgRJNL (pos / 16)
    let r := 16 * (pos / 16)
    let a := r + getF s p (RJNL.LSTEP_FIRST n)
    let b := r + getF s p (RJNL.LSTEP_SECOND n)
    if flagF s p (RJNL.LSTEP_EN n) then
      (if a = pos then some ⟨n, b, true, look 0 (rjOf s (pos / 16)).split n⟩
       else if b = pos then some ⟨n, a, false, look 0 (rjOf s (pos / 16)).split n⟩ else none)
    else none

/-- The tile whose stream-port queues stand behind a position's out-endpoints: the one that serves it, or, where that one is
retired, the other of its pair (R290). The outputs of a pair's second tile go to the comparator alone (R289). -/
def outTile (s : State) (pos : Nat) : Option Nat :=
  let at_ (p : Nat) : Option Nat := match serves s p with | .tile t => some t | _ => none
  match pairOf s pos with
  | some y => if y.first then (match at_ pos with | some t => some t | none => at_ y.other) else none
  | none => at_ pos

/-- The outputs of a position are ignored: it is in the steps of a recovery, and no other tile serves them (R283). -/
def outputsIgnored (s : State) (pos : Nat) : Bool :=
  match (protOf s pos).replay with
  | some x => !x.going && x.mate.isNone
  | none => false

/-- The positions that take the input tokens of `pos`: itself, and the second tile of a pair that `pos` leads. -/
def inputTakers (s : State) (pos : Nat) : List Nat :=
  match pairOf s pos with
  | some x => if x.first then [pos, x.other] else [pos]
  | none => [pos]

/-- Tokens that wait at input `q` of a position: the tile's queue, or the live tokens of one being recovered. -/
def waitingAt (s : State) (pos q : Nat) : List Tok :=
  match (protOf s pos).replay with
  | some x => look [] x.live q
  | none => (match serves s pos with | .tile t => queueOf (tileOf s t) q | _ => [])

/-- A position's queue `q` has room. The tokens of a position being recovered wait beside it. -/
def roomAt (s : State) (pos q : Nat) : Bool :=
  decide ((waitingAt s pos q).length < queueDepth q) || ((protOf s pos).replay.any fun x => x.mate.isSome)

/-- The tile that serves a position is gated by a switch of its clock (R244). -/
def posGated (s : State) (pos : Nat) : Bool :=
  match serves s pos with
  | .tile t => tileGated s t
  | _ => false

/-- Input queue `q` of a position can take a token (R12, R245, R272). -/
def inputRoom (s : State) (pos q : Nat) : Bool :=
  !(isProt s pos && (rjOf s (pos / 16)).full) && (inputTakers s pos).all fun p => roomAt s p q && !(posGated s p)

/-- Puts a token into input queue `q` of a position, with line 39 when it carries LATE (R120). A position that is being
recovered keeps it; a spare that follows the other tile of its pair is fed with it (R290). -/
def pushInput (s : State) (pos q : Nat) (t : Tok) : State :=
  match (protOf s pos).replay with
  | some x =>
    let x' := if x.mate.isSome && x.going then { x with feed := put [] x.feed q (look [] x.feed q ++ [t]) }
      else { x with live := put [] x.live q (look [] x.live q ++ [t]) }
    modProt s pos fun y => { y with replay := some x' }
  | none =>
    match serves s pos with
    | .tile n =>
      let s := modTile s n fun x =>
        let x := setQueue x q (queueOf x q ++ [t])
        if t.late then pulse x 39 else x
      tapTrace s pos q t
    | _ => s

/-- A token enters input queue `q` of a position: journaled once, delivered to both tiles of a lockstep pair. -/
def enterInput (s : State) (pos q : Nat) (t : Tok) : State :=
  (inputTakers s pos).foldl (fun s p => pushInput s p q t) (tapToken s pos q t)

end Sys2Proof.Machine
end

