-- ==== Sys2Proof/Machine/StreamOps.lean ====
section
/-! DEFINITION. The endpoints of a region's stream unit at their tile side: rings, the feeding of SIp, the taking of
SOp, and credits (R228 to R231). -/

namespace Sys2Proof.Machine
open Sys2Proof

def endOf (s : State) (k : Nat) : Endp := look Endp.init s.ends k

def setEnd (s : State) (k : Nat) (e : Endp) : State := { s with ends := put Endp.init s.ends k e }

def modEnd (s : State) (key : Nat) (f : Endp → Endp) : State := setEnd s key (f (endOf s key))

/-- The stamp of a token that a tile of a region emits now: how many records the region's writer has opened, and the region
(R292). -/
def stampNow (s : State) (r : Nat) : Nat := 16 * (rjOf s r).opened + r

/-- Entry fields of endpoint `k` (0 to 127) of region `r` (R236). -/
def epEn (s : State) (r k : Nat) : Bool := flagF s (pgRRTR r) (RRTR.EP_CTL_EN k)
def epMode (s : State) (r k : Nat) : Nat := getF s (pgRRTR r) (RRTR.EP_CTL_MODE k)
def epLog (s : State) (r k : Nat) : Nat :=
  let n := getF s (pgRRTR r) (RRTR.EP_CTL_LOG2SZ k)
  if 4 ≤ n ∧ n ≤ 18 then n else 4
def epCount (s : State) (r k : Nat) : Nat := getF s (pgRRTR r) (RRTR.EP_CRED_COUNT k)
def epSeq (s : State) (r k : Nat) : Nat := getF s (pgRRTR r) (RRTR.EP_SEQ k)

/-- Entries 0 to 3 of each tile are out-endpoints (R228). -/
def isOut (k : Nat) : Bool := decide (k % 8 < 4)

/-- Region-memory offsets of the data word and of the tags word of the token with sequence `q` (R229). -/
def ringData (s : State) (r k q : Nat) : Nat :=
  4 * (getF s (pgRRTR r) (RRTR.EP_ROUTE_BUF k) + q % 2 ^ epLog s r k) % 0x200000
def ringTags (s : State) (r k q : Nat) : Nat :=
  4 * (getF s (pgRRTR r) (RRTR.EP_ROUTE_BUF k) + 2 ^ epLog s r k + q % 2 ^ epLog s r k / 8) % 0x200000

/-- The refusal of a ring's write: of the bank (R162, R169), or because it is a journal bank (R268). -/
def ringRefusal (s : State) (r off : Nat) : Nat :=
  let c := placeRefusal s (.rmem r off)
  if c ≠ 0 then c else if isJournalBank s r (off / 0x20000) then 0x18 else 0

/-- Stores one word of a ring, on port A at rank 3 (R158). A refused write changes nothing, and the stream unit's page
counts it and raises the code (R20, R162, R169, R268; DEDUCED, log 84). -/
def ringPut (s : State) (r off : Nat) (w : Word) : State :=
  let c := ringRefusal s r off
  if c = 0 then storeA s (rmemStore s r off) 3 w else refuseAt s (pgRRTR r) c (rmemAddr r off % 2 ^ 32)

/-- Reads one word of a ring: the word, whether it is marked bad, and the state with what the read does (R146, R148). A
refused read answers 0 and is counted (R20, R162; DEDUCED, log 84). -/
def ringGet (s : State) (r off : Nat) : Word × Bool × State :=
  let c := placeRefusal s (.rmem r off)
  if c = 0 then
    let a := rmemStore s r off
    (memWord s a, isBad (markCode (markAt s a)), eccNote (serveAlone s (readOf a 1 3 0 true)).1 (.rmem r off) (rmemAddr r off) a)
  else (0, false, refuseAt s (pgRRTR r) c (rmemAddr r off % 2 ^ 32))

/-- Stores a token in a ring (R229). -/
def ringStore (s : State) (r k q : Nat) (t : Tok) : State :=
  let i := q % 2 ^ epLog s r k % 8
  let o := ringTags s r k q
  let a := rmemStore s r o
  let s := ringPut s r (ringData s r k q) t.data
  -- a tags word that reads bad keeps the tags of its other tokens, which stay in error (R148, R149)
  if isBad (markCode (markAt s a)) && ringRefusal s r o == 0 then
    let keep (j : Nat) : Nat := if j = i then tagsOf t else bitsOf (memWord s a).toNat (4 * j + 3) (4 * j) ||| 4
    ringPut s r o (word (((List.range 8).map fun j => keep j * 16 ^ j).foldl (· + ·) 0))
  else ringPut s r o (word (setBits (memWord s a).toNat (4 * i + 3) (4 * i) (tagsOf t)))

/-- Reads a token from a ring; a word marked bad sets ERR (R148). -/
def ringLoad (s : State) (r k q : Nat) : Tok × State :=
  let i := q % 2 ^ epLog s r k % 8
  let x := ringGet s r (ringData s r k q)
  let y := ringGet x.2.2 r (ringTags s r k q)
  let t := tokOf x.1 (bitsOf y.1.toNat (4 * i + 3) (4 * i))
  ({ t with err := t.err || x.2.1 || y.2.1 }, y.2.2)

/-- Moves tokens from an in-endpoint's ring into SIp while the queue has room (R228, R231, R264). -/
def feedGo : Nat → State → Nat → Nat → State
  | 0, s, _, _ => s
  | fuel + 1, s, r, k =>
    let pos := 16 * r + k / 8
    let q := 8 + (k % 8 - 4)
    if 0 < epCount s r k ∧ inputRoom s pos q then
      let x := ringLoad s r k (epSeq s r k + 2 ^ 32 - epCount s r k)
      let s := x.2
      let s := setF s (pgRRTR r) (RRTR.EP_CRED_COUNT k) (epCount s r k - 1)
      let e := endOf s (128 * r + k)
      let s := setEnd s (128 * r + k) { e with gathered := e.gathered + 1 }
      feedGo fuel (enterInput s pos q x.1) r k
    else s

/-- SIp carries the responses of its out-endpoint's memory mode, and is then no stream input (R234). -/
def siTaken (s : State) (r k : Nat) : Bool := epEn s r (k - 4) && epMode s r (k - 4) == 1

def feedSI (s : State) (r k : Nat) : State :=
  if !isOut k ∧ epEn s r k ∧ epMode s r k = 0 ∧ siTaken s r k = false then feedGo 8 s r k else s

/-- Takes tokens from SOp into an out-endpoint's next packet while it holds their credits (R230). -/
def takeGo : Nat → State → Nat → Nat → State
  | 0, s, _, _ => s
  | fuel + 1, s, r, k =>
    let e := endOf s (128 * r + k)
    match (if outputsIgnored s (16 * r + k / 8) then none else outTile s (16 * r + k / 8)) with
    | some t =>
      match queueOf (tileOf s t) (13 + k % 8) with
      | h :: rest =>
        if e.held.length < 14 ∧ 0 < epCount s r k ∧ !(e.held.getLast?.any Tok.last) then
          let s := modTile s t fun x => setQueue x (13 + k % 8) rest
          let s := setF s (pgRRTR r) (RRTR.EP_CRED_COUNT k) (epCount s r k - 1)
          takeGo fuel (setEnd s (128 * r + k) { e with held := e.held ++ [h] }) r k
        else s
      | [] => s
    | none => s

def takeSO (s : State) (r k : Nat) : State :=
  if isOut k ∧ epEn s r k ∧ epMode s r k = 0 then takeGo 14 s r k else s

/-- What the stream unit does at a position's ports after its tile has run. -/
def servePorts (s : State) (pos : Nat) : State :=
  (List.range 4).foldl (fun s p => feedSI (takeSO s (pos / 16) (8 * (pos % 16) + p)) (pos / 16) (8 * (pos % 16) + 4 + p)) s

end Sys2Proof.Machine
end

