-- ==== Sys2Proof/Machine/Tiles.lean ====
section
/-! DEFINITION. One tile cycle: fetch checks, legality, stalls, the facet and the crossbar, the sequencer's own
operation, bank accesses, delay slots, repeats, window moves and faults (chapters 02 to 04). -/

namespace Sys2Proof.Machine
open Sys2Proof

/-! ### Faults, levels and events of a tile -/

/-- The end of a tile cycle on the lines: line 38 of a read that failed in its bank cycle (R84, R120). -/
def linesDue (x : Tile) : Tile := if x.eccDue then { pulse x 38 with eccDue := false } else x

/-- The tile halts: a run of stalled cycles ends (R131), and the instruction fetched ahead is fetched anew when the tile
goes on. -/
def haltNow (x : Tile) : Tile := { linesDue x with halted := true, stallRun := 0, stallHit := false, ibuf := none }

/-- A sequencer fault (R118): the tile halts, and the code and the address of the instruction not executed are
recorded. The record's detail follows R501. The active assayer logs the fault and does nothing else (R300). -/
def seqFault (s : State) (t code fpc : Nat) : State :=
  let p := pgTSEQ t
  let s := modTile s t fun x => { haltNow x with faulted := true, wait := none }
  let s := setF (setF s p TSEQ.FAULT_CODE code) p TSEQ.FAULT_FPC fpc
  let d := if code = 0x14 ∨ code = 0x16 ∨ isBad code then bankAddr (posOf s t) fpc % 2 ^ 32 else 0
  noteLog (raiseCause (errCount s p) p 0 code d) code (pgTSEQ (posOf s t))

/-- Windows free in the ring (R113); a fill is one step, so FILLING is 0 between steps. -/
def freeWindows (x : Tile) : Nat := 11 - x.resident

/-- The condition or pending bit of an event line (R120). -/
def linePending (s : State) (t line : Nat) : Bool :=
  let x := tileOf s t
  if 16 ≤ line ∧ line ≤ 19 then !(queueOf x (8 + (line - 16))).isEmpty
  else if 20 ≤ line ∧ line ≤ 23 then decide ((queueOf x (13 + (line - 20))).length < 8)
  else if 24 ≤ line ∧ line ≤ 31 then !(queueOf x (line - 24)).isEmpty && (passedTo s (posOf s t) (line - 24)).isNone
  else if line = 33 then !(queueOf x 12).isEmpty
  else bitOf x.pend.toNat line

/-- Lines whose pending bit follows a condition (R120). -/
def isLevelLine (line : Nat) : Bool := decide ((16 ≤ line ∧ line ≤ 31) ∨ line = 33)

/-- An event that is eligible over the active level (R123). -/
def isEligible (s : State) (t line : Nat) : Bool :=
  let p := pgTSCH t
  flagF s p (TSCH.EVT_TAB_EN line) && decide ((tileOf s t).level.toNat < getF s p (TSCH.EVT_TAB_LVL line)) &&
    linePending s t line

/-- The scheduler's selection: highest `LVL`, then lowest line (R123). -/
def selected (s : State) (t : Nat) : Option Nat :=
  (List.range 64).foldl (fun best line =>
    if isEligible s t line then
      (match best with
       | none => some line
       | some b => if getF s (pgTSCH t) (TSCH.EVT_TAB_LVL b) < getF s (pgTSCH t) (TSCH.EVT_TAB_LVL line) then some line else some b)
    else best) none

/-- The cycle due next is held off by delay slots or by a running repeat (R124). -/
def slotsHeld (x : Tile) : Bool := x.xfer.isSome || !x.reps.isEmpty

/-- Keeps the hold-off run over `n` cycles, held off or not, in which an eligible event was pending or not (R130). -/
def noteHold (s : State) (t : Nat) (held pending : Bool) (n : Nat) : State :=
  let x := tileOf s t
  if n = 0 then s
  else if held && pending then
    maxF (setTile s t { x with holdRun := x.holdRun + n }) (pgTSCH t) TSCH.HOLDOFF_MAX (x.holdRun + n)
  else setTile s t { x with holdRun := 0, holdHit := false }

/-- An eligible event is pending (R123). -/
def eventWaits (s : State) (t : Nat) : Bool := (selected s t).isSome

/-! ### Bank cycles of the array and the paging engine -/

/-- A checked read of a tile word by the requester of a rank: data, code, and the state with its counters (R146, R148,
R150). -/
def arrayRead (s : State) (t w rank : Nat) : Word × Nat × State :=
  let a := bankAddr t w
  (memWord s a, markCode (markAt s a),
   eccNote (serveNext s (readOf a 0 rank t true)).1 (.bank (posOf s t) (4 * w)) (bankAddr (posOf s t) w) a)

/-- The word that bank `b` serves in the `j`-th of the bank cycles in which the words `ws` are served (R87). -/
def servedIn (ws : List Nat) (j b : Nat) : Option Nat := (ws.eraseDups.filter fun w => w / 8192 == b)[j]?

/-- Stalled cycles of one bank cycle: in the bank with most distinct words, one for each after the first (R87). -/
def conflictStalls (ws : List Nat) : Nat :=
  let ds := ws.eraseDups
  (List.range 8).foldl (fun m b => max m ((ds.filter fun w => w / 8192 == b).length - 1)) 0

/-- The words that still wait after one bank cycle (R87). -/
def stillIssued (ws : List Nat) : List Nat :=
  ws.eraseDups.filter fun w => servedIn ws 0 (w / 8192) != some w

/-- The next store read of the running paging command (R46, R48, R162). That a bank which is not ON ends the command
with 0x16 is DEDUCED from R162 (log 71). -/
def pageWord (s : State) (t : Nat) (r : PageRun) : PageRun × State :=
  let a := storeAddr r.set.toNat r.words.length
  if bankOn s t a then
    let x := arrayRead s t a 7
    ({ r with words := r.words ++ [x.1], code := if r.code = 0 ∧ isBad x.2.1 then BitVec.ofNat 8 x.2.1 else r.code,
              addr := if r.code = 0 ∧ isBad x.2.1 then BitVec.ofNat 16 a else r.addr }, x.2.2)
  else ({ r with words := r.words ++ [0], code := if r.code = 0 then 0x16 else r.code,
                 addr := if r.code = 0 then BitVec.ofNat 16 a else r.addr }, s)

/-- The next `n` store reads of the running paging command. -/
def pageWords : Nat → State → Nat → PageRun → PageRun × State
  | 0, s, _, r => (r, s)
  | n + 1, s, t, r => if 80 ≤ r.words.length then (r, s) else let x := pageWord s t r; pageWords n x.2 t x.1

/-- One tile cycle of the paging engine: two store reads, unless a bank of theirs serves the array another word, which
`PAGE_LOST` counts (R48, R49). -/
def pageCycle (s : State) (t : Nat) (ws : List Nat) (j : Nat) : State :=
  match (tileOf s t).pageRun with
  | none => s
  | some r =>
    let k := r.words.length
    let lost (a : Nat) : Bool := (servedIn ws j (a / 8192)).any fun w => w != a
    if 80 ≤ k then s
    else if lost (storeAddr r.set.toNat k) || lost (storeAddr r.set.toNat (k + 1)) then incF s (pgTFCT t) TFCT.PAGE_LOST 1
    else
      let x := pageWords 2 s t r
      modTile x.2 t fun y => { y with pageRun := some x.1 }

/-- The paging engine over the `n` bank cycles in which the array words `ws` are served. -/
def pageCycles (s : State) (t : Nat) (ws : List Nat) (n : Nat) : State :=
  (List.range n).foldl (fun s j => pageCycle s t ws j) s

/-- A stalled cycle: nothing changes but a counter and the watchdog runs (R45, R130, R131); the bank cycle goes on. -/
def stallCycle (s : State) (t : Nat) (counter : Option (Nat × Fld)) (held : Bool) : State :=
  let waits := eventWaits s t
  let ws := (tileOf s t).issued
  let s := match counter with
    | some (p, f) => incF s p f 1
    | none => s
  let s := noteHold s t held waits 1
  pageCycles (modTile s t fun x => { linesDue x with stallRun := x.stallRun + 1, issued := stillIssued ws }) t ws 1

/-! ### Program area, fetch and legality -/

/-- Address `a` lies in the tile's program area (R88). -/
def inProgram (s : State) (t a : Nat) : Bool :=
  let b := getF s (pgTSEQ t) TSEQ.PROG_CFG_BASE
  decide (b ≤ a) && decide (a < b + getF s (pgTSEQ t) TSEQ.PROG_CFG_LEN)

/-- The cached body holds the innermost repeat, and address `a` lies in it (R112). -/
def cacheCovers (x : Tile) (a : Nat) : Bool :=
  match x.cached, x.reps.getLast? with
  | some (f, l), some r => decide (f.toNat ≤ r.first.toNat ∧ r.last.toNat ≤ l.toNat) && decide (f.toNat ≤ a ∧ a ≤ l.toNat)
  | _, _ => false

/-- The repeat cache supplies the instruction at `a` (R112). -/
def cacheHas (x : Tile) (a : Nat) : Bool :=
  cacheCovers x a && (match x.cached with | some (f, _) => bitOf x.cmask.toNat (a - f.toNat) | none => false)

/-- The instruction at the program counter has been fetched ahead (R90). -/
def fetchHeld (x : Tile) : Option Fetched := x.ibuf.filter fun b => b.addr == x.pc

/-- The code with which the fetch of the instruction due answers: 0 from the repeat cache (R91, R112). -/
def fetchCode (s : State) (t : Nat) : Nat :=
  let x := tileOf s t
  if cacheHas x x.pc.toNat then 0
  else match fetchHeld x with
    | some b => b.code.toNat
    | none => markCode (markAt s (bankAddr t x.pc.toNat))

/-- The instruction due is at hand, or its bank is ON (R90, R112, R162). -/
def fetchable (s : State) (t : Nat) : Bool :=
  let x := tileOf s t
  cacheHas x x.pc.toNat || (fetchHeld x).isSome || bankOn s t x.pc.toNat

/-- The word due at the program counter. -/
def dueWord (s : State) (t : Nat) : Word :=
  let x := tileOf s t
  let pc := x.pc.toNat
  match x.cached, fetchHeld x with
  | some (f, _), b => if cacheHas x pc then look 0 x.cwords (pc - f.toNat) else (b.map Fetched.w).getD (memWord s (bankAddr t pc))
  | none, b => (b.map Fetched.w).getD (memWord s (bankAddr t pc))

/-- The fetch of the instruction at the program counter, for the coming cycle (R90); none where the repeat cache supplies
it (R112) or it cannot be fetched (R91, R162). -/
def fetchAhead (s : State) (t : Nat) : State :=
  let x := tileOf s t
  let pc := x.pc.toNat
  if inProgram s t pc && bankOn s t pc && !(cacheHas x pc) then
    let r := arrayRead s t pc 5
    modTile r.2.2 t fun y => { y with ibuf := some ⟨x.pc, r.1, BitVec.ofNat 8 r.2.1⟩ }
  else setTile s t { x with ibuf := none }

/-- Whether a control transfer, REPI, REPR or HALT (R105, R106). -/
def isTransfer : SeqOp → Bool
  | .beq | .bne | .blt | .bge | .bltu | .bgeu | .j | .jr | .call | .callr | .ret | .rete => true
  | _ => false
def notInSlot (op : SeqOp) : Bool :=
  isTransfer op || (match op with | .repi | .repr | .halt => true | _ => false)

/-- A RETE that may not execute (R128). -/
def reteIllegal (x : Tile) : Bool :=
  let l := (seqReg x 9).toNat % 4
  !(decide (l < x.level.toNat) && bitOf x.active.toNat l)

/-- The operation of a word, when the instruction is legal where it stands (R94, R97, R106, R128). -/
def legalOp (x : Tile) (w : Word) : Option SeqOp :=
  match seqOpOf (bitsOf w.toNat 31 26) with
  | none => none
  | some op =>
    let o := bitsOf w.toNat 20 0
    if o &&& reservedMask op ≠ 0 then none
    else if x.xfer.isSome && notInSlot op then none
    else match op with
      | .swev => if 23 < o % 32 then none else some op
      | .ret => if x.resident = 1 ∧ x.spilled = 0 then none else some op
      | .rete => if reteIllegal x then none else some op
      | _ => some op

def repHas (r : Rep) (a : Nat) : Bool := decide (r.first.toNat ≤ a ∧ a ≤ r.last.toNat)

/-- The fault of R110 that stops an instruction at `pc`, or R117's spill fault: 0 for none. A repeat that breaks both
rules of R110 takes 0x36, and one with a count of 0 counts toward the depth like any other (DESIGN CHOICE, log 77). -/
def ruleFault (x : Tile) (op : SeqOp) (o pc : Nat) : Nat :=
  let inLast := x.reps.any fun r => repHas r pc && decide (r.last.toNat < pc + 3)
  let bodyEnd := pc + 1 + (match op with | .repi => fLenI o | _ => fLenR o)
  match op with
  | .repi | .repr =>
    if x.reps.any fun r => repHas r pc && decide (r.last.toNat < bodyEnd) then 0x36
    else if x.reps.length = 4 then 0x64 else 0
  | .call | .callr =>
    if inLast then 0x36 else if freeWindows x = 0 ∧ x.spilled = 64 then 0x63 else 0
  | _ => if isTransfer op && inLast then 0x36 else 0

/-! ### The crossbar -/

/-- Words of the facet set resident in a slot (R39). -/
def slotWord (x : Tile) (slot w : Nat) : Word := look 0 x.slots (80 * slot + w)

/-- Queue of a queue source 32 to 43. -/
def srcQueue (n : Nat) : Nat := if n < 40 then n - 32 else 8 + (n - 40)

/-- Value and validity of a crossbar source in this cycle (R41). -/
def srcVal (x : Tile) (n : Nat) : Tok × Bool :=
  if n < 16 then
    let c := look Cell.init x.cells n
    (c.o.tok, c.o.valid)
  else if n < 32 then
    let c := look Cell.init x.cells (n - 16)
    (c.q.tok, c.q.valid)
  else if n < 44 then
    match queueOf x (srcQueue n) with
    | h :: _ => (h, true)
    | [] => (Tok.zero, false)
  else if n = 44 then (x.seqOut.tok, x.seqOut.valid)
  else if n = 45 then (x.busX.held, x.busX.valid)
  else if n = 46 then (x.busY.held, x.busY.valid)
  else if n = 47 then (x.busK.held, x.busK.valid)
  else (Tok.zero, true)

/-- The enabled crossbar entries of a slot. -/
def entriesOf (x : Tile) (slot : Nat) : List (Nat × XEntry) :=
  ((List.range 46).map fun d => (d, xentry (slotWord x slot) d)).filter fun e => e.2.en

/-- A token to destination `d` would be discarded as a repeat of one already emitted (R286). -/
def isRepeat (s : State) (pos d : Nat) : Bool :=
  isProt s pos && decide (look 0 (protOf s pos).emitted d < look 0 (protOf s pos).latched d)

/-- The position whose outputs a tile's outputs are: its own, or that of the first tile of its pair (R289). -/
def outPos (s : State) (t : Nat) : Nat :=
  match pairOf s (posOf s t) with
  | some x => if x.first then posOf s t else x.other
  | none => posOf s t

/-- Destination `d` of a tile holds a credit (R42, R45, R86, R286). -/
def hasCredit (s : State) (t d : Nat) : Bool :=
  let pos := outPos s t
  if isRepeat s pos d || (protOf s (posOf s t)).replay.any (fun y => y.mate.isSome) then true
  else if d < 40 then
    (match claspKey (laneEnd s pos (d - 32)) with
     | some k => claspRoom s k
     | none => true)
  else if d < 44 then
    (match outTile s pos with
     | some u => decide ((queueOf (tileOf s u) (13 + (d - 40))).length < 8)
     | none => true)
  else if d = 45 then decide ((queueOf (tileOf s t) 12).length < 4)
  else true

/-- Bus data that falls due arrives (R84, R85, R93). -/
def RdBus.arrive (b : RdBus) : RdBus :=
  match b.due with
  | some (w, bad) => { fetched := none, due := b.fetched, held := { Tok.plain w with err := bad }, valid := true }
  | none => { fetched := none, due := b.fetched, held := b.held, valid := false }

def arriveAll (x : Tile) : Tile := { x with busX := x.busX.arrive, busY := x.busY.arrive, busK := x.busK.arrive }

/-- Why a facet stalls (R45). -/
inductive Stall where
  | none | empty | credit
  deriving DecidableEq, Repr

/-- Whether the facet of a slot stalls in this cycle, with the bus data that arrives in it (R45, R85). A cycle that lacks
both a token and a credit is counted as one that lacks a token (DEDUCED, log 73). -/
def facetStall (s : State) (t slot : Nat) : Stall :=
  let x := arriveAll (tileOf s t)
  let es := entriesOf x slot
  if es.any fun e => isQueueSrc e.2.src && (queueOf x (srcQueue e.2.src)).isEmpty then .empty
  else if es.any fun e => decide (32 ≤ e.1) && (srcVal x e.2.src).2 && !(hasCredit s t e.1) then .credit
  else .none

/-- What a facet leaves beside the tile: tokens for queue-type destinations, and bus addresses. -/
structure FacetOut where
  tile : Tile
  toks : List (Nat × Tok)
  bx : Option Nat
  by_ : Option Nat
  bk : Option Nat
  bw : Option Nat
  deriving DecidableEq, Repr

/-- The facet of a slot in an executed cycle: crossbar, sixteen cells, selector link, EVOUT lines, and the removal of
queue heads (R25, R40 to R44, R61). -/
def runFacet (x : Tile) (slot : Nat) : FacetOut :=
  let es := entriesOf x slot
  let cellIn := fun (c : Nat) =>
    let me := look Cell.init x.cells c
    let a := es.find? fun e => e.1 = c
    let b := es.find? fun e => e.1 = 16 + c
    { me with
      xa := (match a with | some e => (srcVal x e.2.src).1 | none => me.xa)
      xb := (match b with | some e => (srcVal x e.2.src).1 | none => me.xb) }
  let seen : Seen := ⟨x.level.toNat, x.busX.held, x.busY.held, x.busK.held⟩
  let fs := fun c => facetAt (slotWord x slot) c
  let steps := fun c => stepCell seen x.selTok x.selIdx fs cellIn c
  let link := selectorLink steps x.selTok x.selIdx
  let cells := (List.range 16).foldl (fun m c => put Cell.init m c (steps c).cell) x.cells
  let pops := (List.range 12).filter fun q => es.any fun e => isQueueSrc e.2.src && srcQueue e.2.src == q && !e.2.peek
  let x1 := pops.foldl (fun y q => setQueue y q (queueOf y q).tail) { x with cells := cells, selTok := link.1, selIdx := link.2 }
  let x2 := (List.range 16).foldl (fun y c => if (steps c).evout then pulse y c else y) x1
  { tile := x2
    toks := (es.filter fun e => decide (32 ≤ e.1) && (srcVal x e.2.src).2).map fun e => (e.1, (srcVal x e.2.src).1)
    bx := (steps 0).bus0, by_ := (steps 0).bus1, bk := (steps 15).bus0, bw := (steps 15).bus1 }

/-- The outputs after an idle cycle: an O or Q is valid only in the cycle after the one that produced it, so an idle cycle
leaves none valid (R33, R82, R93; DEDUCED, log 78). -/
def noOutputs (x : Tile) : Tile :=
  let off (c : Cell) : Cell := { c with o := { c.o with valid := false }, q := { c.q with valid := false } }
  { x with cells := (List.range 16).foldl (fun m c => put Cell.init m c (off (look Cell.init m c))) x.cells
           seqOut := { x.seqOut with valid := false } }

/-- An idle cycle: bus data that falls due arrives, and no output stays valid (R33, R41, R84, R93). -/
def idleTile (x : Tile) : Tile := noOutputs (arriveAll x)

/-! ### Tokens that leave a tile -/

/-- Delivers a token at lane output or stream port output `d` of a position, unless it repeats one already
emitted (R286). -/
def deliverOut (s : State) (pos d : Nat) (k : Tok) : State :=
  let counted := decide (d < 40) || decide (epMode s (pos / 16) (8 * (pos % 16) + (d - 40)) = 1)
  let rep := counted && isRepeat s pos d
  let s := if isProt s pos && counted then modProt s pos fun y => { y with emitted := put 0 y.emitted d (look 0 y.emitted d + 1) } else s
  if rep then s
  else if d < 40 then
    (match claspKey (laneEnd s pos (d - 32)) with
     | some c => claspPush s c k
     | none => s)
  else
    (match outTile s pos with
     | some t =>
       let s := modTile s t fun x => setQueue x (13 + (d - 40)) (queueOf x (13 + (d - 40)) ++ [k])
       let s := modEnd s (128 * (pos / 16) + 8 * (pos % 16) + (d - 40)) fun e => { e with stamps := e.stamps ++ [stampNow s (pos / 16)] }
       tapTrace s pos (13 + (d - 40)) k
     | none => s)

/-- Passes on the tokens of a lockstep pair whose heads are equal (R289); unequal heads stay withheld (R290). -/
def matchPair : Nat → State → Nat → Nat → Nat → State
  | 0, s, _, _, _ => s
  | fuel + 1, s, pos, n, d =>
    let r := pos / 16
    let j := rjOf s r
    match look [] j.cmpA (64 * n + d), look [] j.cmpB (64 * n + d) with
    | a :: as_, b :: bs =>
      if a = b then
        let s := setRj s r { j with cmpA := put [] j.cmpA (64 * n + d) as_, cmpB := put [] j.cmpB (64 * n + d) bs }
        matchPair fuel (deliverOut s pos d a) pos n d
      else s
    | _, _ => s

/-- Puts a token at one side of a pair's comparator. -/
def toComparator (s : State) (r n d : Nat) (first : Bool) (k : Tok) : State :=
  let j := rjOf s r
  let key := 64 * n + d
  setRj s r (if first then { j with cmpA := put [] j.cmpA key (look [] j.cmpA key ++ [k]) }
    else { j with cmpB := put [] j.cmpB key (look [] j.cmpB key ++ [k]) })

/-- A token leaves a tile by destination `d`: through the comparator of a lockstep pair (R289), or from the tile of a
split pair that runs alone, as the first position's (R290). A spare that follows its pair's other tile emits nothing. -/
def emitTok (s : State) (t d : Nat) (k : Tok) : State :=
  let pos := posOf s t
  match pairOf s pos with
  | none => deliverOut s pos d k
  | some x =>
    let a := if x.first then pos else x.other
    if x.split = 0 then matchPair 8 (toComparator s (pos / 16) x.n d x.first k) a x.n d
    else if (protOf s pos).replay.any fun y => y.mate.isSome then s
    else deliverOut s a d k

/-! ### The sequencer's own operation -/

/-- The sequencer arithmetic of R96: the value for RD. -/
def seqAlu (op : SeqOp) (a b : Word) : Option Word :=
  match op with
  | .add | .addi => some (a + b)
  | .sub => some (a - b)
  | .and_ | .andi => some (a &&& b)
  | .or_ | .ori => some (a ||| b)
  | .xor | .xori => some (a ^^^ b)
  | .shl | .shli => some (a <<< (b.toNat % 32))
  | .shr | .shri => some (a >>> (b.toNat % 32))
  | .sar | .sari => some (a.sshiftRight (b.toNat % 32))
  | .slt | .slti => some (word (b2n (decide (a.toInt < b.toInt))))
  | .sltu => some (word (b2n (decide (a.toNat < b.toNat))))
  | .mul => some (a * b)
  | _ => none

/-- Whether operand B is IMM11 (format I arithmetic, R96). -/
def immForm : SeqOp → Bool
  | .addi | .andi | .ori | .xori | .shli | .shri | .sari | .slti => true
  | _ => false

/-- The branch condition of R96. -/
def branchTaken (op : SeqOp) (a b : Word) : Bool :=
  match op with
  | .beq => decide (a = b)
  | .bne => decide (a ≠ b)
  | .blt => decide (a.toInt < b.toInt)
  | .bge => decide (b.toInt ≤ a.toInt)
  | .bltu => decide (a.toNat < b.toNat)
  | .bgeu => decide (b.toNat ≤ a.toNat)
  | _ => true

def addr16 (n : Nat) : BitVec 16 := BitVec.ofNat 16 n

/-- Tile word address of LD and ST (R96). -/
def ldstAddr (x : Tile) (o : Nat) : Nat := ((((seqReg x (fRA o)).toNat : Int) + fImm11 o) % 65536).toNat

/-- The transfer that an instruction at `pc` starts (R105, R107, R128). RETE takes its level when it executes, as it takes
its address (DEDUCED from R128's check, log 74). -/
def startXfer (x : Tile) (op : SeqOp) (o pc : Nat) : Option Xfer :=
  match op with
  | .beq | .bne | .blt | .bge | .bltu | .bgeu =>
    some ⟨2, 0, branchTaken op (seqReg x (fBra o)) (seqReg x (fBrb o)), addr16 (((pc : Int) + fImm11 o) % 65536).toNat, 0⟩
  | .j => some ⟨2, 0, true, addr16 (fImm16 o), 0⟩
  | .jr => some ⟨2, 0, true, addr16 (seqReg x (fRA o)).toNat, 0⟩
  | .call => some ⟨2, 1, true, addr16 (fImm16 o), 0⟩
  | .callr => some ⟨2, 1, true, addr16 (seqReg x (fRA o)).toNat, 0⟩
  | .ret => some ⟨2, 2, true, addr16 (seqReg x 0).toNat, 0⟩
  | .rete => some ⟨2, 3, true, addr16 (seqReg x 8).toNat, BitVec.ofNat 2 (seqReg x 9).toNat⟩
  | _ => none

/-- Starts a repeat and, for a short body that no cached body contains, the repeat cache (R108, R109, R112). -/
def startRep (x : Tile) (pc len count : Nat) : Tile :=
  if count = 0 then x
  else
    let f := addr16 (pc + 1)
    let l := addr16 (pc + 1 + len)
    let inCache := match x.cached with
      | some (cf, cl) => decide (cf.toNat ≤ pc + 1 ∧ pc + 1 + len ≤ cl.toNat)
      | none => false
    let x := { x with reps := x.reps ++ [⟨f, l, BitVec.ofNat 16 (count - 1)⟩] }
    if len < 16 && !inCache then { x with cached := some (f, l), cmask := 0, cwords := [] } else x

/-- Instructions of a body that does not run, its count being 0 (R109). -/
def skipped (x : Tile) (op : SeqOp) (o : Nat) : Nat :=
  match op with
  | .repi => if fCount o = 0 then fLenI o + 1 else 0
  | .repr => if (seqReg x (bitsOf o 20 16)).toNat % 65536 = 0 then fLenR o + 1 else 0
  | _ => 0

/-- The register and queue effects of an operation, other than LD, ST, RDTIME and WAITEV (R96 to R108). -/
def seqEffect (x : Tile) (op : SeqOp) (o pc : Nat) : Tile :=
  match op with
  | .lui => setSeqReg x (fRD o) (word (fImm16 o * 65536))
  | .li => setSeqReg x (fRD o) (wordI (sext 16 (fImm16 o)))
  | .llo => setSeqReg x (fRD o) (word (setBits (seqReg x (fRD o)).toNat 15 0 (fImm16 o)))
  | .in_ =>
    match queueOf x 12 with
    | h :: rest => setSeqReg { setQueue x 12 rest with inTags := BitVec.ofNat 4 (tagsOf h) } (fRD o) h.data
    | [] => x
  | .intag => setSeqReg x (fRD o) (word x.inTags.toNat)
  | .out => { x with seqOut := ⟨tokOf (seqReg x (fRA o)) (o % 16), true⟩ }
  | .pagei => { x with pageQ := x.pageQ ++ [(BitVec.ofNat 8 (bitsOf o 11 4), Fin.ofNat 16 o)] }
  | .pager =>
    let v := (seqReg x (fRA o)).toNat
    { x with pageQ := x.pageQ ++ [(BitVec.ofNat 8 (bitsOf v 23 16), Fin.ofNat 16 v)] }
  | .swev => pulse x (40 + o % 32)
  | .call | .callr => setSeqReg x 16 (word ((pc + 3) % 65536))
  | .repi => startRep x pc (fLenI o) (fCount o)
  | .repr => startRep x pc (fLenR o) ((seqReg x (bitsOf o 20 16)).toNat % 65536)
  | _ =>
    match seqAlu op (seqReg x (fRA o)) (if immForm op then wordI (fImm11 o) else seqReg x (fRB o)) with
    | some v => setSeqReg x (fRD o) v
    | none => x

/-! ### The next instruction -/

/-- The loop-back or end of the repeats whose body ends at `pc` (R108), innermost first. -/
def repeatNext : List Rep → Nat → List Rep × Nat
  | [], pc => ([], (pc + 1) % 65536)
  | r :: outer, pc =>
    if r.last.toNat = pc then
      (if r.count = 0 then repeatNext outer pc else ({ r with count := r.count - 1 } :: outer, r.first.toNat))
    else (r :: outer, (pc + 1) % 65536)

/-- Window and level moves at the end of the second slot (R107, R114, R116, R128); `lvl` is the level of a RETE. A return
to a frame that is not resident waits with `RESIDENT` still 1, its least value (R113; DESIGN CHOICE, log 75). -/
def windowMove (x : Tile) (kind lvl : BitVec 2) : Tile :=
  let back (x : Tile) : Tile :=
    let x := { x with wpos := (x.wpos + 11) % 12 }
    if x.resident = 1 then { x with retPend := true } else { x with resident := x.resident - 1 }
  match kind.toNat with
  | 1 => { x with wpos := (x.wpos + 1) % 12, resident := x.resident + 1 }
  | 2 => back x
  | 3 => back { x with active := x.active &&& ~~~(BitVec.ofNat 4 (2 ^ x.level.toNat)), level := lvl }
  | _ => x

/-- The repeats become `rs`; of a level that ends, REPnA and REPnB keep what they showed (R138; DESIGN CHOICE, log 76). -/
def setReps (x : Tile) (rs : List Rep) : Tile :=
  if rs.length < x.reps.length then
    { x with reps := rs, repLast := x.reps.zipIdx.foldl (fun m r => put ⟨0, 0, 0⟩ m r.2 r.1) x.repLast }
  else { x with reps := rs }

/-- The program counter, repeats and transfer after the instruction at `pc` has executed; `new` is the transfer it
started (R105, R108, R111). -/
def advance (x : Tile) (pc : Nat) (new : Option Xfer) : Tile :=
  match x.xfer with
  | some f =>
    if f.left = 1 then
      let x := if f.kind = 0 ∧ f.taken then
          setReps x (x.reps.filter fun r => !(repHas r (pc - 2)) || repHas r f.target.toNat) else x
      let x := { x with xfer := none, pc := if f.taken then f.target else addr16 (pc + 1) }
      windowMove x f.kind f.lvl
    else { x with xfer := some { f with left := f.left - 1 }, pc := addr16 (pc + 1) }
  | none =>
    match new with
    | some f => { x with xfer := some f, pc := addr16 (pc + 1) }
    | none =>
      let n := repeatNext x.reps.reverse pc
      { setReps x n.1.reverse with pc := addr16 n.2 }

/-! ### Bank accesses -/

/-- The read of a bus for the address issued in this cycle; line 38 follows a bad word in the bank cycle, which is the
next tile cycle (R84, R85, R120). A bank that is not ON gives no data (R162). -/
def busRead (s : State) (t rank : Nat) (a : Option Nat) (put_ : Tile → Option (Word × Bool) → Tile) : State :=
  match a with
  | none => s
  | some w =>
    if bankOn s t w then
      let r := arrayRead s t w rank
      let bad := isBad r.2.1
      modTile r.2.2 t fun x => { put_ x (some (r.1, bad)) with eccDue := x.eccDue || bad }
    else s

/-- The bank accesses that follow an executed cycle: ST before W, then the reads (R84, R86, R87, R99, R150, R151,
R155). An access to a bank that is not ON is not made (R162); that the accesses of the other requesters are made is a
choice (DESIGN CHOICE, log 72). -/
def bankCycle (s : State) (t : Nat) (f : FacetOut) (st : Option (Nat × Word)) (wdata : Option Tok) : State :=
  let wAddr := match f.bw with | some a => a | none => (tileOf s t).wAddr.toNat
  let st := st.filter fun x => bankOn s t x.1
  let wdata := wdata.filter fun _ => bankOn s t wAddr
  let s := (List.range 8).foldl (fun s b => openCycle s (bankAddr t (8192 * b))) s
  let put (s : State) (rank w : Nat) (k : Store) : State := (serveNext s (writeOf (bankAddr t w) 0 rank t k)).1
  let s := match st with | some (a, d) => put s 5 a ⟨d, 15, 0, false⟩ | none => s
  let s := match wdata with | some k => put s 4 wAddr ⟨k.data, 15, 0, k.err⟩ | none => s
  let s := modTile s t fun x => { x with wAddr := addr16 wAddr }
  let s := busRead s t 1 f.bx fun x v => { x with busX := { x.busX with fetched := v } }
  let s := busRead s t 2 f.by_ fun x v => { x with busY := { x.busY with fetched := v } }
  busRead s t 3 f.bk fun x v => { x with busK := { x.busK with fetched := v } }

/-! ### Replay -/

/-- The next log entry that a replaying position must obey. -/
def nextEntry (s : State) (pos : Nat) : Option LogE :=
  match (protOf s pos).replay with
  | some x => x.entries.head?
  | none => none

def dropEntry (s : State) (pos : Nat) : State :=
  modProt s pos fun y => match y.replay with
    | some x => { y with replay := some { x with entries := x.entries.tail } }
    | none => y

/-- Feeds a replaying tile's input queues from the journaled tokens (R284). -/
def feedReplay (s : State) (t : Nat) : State :=
  let pos := posOf s t
  match (protOf s pos).replay with
  | some x =>
    if x.going then
      (List.range 12).foldl (fun s q =>
        match (protOf s pos).replay with
        | some x =>
          let have_ := queueOf (tileOf s t) q
          let n := queueDepth q - have_.length
          let more := look [] x.feed q
          let s := modTile s t fun y =>
            let y := setQueue y q (have_ ++ more.take n)
            if (more.take n).any Tok.late then pulse y 39 else y
          let s := (more.take n).foldl (fun s k => tapTrace s pos q k) s
          modProt s pos fun y => { y with replay := some { x with feed := put [] x.feed q (more.drop n) } }
        | none => s) s
    else s
  | none => s

/-- Applies the logged outside writes to banks that belong to count `r` and phase `ph` (R275). -/
def replayWrites : Nat → State → Nat → Word → Bool → State
  | 0, s, _, _, _ => s
  | fuel + 1, s, t, r, ph =>
    let pos := posOf s t
    match nextEntry s pos with
    | some e =>
      if e.kind = .extwr ∧ e.tgt = 0 ∧ e.retired = r ∧ e.phase = ph ∧ replaying s pos then
        replayWrites fuel (storeTileWord (dropEntry s pos) t e.addr e.value e.be 0 false 10).1 t r ph
      else s
    | none => s

/-! ### The cycle -/

/-- The time base as a tile reads it, or the logged value in replay (R101, R132, R258). -/
def readTime (s : State) (t : Nat) (hi : Bool) : Word × State :=
  let pos := posOf s t
  let x := tileOf s t
  match (if replaying s pos then nextEntry s pos else none) with
  | some e =>
    if e.kind = .time then
      -- the upper half of the value logged: the time base has gone on by less than 2^32 ns since (R266)
      let now := s.tb.toNat + 16
      let full := (now + 2 ^ 64 - (now + 2 ^ 32 - e.value.toNat) % 2 ^ 32) % 2 ^ 64
      let s := dropEntry s pos
      (e.value, if hi then s else modTile s t fun x => { x with tlatch := word (full / 2 ^ 32) })
    else (0, s)
  | none =>
    if hi then (x.tlatch, s)
    else
      let v := timeAt s (pgTSEQ t) 0
      (word v.1, modTile v.2 t fun x => { x with tlatch := word (v.1 / 2 ^ 32) })

/-- The tile halts as after HALT (R104). -/
def haltInsn (s : State) (t : Nat) : State :=
  raiseCause (modTile s t haltNow) (pgTSEQ t) 1 0 0

/-- The word of an instruction (R92). -/
def wordOf (op : SeqOp) (fv : Bool) (slot o : Nat) : Word := insnWord op fv (Fin.ofNat 16 slot) (BitVec.ofNat 21 o)

/-- An executed cycle of the instruction `op` with operand bits `o` at `pc`; `fv` and `slot` name its facet. An LD that
returns a bad word halts the tile with the address of the next instruction, having retired, and leaves RD unwritten
(DEDUCED from R99 and R118, log 79). -/
def executed (s : State) (t : Nat) (op : SeqOp) (o pc : Nat) (fv : Bool) (slot : Nat) : State :=
  let x0 := arriveAll (tileOf s t)
  let pos := posOf s t
  let held := slotsHeld x0 || (match op with | .repi | .repr => true | _ => false)
  let waits := eventWaits s t
  -- facet
  let f : FacetOut := if fv then runFacet x0 slot else ⟨noOutputs x0, [], none, none, none, none⟩
  let x1 := { f.tile with seqOut := { f.tile.seqOut with valid := false } }
  -- sequencer: register reads see the start of the cycle
  let new := startXfer x1 op o pc
  let la := ldstAddr x1 o
  let stv := seqReg x1 (fRD o)
  let x2 := seqEffect x1 op o pc
  let x3 := match x2.cached with
    | some (cf, _) => if cacheCovers x2 pc then
        { x2 with cmask := x2.cmask ||| BitVec.ofNat 16 (2 ^ (pc - cf.toNat))
                  cwords := put 0 x2.cwords (pc - cf.toNat) (wordOf op fv slot o) } else x2
    | none => x2
  let prevIssued := x3.issued
  let x4 := linesDue (advance { x3 with retired := x3.retired + 1 } (pc + skipped x1 op o) new)
  let s := noteHold s t held waits 1
  let s := fetchAhead (setTile s t { x4 with holdRun := (tileOf s t).holdRun, holdHit := (tileOf s t).holdHit }) t
  let retired := x4.retired
  -- tokens out
  let s := f.toks.foldl (fun s k =>
    if k.1 < 44 then emitTok s t k.1 k.2
    else if k.1 = 45 then tapTrace (modTile s t fun x => setQueue x 12 (queueOf x 12 ++ [k.2])) (posOf s t) 12 k.2
    else s) s
  let wdata := (f.toks.find? fun k => k.1 = 44).map Prod.snd
  -- bank cycle
  let st := if op = .st then some (la, stv) else none
  let wAddr := match f.bw with | some a => a | none => x4.wAddr.toNat
  let busWords := [f.bx, f.by_, f.bk].filterMap id ++ (if wdata.isSome then [wAddr] else [])
  let arrayWords := busWords ++ (if op = .ld ∨ op = .st then [la] else [])
  let npc := x4.pc.toNat
  let s := replayWrites 64 s t retired false
  let s := bankCycle s t f st wdata
  let s := replayWrites 64 s t retired true
  let ld : Word × Nat × State := if op = .ld ∧ bankOn s t la then arrayRead s t la 5 else (0, 0, s)
  let s := ld.2.2
  let s :=
    if !(arrayWords.all fun w => bankOn s t w) then seqFault s t 0x16 npc
    else if op = .ld then
      (if isBad ld.2.1 then seqFault s t ld.2.1 npc
       else modTile s t fun x =>
         -- RD is a register of the window in which LD executed
         { setSeqReg { x with wpos := x1.wpos } (fRD o) ld.1 with wpos := x.wpos })
    else s
  -- RDTIME
  let s := if op = .rdtime then
      let r := readTime s t (bitOf o 0)
      let s := modTile r.2 t fun x => { setSeqReg { x with wpos := x1.wpos } (fRD o) r.1 with wpos := x.wpos }
      logEntry s pos (plainEntry .time retired r.1 0)
    else s
  -- conflicts of this bank cycle with the next fetch, and of LD or ST
  let ldst := decide (op = .ld ∨ op = .st)
  let fetchNext := !(cacheHas (tileOf s t) npc)
  let words1 := prevIssued ++ (if fetchNext then [npc] else [])
  let lost := if fetchNext then ((prevIssued.eraseDups).filter fun w => w / 8192 == npc / 8192 && w != npc).length else 0
  let own := conflictStalls words1
  let stalls := own + (if ldst then 1 + conflictStalls arrayWords else 0)
  let s := incF s (pgTSEQ t) TSEQ.FETCH_STALL lost
  let s := modTile s t fun x => { x with issued := if ldst then [] else busWords, stallRun := stalls, stallHit := false }
  let s := noteHold s t true (eventWaits s t) stalls
  let s := pageCycles s t words1 (1 + own)
  let s := if ldst then pageCycles s t arrayWords (stalls - own) else s
  let s := if op = .halt then haltInsn s t else s
  servePorts s pos

/-- The facet or operand stall of an instruction that is about to execute (R45, R100, R102). -/
def cycleStall (s : State) (t : Nat) (op : SeqOp) (fv : Bool) (slot : Nat) : Stall :=
  let x := tileOf s t
  match (if fv then facetStall s t slot else .none) with
  | .none =>
    (match op with
     | .in_ => if (queueOf x 12).isEmpty then .empty else .none
     | .pagei | .pager => if x.pageQ.length < 4 then .none else .credit
     | _ => .none)
  | r => r

/-- The count at which a replay pauses or ends: where the retired tile was halted, or where the other tile of the pair
stands (R284, R290). -/
def replayStop (s : State) (x : Replay) : Nat :=
  match x.mate with
  | some m => (match serves s m with | .tile u => (tileOf s u).retired.toNat + x.base | _ => x.haltAt)
  | none => x.haltAt

/-- A replay has reached its end: the count at which the retired tile was halted. For a position of the lost partner that count
is not known; its replay ends once its tokens and entries are used up (R293; log 34). -/
def replayAtEnd (s : State) (t : Nat) (x : Replay) : Bool :=
  if x.far.isSome then x.entries.isEmpty && x.feed.all (fun y => y.2.isEmpty)
  else (tileOf s t).retired.toNat == replayStop s x

/-- What a log entry of a replaying position forces on the next executed cycle: an instruction may execute only when
the next entry is not a switch at the count it would reach (R132, R273). -/
def replayAllows (s : State) (t : Nat) : Bool :=
  let pos := posOf s t
  if replaying s pos then
    match nextEntry s pos, (protOf s pos).replay with
    | some e, some x =>
      let r := (tileOf s t).retired
      !(replayAtEnd s t x) &&
      !(e.kind = .switch && e.retired == r + 1) &&
      !(e.kind = .commit && e.retired == r)
    | none, some x => !(replayAtEnd s t x)
    | _, none => true
  else true

/-- A WAITEV may complete now: its line is pending, or in replay the log says so (R129, R273). -/
def waitEnds (s : State) (t line : Nat) : Bool :=
  let pos := posOf s t
  if replaying s pos then
    match nextEntry s pos with
    | some e => e.kind = .waitev && e.retired == (tileOf s t).retired + 1
    | none => false
  else linePending s t line

/-- The completing cycle of a WAITEV (R129). -/
def waitDone (s : State) (t : Nat) (w : Word) : State :=
  let x := tileOf s t
  let line := bitsOf w.toNat 5 0
  let fv := bitOf w.toNat 25
  let slot := bitsOf w.toNat 24 21
  match (if fv then facetStall s t slot else .none) with
  | .empty => stallCycle s t (some (pgTFCT t, TFCT.STALL_EMPTY)) (slotsHeld x)
  | .credit => stallCycle s t (some (pgTFCT t, TFCT.STALL_CREDIT)) (slotsHeld x)
  | .none =>
    let pos := posOf s t
    let s := if replaying s pos then dropEntry s pos else s
    let s := modTile s t fun x =>
      { x with wait := none, pend := if isLevelLine line then x.pend else x.pend &&& ~~~(BitVec.ofNat 64 (2 ^ line)) }
    let s := logEntry s pos (plainEntry .waitev (x.retired + 1) 0 line)
    executed s t .waitev (bitsOf w.toNat 20 0) x.pc.toNat fv slot

/-- A waiting cycle of the WAITEV `w`: idle, with the stalls that the buses of the cycle before it cost (R87, R93, R129). -/
def waitCycle (s : State) (t : Nat) (w : Word) : State :=
  let x := tileOf s t
  let stalls := conflictStalls x.issued
  let s := noteHold s t (slotsHeld x) (eventWaits s t) 1
  let s := modTile s t fun x =>
    { linesDue (idleTile x) with wait := some w, stallRun := stalls, stallHit := false, issued := [] }
  let s := noteHold s t true (eventWaits s t) stalls
  pageCycles s t x.issued (1 + stalls)

/-- One tile cycle at the instruction word `w`, with the tile running (or stepped). Faults of R91, R97, R106, R110,
R116 and R117 come before the instruction, then stalls, then the executed cycle. -/
def tileCycle (s : State) (t : Nat) (w : Word) : State :=
  let s := feedReplay s t
  let x := tileOf s t
  let pc := x.pc.toNat
  if x.retired = 0xFFFFFFFF then stallCycle s t none (slotsHeld x)
  else if x.retPend then
    (match x.badFill with
     | some b => if b.1 + 1 = x.spilled then seqFault s t b.2.toNat pc else stallCycle s t (some (pgTSEQ t, TSEQ.SPILL_STALL)) true
     | none => stallCycle s t (some (pgTSEQ t, TSEQ.SPILL_STALL)) true)
  else if !(inProgram s t pc) then seqFault s t 0x14 pc
  else if !(fetchable s t) then seqFault s t 0x16 pc
  else
    let code := fetchCode s t
    let s := if (fetchHeld x).isSome then s else fetchAhead s t
    if isBad code then seqFault s t code pc
    else
      match legalOp x w with
      | none => seqFault s t 0x35 pc
      | some op =>
        let o := bitsOf w.toNat 20 0
        let fv := bitOf w.toNat 25
        let slot := bitsOf w.toNat 24 21
        let rf := ruleFault x op o pc
        if rf ≠ 0 then seqFault s t rf pc
        else if (match x.xfer with | some f => decide (f.left = 1 ∧ f.kind = 1) | none => false) && decide (freeWindows x = 0) then
          stallCycle s t (some (pgTSEQ t, TSEQ.SPILL_STALL)) true
        else if op = .waitev then
          (if waitEnds s t (o % 64) then waitDone s t w
           else waitCycle s t w)
        else
          match cycleStall s t op fv slot with
          | .empty => stallCycle s t (some (pgTFCT t, TFCT.STALL_EMPTY)) (slotsHeld x)
          | .credit => stallCycle s t (some (pgTFCT t, TFCT.STALL_CREDIT)) (slotsHeld x)
          | .none => executed s t op o pc fv slot

/-- A running tile takes the cycle of a sequencer command: not while it is halted, waits, is due to switch level, or
must first obey a log entry (R124 to R126, R132), nor while its clock is being switched (R244). Inside a repeat or a
delay slot a WAITEV's cycles are held off like every other (R124 against R129; DESIGN CHOICE, log 80). -/
def mayRun (s : State) (t : Nat) (op : SeqOp) : Bool :=
  let x := tileOf s t
  !x.halted && !(tileGated s t) && !(tileRetired s t) && (x.wait.isNone || decide (op = .waitev)) &&
  (slotsHeld x || x.retPend || decide (op = .repi) || decide (op = .repr) || (selected s t).isNone || replaying s (posOf s t)) &&
  replayAllows s t

end Sys2Proof.Machine
end

