-- ==== Sys2Proof/Machine/Sched.lean ====
section
/-! DEFINITION. The scheduler's level switch, timers and watchdogs, the spill engine, the paging engine and the
window register (R47 to R53, R113 to R118, R122 to R137). -/

namespace Sys2Proof.Machine
open Sys2Proof

/-! ### Level switches -/

/-- The instruction due is a REPI or REPR, whose own cycle is held off (R124). -/
def dueIsRep (s : State) (t : Nat) : Bool :=
  let x := tileOf s t
  inProgram s t x.pc.toNat && fetchable s t &&
    (match legalOp x (dueWord s t) with
     | some .repi | some .repr => true
     | _ => false)

/-- The line that the next cycle switches to: the selection (R123), or in replay the one that the log forces at this
count (R132, R273). -/
def dueLine (s : State) (t : Nat) : Option Nat :=
  let pos := posOf s t
  if replaying s pos then
    match nextEntry s pos with
    | some e => if e.kind = .switch ∧ e.retired = (tileOf s t).retired + 1 then some e.line else none
    | none => none
  else selected s t

/-- The switch cycle of R126, to the event of `line`. -/
def switchCycle (s : State) (t line : Nat) : State :=
  let x := linesDue (idleTile (tileOf s t))
  let pos := posOf s t
  let vec := getF s (pgTSCH t) (TSCH.EVT_TAB_VEC line)
  let lvl := getF s (pgTSCH t) (TSCH.EVT_TAB_LVL line)
  let retired := x.retired + 1
  let y := { x with wpos := (x.wpos + 1) % 12, resident := x.resident + 1 }
  let y := setSeqReg (setSeqReg y 8 (word x.pc.toNat)) 9 (word x.level.toNat)
  let words := x.issued ++ [vec]
  let lost := ((x.issued.eraseDups).filter fun w => w / 8192 == vec / 8192 && w != vec).length
  let stalls := conflictStalls words
  let y := { y with
    level := BitVec.ofNat 2 lvl, active := y.active ||| BitVec.ofNat 4 (2 ^ lvl), pc := addr16 vec, wait := none,
    retired := retired, issued := [], stallRun := stalls, stallHit := false, holdRun := 0, holdHit := false,
    pend := if isLevelLine line then y.pend else y.pend &&& ~~~(BitVec.ofNat 64 (2 ^ line)) }
  let s := fetchAhead (setTile s t y) t
  let s := if replaying s pos then dropEntry s pos else s
  let s := logEntry s pos (plainEntry .switch retired 0 line)
  let s := incF s (pgTSEQ t) TSEQ.FETCH_STALL lost
  let s := noteHold s t true (eventWaits s t) stalls
  pageCycles s t words (1 + stalls)

/-- A level switch (R126): nothing while the cycle is held off (R124); with no free window it waits for the spill
(R117), or halts the tile when 64 frames are spilled. -/
def levelSwitchAt (s : State) (t : Nat) : State :=
  let x := tileOf s t
  if x.halted || tileGated s t || slotsHeld x || x.retPend || dueIsRep s t || decide (x.retired = 0xFFFFFFFF) then s
  else
    match dueLine s t with
    | none => s
    | some line =>
      if freeWindows x = 0 then
        (if x.spilled = 64 then seqFault s t 0x63 x.pc.toNat
         else stallCycle s t (some (pgTSEQ t, TSEQ.SPILL_STALL)) true)
      else switchCycle s t line

/-! ### Timers and watchdogs -/

/-- Timer `n` of a tile reaches its compare value (R133), at a clock edge of the tile (R245). -/
def timerFire (s : State) (t n : Nat) : State :=
  let p := pgTSCH t
  let cmp := (regAt s p (TSCH.TMR_LO n).off).toNat + (regAt s p (TSCH.TMR_HI n).off).toNat * 2 ^ 32
  if bitOf (getF s p TSCH.TMR_STAT) n && decide (cmp ≤ s.tb.toNat) && !(tileGated s t) then
    modTile (setF s p TSCH.TMR_STAT (setBits (getF s p TSCH.TMR_STAT) n n 0)) t fun x => pulse x (34 + n)
  else s

/-- The hold-off watchdog reaches its limit (R130). -/
def holdoffFire (s : State) (t : Nat) : State :=
  let x := tileOf s t
  let lim := getF s (pgTSCH t) TSCH.HOLDOFF_LIMIT
  if lim ≠ 0 ∧ lim ≤ x.holdRun ∧ x.holdHit = false then
    raiseCause (errCount (modTile s t fun x => { pulse x 36 with holdHit := true }) (pgTSCH t)) (pgTSCH t) 0 0x41 0
  else s

/-- The stall watchdog reaches its limit (R131). -/
def stallFire (s : State) (t : Nat) : State :=
  let x := tileOf s t
  let lim := getF s (pgTSCH t) TSCH.STALL_LIMIT
  if lim ≠ 0 ∧ lim ≤ x.stallRun ∧ x.stallHit = false then
    raiseCause (errCount (modTile s t fun x => { pulse x 37 with stallHit := true }) (pgTSCH t)) (pgTSCH t) 1 0x42 0
  else s

/-! ### The spill engine -/

/-- First word of a spilled frame (R115). -/
def frameAddr (k : Nat) : Nat := 0xFC00 + 16 * k

/-- Spills the oldest resident frame (R115); the sixteen writes are one step. -/
def spillFrame (s : State) (t : Nat) : State :=
  let x := tileOf s t
  if freeWindows x < 2 ∧ x.spilled < 64 ∧ tileGated s t = false then
    if bankOn s t (frameAddr x.spilled) then
      let w := (x.wpos + 13 - x.resident) % 12
      let s := (List.range 16).foldl
        (fun s k => (storeTileWord s t (frameAddr x.spilled + k) (look 0 x.ring (16 * w + k)) 15 0 false 6).1) s
      modTile s t fun x => { x with spilled := x.spilled + 1, resident := x.resident - 1 }
    else seqFault s t 0x16 x.pc.toNat
  else s

/-- Reads the words of a frame up to a bad one: words, and its code (R116). -/
def readFrame : Nat → State → Nat → Nat → List Word → List Word × Nat × State
  | 0, s, _, _, ws => (ws, 0, s)
  | n + 1, s, t, a, ws =>
    let r := arrayRead s t a 6
    if isBad r.2.1 then (ws, r.2.1, r.2.2) else readFrame n r.2.2 t (a + 1) (ws ++ [r.1])

/-- A fill of frame `k` has ended on a bad word since the tile last resumed (R116). -/
def fillBarred (x : Tile) (k : Nat) : Bool := x.badFill.any fun b => b.1 == k

/-- Fills frame `SPILLED` − 1 back (R116); the sixteen reads are one step. -/
def fillFrame (s : State) (t : Nat) : State :=
  let x := tileOf s t
  if 4 ≤ freeWindows x ∧ 0 < x.spilled ∧ fillBarred x (x.spilled - 1) = false ∧ tileGated s t = false then
    if bankOn s t (frameAddr (x.spilled - 1)) then
      let r := readFrame 16 s t (frameAddr (x.spilled - 1)) []
      if r.2.1 ≠ 0 then modTile r.2.2 t fun x => { x with badFill := some (x.spilled - 1, BitVec.ofNat 8 r.2.1) }
      else
        let w := if x.retPend then x.wpos else (x.wpos + 12 - x.resident) % 12
        modTile r.2.2 t fun x =>
          { x with
            ring := r.1.zipIdx.foldl (fun m y => put 0 m (16 * w + y.2) y.1) x.ring
            spilled := x.spilled - 1, retPend := false
            resident := if x.retPend then 1 else x.resident + 1 }
    else seqFault s t 0x16 x.pc.toNat
  else s

/-! ### Paging -/

/-- Keeps what the last paging command ended with, and pulses the page-done line (R52). -/
def pageEnd (s : State) (t set slot code detail : Nat) : State :=
  let p := pgTFCT t
  let s := setF (setF (setF s p TFCT.PAGE_STAT_LASTSET set) p TFCT.PAGE_STAT_LASTSLOT slot) p TFCT.PAGE_STAT_LASTCODE code
  let s := modTile s t fun x => pulse x 32
  if code = 0 then s else refuseAt s p code detail

/-- A write of `TFCT.PAGE_CMD` (R47, R52, R54). -/
def pageCmd (s : State) (t : Nat) (v : Word) : State :=
  let p := pgTFCT t
  match bitsOf v.toNat 31 30 with
  | 1 =>
    if (tileOf s t).pageQ.length < 4 then
      modTile s t fun x => { x with pageQ := x.pageQ ++ [(BitVec.ofNat 8 (bitsOf v.toNat 23 16), Fin.ofNat 16 v.toNat)] }
    else refuseAt (setF s p TFCT.PAGE_STAT_OVF 1) p 0x62 0
  | 2 => modTile s t fun x => { x with pageQ := [] }
  | _ => errCount s p

/-- A paging command leaves the queue (R48): refused at once when its set is not in the store, else the engine begins to
read its 80 words, two in each tile cycle (`pageCycle`). -/
def pageStart (s : State) (t : Nat) : State :=
  let x := tileOf s t
  match x.pageRun, x.pageQ with
  | none, (set, slot) :: rest =>
    let s := setTile s t { x with pageQ := rest }
    if getF s (pgTFCT t) TFCT.STORE_CFG ≤ set.toNat then pageEnd s t set.toNat slot.val 0x72 0
    else modTile s t fun x => { x with pageRun := some ⟨set, slot, [], 0, 0⟩ }
  | _, _ => s

/-- Installs a set in a slot. -/
def fillSlot (x : Tile) (set : Byte) (slot : Nat) (ws : List Word) : Tile :=
  { x with
    slots := ws.zipIdx.foldl (fun m y => put 0 m (80 * slot + y.2) y.1) x.slots
    slotSet := put 0 x.slotSet slot set }

/-- The whole of a set as the paging engine reads it. -/
def readSet (s : State) (t : Nat) (set : Byte) : PageRun × State := pageWords 80 s t ⟨set, 0, [], 0, 0⟩

/-- The store reads that are left of the running command. -/
def pageFinish (s : State) (t : Nat) : State :=
  match (tileOf s t).pageRun with
  | none => s
  | some r => let x := pageWords 80 s t r; modTile x.2 t fun y => { y with pageRun := some x.1 }

/-- The check and the commit of the running command (R48, R50, R52). In replay the commit waits for its count, and while the
tile is gated nothing of it changes (R245). A set with
a read that failed ends with the code of that read, valid or not (DESIGN CHOICE, log 71). -/
def pageCommitAt (s : State) (t : Nat) : State :=
  let s := if tileGated s t then s else pageFinish s t
  let x := tileOf s t
  let pos := posOf s t
  match (if tileGated s t then none else x.pageRun) with
  | none => s
  | some r =>
    let ok := setValid s pos (fun w => r.words.getD w 0)
    if r.code ≠ 0 then pageEnd (setTile s t { x with pageRun := none }) t r.set.toNat r.slot.val r.code.toNat
      (bankAddr pos r.addr.toNat % 2 ^ 32)
    else if !ok then pageEnd (setTile s t { x with pageRun := none }) t r.set.toNat r.slot.val 0x72 0
    else
      let wait := replaying s pos && !((nextEntry s pos).any fun e => e.kind = .commit && e.retired == x.retired)
      if wait then s
      else
        let s := setTile s t (fillSlot { x with pageRun := none } r.set r.slot.val r.words)
        let s := if replaying s pos then dropEntry s pos else s
        let s := logEntry s pos (plainEntry .commit x.retired 0 r.slot.val)
        pageEnd s t r.set.toNat r.slot.val 0 0

/-! ### The window register -/

/-- The item of a cell (R137): its word, or `none` for NOITEM. -/
def winItem (x : Tile) (cell level item : Nat) : Option Word :=
  let c := look Cell.init x.cells cell
  let acc := fun (k : Nat) =>
    if cellType cell = .mac then
      let a := look Acc.zero c.acc (2 * level + (k - 9) / 3)
      (match (k - 9) % 3 with
       | 0 => some (word a.val.toNat)
       | 1 => some (word (a.val.toNat / 2 ^ 32))
       | _ => some (word (bitsOf a.val.toNat 79 64 + b2n a.err * 2 ^ 16 + b2n a.late * 2 ^ 17)))
    else none
  let out := fun (o : Out) (tag : Bool) => if tag then word (tagsOf o.tok + 16 * b2n o.valid) else o.tok.data
  if item < 8 then some (look 0 c.v (8 * level + item))
  else if item = 8 then some (word (flgToNat (look Flg.zero c.fl level)))
  else if item < 0xF then acc item
  else match item with
    | 0x10 => if cellType cell = .alu then some c.srch.ext else none
    | 0x11 => if cellType cell = .alu then some c.srch.pos else none
    | 0x12 => if cellType cell = .alu then some c.srch.idx else none
    | 0x13 => if cellType cell = .alu then some (word (b2n c.srch.empty + 2 * b2n c.srch.errs + 4 * b2n c.srch.lates)) else none
    | 0x14 => some (out c.o false)
    | 0x15 => some (out c.o true)
    | 0x16 => some (out c.q false)
    | 0x17 => some (out c.q true)
    | _ => none

/-- A cell with an item that the cell type has written (R137). -/
def winSet (c : Cell) (level item : Nat) (v : Word) : Cell :=
  let acc := fun (k : Nat) =>
    let key := 2 * level + (k - 9) / 3
    let a := look Acc.zero c.acc key
    let a := match (k - 9) % 3 with
      | 0 => { a with val := BitVec.ofNat 80 (setBits a.val.toNat 31 0 v.toNat) }
      | 1 => { a with val := BitVec.ofNat 80 (setBits a.val.toNat 63 32 v.toNat) }
      | _ => ⟨BitVec.ofNat 80 (setBits a.val.toNat 79 64 v.toNat), bitOf v.toNat 16, bitOf v.toNat 17⟩
    { c with acc := put Acc.zero c.acc key a }
  if item < 8 then { c with v := put 0 c.v (8 * level + item) v }
  else if item = 8 then { c with fl := put Flg.zero c.fl level (flgOfNat (v.toNat % 16)) }
  else if item < 0xF then acc item
  else match item with
    | 0x10 => { c with srch := { c.srch with ext := v } }
    | 0x11 => { c with srch := { c.srch with pos := v } }
    | 0x12 => { c with srch := { c.srch with idx := v } }
    | 0x13 => { c with srch := { c.srch with empty := bitOf v.toNat 0, errs := bitOf v.toNat 1, lates := bitOf v.toNat 2 } }
    | _ => c

/-- A write of the item that `a` (a value of `WIN_ADDR`) names (R134 to R136): 0 OK, 1 BUSY, 2 NOITEM. -/
def winWriteItem (s : State) (t : Nat) (a : Nat) (v : Word) : Nat × State :=
  let x := tileOf s t
  let cell := bitsOf a 15 12
  let level := bitsOf a 9 8
  let item := bitsOf a 4 0
  if (winItem x cell level item).isNone || decide (0x14 ≤ item) then (2, s)
  else if !x.halted && decide (item = 0x10 ∨ item = 0x11 ∨ item = 0x12 ∨ item = 0x13 ∨ level = x.level.toNat) then (1, s)
  else (0, setTile s t { x with cells := put Cell.init x.cells cell (winSet (look Cell.init x.cells cell) level item v) })

/-- A write of `TSCH.WIN_DATA` (R134 to R136), logged for a protected tile when it takes effect (R273). -/
def winWrite (s : State) (t : Nat) (v : Word) : State :=
  let p := pgTSCH t
  let a := (regAt s p TSCH.WIN_ADDR_ITEM.off).toNat
  let r := winWriteItem s t a v
  let s := setF r.2 p TSCH.WIN_STAT r.1
  if r.1 = 0 then
    logEntry (setF s p TSCH.WIN_DATA v.toNat) (posOf s t)
      ⟨.extwr, false, 2, 15, a, (tileOf s t).retired, v, 0, 0⟩
  else errCount s p

/-- A read of `TSCH.WIN_DATA` (R134, R136). -/
def winRead (s : State) (t : Nat) : Word × State :=
  let p := pgTSCH t
  let a := (regAt s p TSCH.WIN_ADDR_ITEM.off).toNat
  match winItem (tileOf s t) (bitsOf a 15 12) (bitsOf a 9 8) (bitsOf a 4 0) with
  | some w => (w, setF s p TSCH.WIN_STAT 0)
  | none => (0, setF s p TSCH.WIN_STAT 2)

/-! ### Software lines and halts -/

/-- A write of `TSCH.SWEVT` (R120). -/
def swevtWrite (s : State) (t : Nat) (v : Word) : State :=
  modTile s t fun x => { x with pend := x.pend ||| BitVec.ofNat 64 (v.toNat % 2 ^ 24 * 2 ^ 40) }

/-- A write of `TSCH.PENDn`: clears the edge lines written 1 (R121). -/
def pendClear (s : State) (t n : Nat) (v : Word) : State :=
  modTile s t fun x => { x with pend := x.pend &&& ~~~(BitVec.ofNat 64 (v.toNat * 2 ^ (32 * n))) }

/-- A write of `TMRn_HI` (R133). -/
def timerArmAt (s : State) (t n : Nat) (v : Word) : State :=
  let p := pgTSCH t
  let s := setRegAt s p (TSCH.TMR_HI n).off v
  setF s p TSCH.TMR_STAT (setBits (getF s p TSCH.TMR_STAT) n n 1)

/-- Halts a tile from outside at the end of the current cycle (R138 CTRL). -/
def haltTile (s : State) (t : Nat) : State := modTile s t haltNow

/-- A halted tile goes on. -/
def goOn (x : Tile) : Tile := { x with halted := false, faulted := false, badFill := none, stallRun := 0, stallHit := false }

/-- Resumes a tile at its program counter (R118, R138); a bad fill may run again (R116). -/
def resumeTile (s : State) (t : Nat) : State :=
  modTile s t goOn

/-- One cycle of a halted tile at the word at its program counter, then halted again (R138). -/
def stepOnce (s : State) (t : Nat) : State :=
  let s := modTile s t fun x => { goOn x with stepDue := false }
  haltTile (tileCycle s t (dueWord s t)) t

/-- `CTRL.STEP` on a halted tile: one cycle, which waits for the clock of a gated tile (R138, R244). -/
def stepTile (s : State) (t : Nat) : State :=
  if !(tileOf s t).halted then errCount s (pgTSEQ t)
  else if tileGated s t then modTile s t fun x => { x with stepDue := true, faulted := false }
  else stepOnce s t

/-- A write of `TSEQ.CTRL` (R138). -/
def seqCtrlWrite (s : State) (t : Nat) (v : Word) : State :=
  if bitOf v.toNat 1 then stepTile s t
  else if bitOf v.toNat 0 then haltTile s t
  else resumeTile s t

end Sys2Proof.Machine
end

