-- ==== Sys2Proof/Machine/Memory.lean ====
section
/-! DEFINITION. Power states of banks, the polisher, ECC write-back, the starvation watchdog, locks and semaphores
(chapter 05). -/

namespace Sys2Proof.Machine
open Sys2Proof

/-! ### Power (R160 to R163, R320, R321) -/

/-- Key of a bank: its page and number (tile banks by physical tile). -/
def bankKey (p b : Nat) : Nat := 16 * p + b

/-- State and storage of bank `b` of a banks page (`TBNK`) or memory page (`RMEM`). -/
def anyBankState (s : State) (p b : Nat) : Nat :=
  if 0x400 ≤ p then bankState s ((p - 0x400) / 4) b else rbankState s ((p - 0x200) / 8) b

def setAnyBankState (s : State) (p b v : Nat) : State :=
  if 0x400 ≤ p then setBankState s ((p - 0x400) / 4) b v else setRbankState s ((p - 0x200) / 8) b v

/-- First storage address of bank `b` of a banks page or memory page. -/
def anyBankBase (s : State) (p b : Nat) : Nat :=
  if 0x400 ≤ p then bankAddr ((p - 0x400) / 4) (8192 * b) else rmemStore s ((p - 0x200) / 8) (0x20000 * b)

def anyBankSize (p : Nat) : Nat := if 0x400 ≤ p then 0x8000 else 0x20000

/-- Every word of a range holds 0 with correct check bits (R161). -/
def clearRange (s : State) (a n : Nat) : State :=
  let out {α : Type} (x : Nat × α) : Bool := decide (x.1 < a) || decide (a + n ≤ x.1)
  { s with mem := s.mem.filter out, marks := s.marks.filter out, wback := s.wback.filter out }

def polishOf (s : State) (r : Nat) : Polish := look Polish.init s.polish r

/-- Bank of a block number: page and bank. The spare's blocks are those of the logical bank that it serves, and of bank 16,
which no page names, while it serves none (R164). -/
def blockBank (s : State) (r k : Nat) : Nat × Nat :=
  if k < 16384 then (pgTBNK (16 * r + k / 1024), k % 1024 / 128)
  else
    let p := (k - 16384) / 512
    (pgRMEM r, if p = 16 && flagF s (pgRMEM r) RMEM.SPARE_MAP_USED then getF s (pgRMEM r) RMEM.SPARE_MAP_LBANK else p)

/-- A block's bank is ON and not retired, and the block belongs to a physical bank in use (R164). -/
def blockOn (s : State) (r k : Nat) : Bool :=
  let q := blockBank s r k
  if k < 16384 then anyBankState s q.1 q.2 == 2 && !(tileRetired s (16 * r + k / 1024))
  else
    let used := flagF s (pgRMEM r) RMEM.SPARE_MAP_USED
    let lb := getF s (pgRMEM r) RMEM.SPARE_MAP_LBANK
    let p := (k - 16384) / 512
    if p = 16 then (!used || rbankState s r lb == 2)
    else rbankState s r p == 2 && !(bitOf (getF s (pgRMEM r) RMEM.SPARE_MAP_RETIRED) p) && !(used && lb == p)

/-- A block's bank is changing its power state. -/
def blockTrans (s : State) (r k : Nat) : Bool :=
  let q := blockBank s r k
  decide (q.2 < 16) && anyBankState s q.1 q.2 == 3

/-- First block of the next bank after block `k`'s. -/
def nextBankStart (k : Nat) : Nat := if k < 16384 then (k / 128 + 1) * 128 else (k / 512 + 1) * 512

/-- The next block to visit from `k` on in this pass, if any (R164). -/
def seekBlock (s : State) (r : Nat) : Nat → Nat → Option Nat
  | 0, _ => none
  | fuel + 1, k =>
    if 25088 ≤ k then none
    else if blockOn s r k || blockTrans s r k then some k
    else seekBlock s r fuel (nextBankStart k)

/-- The polisher step in progress acts on this bank. -/
def polishing (s : State) (p b : Nat) : Bool :=
  let r := if 0x400 ≤ p then (p - 0x400) / 64 else (p - 0x200) / 8
  (polishOf s r).running && blockBank s r (getF s (pgRMEM r) RMEM.POLISH_POS) == (p, b)

/-- A bank holds facet-store or program-area words of its tile, or is bank 7 (R163). -/
def tileBankNeeded (s : State) (t b : Nat) : Bool :=
  let base := getF s (pgTSEQ t) TSEQ.PROG_CFG_BASE
  let len := getF s (pgTSEQ t) TSEQ.PROG_CFG_LEN
  b == 7 || (decide (b < 4) && decide (0 < getF s (pgTFCT t) TFCT.STORE_CFG)) ||
    (decide (0 < len) && decide (base < 8192 * (b + 1)) && decide (8192 * b < base + len))

/-- A recovery that has not ended moves the work of physical tile `t`, or moves work onto it (R283, R320). -/
def migrating (s : State) (t : Nat) : Bool :=
  (List.range 16).any fun l =>
    let q := 16 * (t / 16) + l
    (actOf s q).any fun x => x.action == 1 && (decide (t % 16 = 15) || serves s q == .tile t)

/-- What another activity makes of a power command (R320). -/
inductive Interlock where
  | free | queue | busy
  deriving DecidableEq, Repr

def powerLock (s : State) (p b : Nat) : Interlock :=
  if anyBankState s p b = 3 then .busy
  else if 0x400 ≤ p then
    let t := (p - 0x400) / 4
    let pos := posOf s t
    if migrating s t || recovering s pos then .busy
    else if polishing s p b || (protOf s pos).capture.isSome || (tileOf s t).pageRun.isSome then .queue
    else .free
  else if look 0 s.spareCopy ((p - 0x200) / 8) = b + 1 then .busy
  else if polishing s p b then .queue
  else .free

def pwrResult (s : State) (p b code : Nat) : State :=
  if 0x400 ≤ p then setF (setF s p TBNK.PWR_RESULT_LASTBANK b) p TBNK.PWR_RESULT_LASTCODE code
  else setF (setF s p RMEM.PWR_RESULT_LASTBANK b) p RMEM.PWR_RESULT_LASTCODE code

/-- A refused power command (R163). -/
def pwrRefuse (s : State) (p b code : Nat) : State := refuseAt (pwrResult s p b code) p code 0

/-- Puts a bank into TRANS toward a state (R161). -/
def pwrStart (s : State) (p b target : Nat) : State :=
  if anyBankState s p b = target then s
  else setAnyBankState { s with pwrTo := put 0 s.pwrTo (bankKey p b) (target + 1) } p b 3

/-- A power command: bank `b` of page `p` to 0 OFF, 1 RET or 2 ON (R161, R163). -/
def pwrCmd (s : State) (p b target : Nat) : State :=
  let retired := decide (p < 0x400) && bitOf (getF s p RMEM.SPARE_MAP_RETIRED) b
  let held :=
    if 0x400 ≤ p then tileBankNeeded s ((p - 0x400) / 4) b && !(tileOf s ((p - 0x400) / 4)).halted
    else isJournalBank s ((p - 0x200) / 8) b
  if target = 3 then errCount s p
  else if retired then pwrRefuse s p b 0x15
  else if held then pwrRefuse s p b 0x66
  else if anyBankState s p b = 0 ∧ target = 1 then pwrRefuse s p b 0x66
  else
    match powerLock s p b with
    | .busy => pwrRefuse s p b 0x54
    | .queue =>
      if look 0 s.pwrQ (bankKey p b) ≠ 0 then pwrRefuse s p b 0x54
      else raiseOpt (pwrResult { s with pwrQ := put 0 s.pwrQ (bankKey p b) (target + 1) } p b 0) p 4 0x55 0
    | .free => pwrStart (pwrResult s p b 0) p b target

/-- Starts the power commands of a page that waited, where nothing holds them any longer (R163, R321). -/
def pwrRelease (s : State) (p : Nat) : State :=
  (List.range 16).foldl (fun s b =>
    let q := look 0 s.pwrQ (bankKey p b)
    if q ≠ 0 ∧ powerLock s p b = .free then pwrStart { s with pwrQ := put 0 s.pwrQ (bankKey p b) 0 } p b (q - 1) else s) s

/-- A bank reaches its new state (R161). -/
def bankReached (s : State) (p b : Nat) : State :=
  let q := look 0 s.pwrTo (bankKey p b)
  if anyBankState s p b = 3 ∧ q ≠ 0 then
    let s := { s with pwrTo := put 0 s.pwrTo (bankKey p b) 0 }
    let s := setAnyBankState s p b (q - 1)
    let s := if q = 1 then clearRange s (anyBankBase s p b) (anyBankSize p) else s
    pwrRelease s p
  else s

/-- A bank of the tile is changing its power state, which holds paging and capture back (R320). -/
def tileBankTrans (s : State) (t : Nat) : Bool := (List.range 8).any fun b => bankState s t b == 3

/-- The physical page that a banks or memory page index reaches. -/
def physPage (s : State) (p : Nat) : Option Nat :=
  match blkOf p with
  | some (.tseq, pos) | some (.tfct, pos) | some (.tsch, pos) | some (.tbnk, pos) =>
    (match serves s pos with
     | .tile t => some (0x400 + 4 * t + p % 4)
     | _ => none)
  | some _ => some p
  | none => none

/-- The page index and number of a bank that a command names. -/
def refPage : BankRef → Nat
  | .tile pos _ => pgTBNK pos.val
  | .region r _ => pgRMEM r.val
def refBank : BankRef → Nat
  | .tile _ b => b.val
  | .region _ b => b.val

/-! ### The polisher (R164 to R167) -/

/-- The words of a block by storage address. -/
def blockWords (s : State) (r k : Nat) : List Nat :=
  let q := blockBank s r k
  let o := if k < 16384 then k % 128 else (k - 16384) % 512
  let base := if q.2 = 16 then spareAddr r 0 else anyBankBase s q.1 q.2
  (List.range 64).map fun i => base + 256 * o + 4 * i

/-- Where a block's words are reported. -/
def blockPlace (s : State) (r k a : Nat) : Place :=
  if k < 16384 then .bank (posOf s (16 * r + k / 1024)) (a % 0x40000)
  else .rmem r (0x20000 * (blockBank s r k).2 + a % 0x20000)

/-- Saves and restores one word: a checked read, corrected, and poisoned when it is bad (R165). -/
def polishWord (s : State) (r k a : Nat) : State :=
  match markAt s a with
  | .clean => s
  | .corr => setMark { eccNote s (blockPlace s r k a) a a with wback := put 0 s.wback a 0 } a .clean
  | _ => setMark (eccNote s (blockPlace s r k a) a a) a .poison

/-- The block lies in a bank that is being copied, or in a tile of a migration, for which a polisher step waits (R320). -/
def blockMoves (s : State) (r k : Nat) : Bool :=
  if k < 16384 then migrating s (16 * r + k / 1024)
  else
    let c := look 0 s.spareCopy r
    decide (c ≠ 0) && (decide ((k - 16384) / 512 = 16) || (blockBank s r k).2 == c - 1)

/-- A polisher step starts: the next block is saved; the words stay readable and writable through the save buffer
(R166), so their storage holds them throughout. -/
def polishStart (s : State) (r : Nat) : State :=
  let p := pgRMEM r
  let x := polishOf s r
  if !(flagF s p RMEM.POLISH_CFG_EN) || x.running then s
  else
    let from_ := if x.started then getF s p RMEM.POLISH_POS + 1 else 0
    let go (s : State) (k : Nat) : State :=
      if blockTrans s r k || blockMoves s r k then s
      else
        let s := { setF s p RMEM.POLISH_POS k with polish := put Polish.init s.polish r ⟨true, true⟩ }
        (blockWords s r k).foldl (fun s a => polishWord s r k a) s
    match seekBlock s r 160 from_ with
    | some k => go s k
    | none =>
      match seekBlock s r 160 0 with
      | some k => go s k
      | none => s

/-- The detail of a mismatch (R501): `bits` are the failing bits of word `w` of the block. -/
def polishDetail (k w bits : Nat) : Nat :=
  min 31 (popCount 39 bits) * 2 ^ 27 + (lowestFrom 39 0 bits).getD 0 * 2 ^ 21 + w * 2 ^ 15 + k

/-- The save buffer is restored; failing bits of the test, if any, are counted and reported (R167). A pass is complete
with the last block that it visits (R164). -/
def polishDone (s : State) (r w bits : Nat) : State :=
  let p := pgRMEM r
  if (polishOf s r).running then
    let k := getF s p RMEM.POLISH_POS
    let s := { s with polish := put Polish.init s.polish r ⟨true, false⟩ }
    let s := if bits ≠ 0 then 
      raiseEv (keepDetail (incF s p RMEM.POLISH_FAIL 1) (blockBank s r k).1 (polishDetail k w bits)) p 0x24 (polishDetail k w bits) else s
    let s := if (seekBlock s r 160 (k + 1)).isNone then incF s p RMEM.POLISH_PASS 1 else s
    pwrRelease s (blockBank s r k).1
  else s

/-! ### Write-back and starvation -/

/-- The write-back of a corrected word (R147): dropped if a write came first. -/
def writeBack (s : State) (a : Nat) : State :=
  if look 0 s.wback a = 0 then s
  else
    let s := { s with wback := put 0 s.wback a 0 }
    if markAt s a = .corr then setMark s a .clean else s

/-- A region-path request to bank `b` of a physical tile that has waited `waited` bank cycles waits `n` more: the wait is
counted, and reported once when it reaches the limit (R153). -/
def starve (s : State) (t b waited n : Nat) : State :=
  let p := pgTBNK t
  let lim := getF s p TBNK.STARVE_LIMIT
  let s := maxF (incF s p (TBNK.STARVE b) n) p TBNK.STARVE_MAX (waited + n)
  if lim ≠ 0 ∧ waited < lim ∧ lim ≤ waited + n then raiseEv (errCount s p) p 0x43 0 else s

/-- The region-path request that has waited longest at bank `b` of the position that physical tile `t` serves: a request
that stands at its target interface, with its index. -/
def starving (s : State) (t b : Nat) : Option (Pkt × Nat) :=
  s.net.zipIdx.find? fun x => x.1.arrived && x.1.cls == .req &&
    (match placeOf x.1.addr with
     | .bank pos off => serves s pos == .tile t && off / 0x8000 == b
     | _ => false)

/-- That request waits `n` bank cycles more, in each of which the bank serves requesters of lower rank numbers (R152,
R153). -/
def starveCmd (s : State) (t b n : Nat) : State :=
  match starving s t b with
  | some (k, i) => starve { s with net := s.net.set i { k with waited := k.waited + n } } t b k.waited n
  | none => s

/-! ### Locks and semaphores (R171 to R173, R485) -/


/-- A lock word after a command, or `none` when the command is refused (R171). -/
def lockNext (w : Word) (cmd src : Nat) : Option Word :=
  let st := bitsOf w.toNat 31 30
  let orph := bitsOf w.toNat 29 29
  let owner := bitsOf w.toNat 9 0
  let mk (st orph owner : Nat) : Option Word := some (word (st * 2 ^ 30 + orph * 2 ^ 29 + owner))
  if cmd = 1 then
    (if st = 0 then mk 1 0 src else if st = 2 then mk 1 1 src else some w)
  else if cmd = 2 ∧ isAssayerId src = true then mk 0 0 owner
  else if cmd = 2 ∧ st = 1 ∧ owner = src then (if orph = 0 then mk 0 0 owner else mk 2 1 owner)
  else if cmd = 3 ∧ st = 1 ∧ owner = src then mk 1 0 owner
  else none

/-- A command to lock `n` of a region (R171). -/
def lockCmd (s : State) (r n cmd src : Nat) : State :=
  let p := pgRMEM r
  if cmd = 0 then s
  else
    match lockNext (regAt s p (RMEM.LOCK_STATE n).off) cmd src with
    | some w => setRegAt s p (RMEM.LOCK_STATE n).off w
    | none => raiseOpt (errCount s p) p 2 0x37 0

/-- A command to a page's `OWNER` lock (R485). -/
def ownerCmd (s : State) (p cmd src : Nat) : State :=
  if cmd = 0 then s
  else
    match lockNext (regAt s p HDR.OWNER.off) cmd src with
    | some w => setRegAt s p HDR.OWNER.off w
    | none => errCount s p

/-- A held lock of the initiator `src` moves to ORPHANED, with its event (R172). -/
def orphanAt (s : State) (p off src n : Nat) : State :=
  let w := regAt s p off
  if bitsOf w.toNat 31 30 = 1 ∧ bitsOf w.toNat 9 0 = src then
    raiseEv (setRegAt s p off (word (2 * 2 ^ 30 + 2 ^ 29 + src))) p 0x53 n
  else s

/-- Page indices whose `OWNER` an initiator can hold, ascending. -/
def allPages : List Nat := (List.range 4096).filter fun p => (blkOf p).isSome

/-- Every lock held by an initiator that is reset moves to ORPHANED (R172). -/
def orphanLocks (s : State) (src : Nat) : State :=
  let s := (List.range 16).foldl (fun s r =>
    (List.range 32).foldl (fun s n => orphanAt s (pgRMEM r) (RMEM.LOCK_STATE n).off src n) s) s
  (s.regs.filter fun x => x.1 % 1024 == 8).foldl (fun s x => orphanAt s (x.1 / 1024) HDR.OWNER.off src 0xFFFFFFFF) s

/-- The bit of semaphore `n`, and the state after a read of it (R173). -/
def semRead (s : State) (r n : Nat) : Word × State :=
  (word (getF s (pgRMEM r) (RMEM.SEM_TAKE n)), setF s (pgRMEM r) (RMEM.SEM_TAKE n) 0)

/-- A write of `RMEM.SEM_GIVE` (R173). -/
def semGiveWrite (s : State) (r : Nat) (v : Word) : State :=
  (List.range 32).foldl (fun s n => if bitOf v.toNat n then setF s (pgRMEM r) (RMEM.SEM_TAKE n) 1 else s) s

/-- The data that the last read command returned, as its bytes. -/
def setRead (s : State) (bs : List Byte) : State := { s with lastRead := bs }

/-! ### The commands of this chapter -/

/-- ECC_WRITE_BACK: `a` is the storage address of the word (tile banks by physical tile). -/
def execEccWriteBack (a : BitVec 48) (s : State) : Host.Outcome State Fault Refusal := .next (writeBack s a.toNat)

/-- STARVE_LIMIT: the oldest request of the region path at a bank, the first part of `bank`, waits as many bank cycles more as its
second part says (log 82). -/
def execStarveLimit (t : TileN) (bank : Fin 8 × BitVec 32) (s : State) : Host.Outcome State Fault Refusal :=
  .next (starveCmd s t.val bank.1.val bank.2.toNat)

/-- BANK_STATE_REACHED. -/
def execBankStateReached (page : BankPage) (bank : Fin 16) (s : State) : Host.Outcome State Fault Refusal :=
  let k := page.ref bank
  .next (match physPage s (refPage k) with
    | some q => bankReached s q (refBank k)
    | none => s)

/-- POLISHER_STEP. -/
def execPolisherStep (r : RegN) (s : State) : Host.Outcome State Fault Refusal := .next (whenReleased (fun s => polishStart s r.val) s)

/-- POLISHER_STEP_DONE: `bits` are the failing bits that the test found in word `w`, none when it passed. -/
def execPolisherStepDone (r : RegN) (w : Fin 64) (bits : BitVec 39) (s : State) : Host.Outcome State Fault Refusal :=
  .next (whenReleased (fun s => polishDone s r.val w.val bits.toNat) s)

/-- ACQUIRE. -/
def execAcquire (r : RegN) (n : Fin 32) (src : BitVec 10) (s : State) : Host.Outcome State Fault Refusal :=
  .next (regCmd (pgRMEM r.val) (RMEM.LOCK_CMD n.val).off (word (1 * 2 ^ 24)) src.toNat (fun s => lockCmd s r.val n.val 1 src.toNat) s)

/-- RELEASE. -/
def execRelease (r : RegN) (n : Fin 32) (src : BitVec 10) (s : State) : Host.Outcome State Fault Refusal :=
  .next (regCmd (pgRMEM r.val) (RMEM.LOCK_CMD n.val).off (word (2 * 2 ^ 24)) src.toNat (fun s => lockCmd s r.val n.val 2 src.toNat) s)

/-- CLRORPH. -/
def execClrorph (r : RegN) (n : Fin 32) (src : BitVec 10) (s : State) : Host.Outcome State Fault Refusal :=
  .next (regCmd (pgRMEM r.val) (RMEM.LOCK_CMD n.val).off (word (3 * 2 ^ 24)) src.toNat (fun s => lockCmd s r.val n.val 3 src.toNat) s)

/-- SEM_TAKE. -/
def execSemTake (r : RegN) (n : Fin 32) (s : State) : Host.Outcome State Fault Refusal :=
  let x := semRead s r.val n.val
  .next (setRead x.2 (toBytes 4 x.1.toNat))

/-- SEM_GIVE. -/
def execSemGive (r : RegN) (v : Word) (s : State) : Host.Outcome State Fault Refusal := .next (regCmd (pgRMEM r.val) RMEM.SEM_GIVE.off v hostSrc (fun s => semGiveWrite s r.val v) s)

end Sys2Proof.Machine
end

