-- ==== Sys2Proof/Machine/Access.lean ====
section
/-! DEFINITION. An access of up to one 64-byte block as its target in memory performs it (R20 to R22, R144 to R149,
R162, R210, R268, R273, R445). -/

namespace Sys2Proof.Machine
open Sys2Proof

/-- The first of two codes that is not 0. -/
def firstCode (a b : Nat) : Nat := if a ≠ 0 then a else b

/-- First byte of the locket area, and the byte after it (R277). -/
def locketBase (s : State) : Nat := getF s pgDACW DACW.LKT_BASE * 2 ^ 20
def locketEnd (s : State) : Nat := locketBase s + 256 * 0x88000

/-- A write by `src` meets a reserved area (R268). -/
def reservedFor (s : State) (src : Nat) : Place → Bool
  | .lpddr a => !(isAssayerId src) && decide (locketBase s ≤ a) && decide (a < locketEnd s)
  | .rmem r off => !(isAssayerId src) && isJournalBank s r (off / 0x20000)
  | _ => false

/-- The position that a place belongs to. -/
def placePos : Place → Option Nat
  | .bank pos _ => some pos
  | .page p _ => if 0x400 ≤ p ∧ p < 0x800 then some ((p - 0x400) / 4) else none
  | _ => none

/-- Accesses to a position that is being recovered wait until its replay ends (R275); the loupe's do not. -/
def placeHeld (s : State) (src : Nat) (pl : Place) : Bool :=
  match placePos pl with
  | some pos => recovering s pos && src != 0x232
  | none => false

/-- An access to position `pos` that a recovery held and that arrived before the one with number `n` has still to be released
(R275). -/
def earlierHeld (s : State) (pos n : Nat) : Bool :=
  decide (n < (protOf s pos).horizon) &&
    ((s.net.any fun k => k.arrived && k.cls == .req && placePos (placeOf k.addr) == some pos && decide (k.arrival < n)) ||
     s.heldW.any fun w => pagePos w.page == some pos && decide (w.arrival < n))

/-- A request at its target waits for a recovery, or for accesses that the recovery held before it (R275). -/
def reqHeld (s : State) (k : Pkt) : Bool :=
  placeHeld s k.src (placeOf k.addr) || (placePos (placeOf k.addr)).any fun pos => earlierHeld s pos k.arrival

/-- Before WR_EN a write waits at its target (R342). -/
def writeWaits (s : State) (src : Nat) (pl : Place) : Bool :=
  !s.writesOpen && !(isAssayerId src) &&
    (match pl with
     | .page p _ => !(openPage p)
     | .bad _ => false
     | _ => true)

/-- Keys of the stored words that `n` bytes from storage address `a` touch. -/
def touched (a n : Nat) : List Nat := ((List.range n).map fun i => wordKey (a + i)).eraseDups

/-- The code with which a read of the words at `keys` answers (R146, R148): the first bad word's. -/
def readCode (s : State) (keys : List Nat) : Nat :=
  keys.foldl (fun c k => firstCode c (if isBad (markCode (markAt s k)) then markCode (markAt s k) else 0)) 0

/-- The bytes of a 64-byte block with `n` bytes from offset `o` taken from storage address `a`, the rest 0 (R210). -/
def blockOf (s : State) (a o n : Nat) : List Byte :=
  List.replicate o 0 ++ memBytes s a n ++ List.replicate (64 - (o + n)) 0

/-- What an access of the region path does at its bank before it is served: one that loses the bank's last cycle waits in
it (R151 to R153). -/
def viaWait (s : State) (v : Via) (xs : List Served) : State :=
  match xs with
  | x :: _ =>
    if isTileAddr x.addr && x.rank == 10 && viaWaits s v xs then
      starve s ((x.addr - 0x1100000000) / 0x40000) (x.addr % 0x40000 / 0x8000) v.waited 1
    else s
  | [] => s

/-- A read of `n` bytes at address `a` in memory: the block's bytes, the code, and the state with what the checked
reads do (R146, R147). On-chip words are served by their bank's cycles (R151, R158). -/
def blockRead (s : State) (v : Via) (a n : Nat) : List Byte × Nat × State :=
  let pl := placeOf a
  let c := placeRefusal s pl
  match c, storageOf s pl with
  | 0, some st =>
    let keys := touched st n
    let dev := fun (k : Nat) => (a % 2 ^ 44 + k - st)
    let bs := blockOf s st (a % 64) n
    let code := readCode s keys
    let xs := if st < 0x800000000 then [] else keys.map fun k => viaReq v k none
    (bs, code, keys.foldl (fun s k => eccNote s (placeOf (dev k)) (dev k) k) (serveVia (viaWait s v xs) v xs).1)
  | c, _ => (List.replicate 64 0, firstCode c 0x12, s)

/-- Stores a 64-bit word of LPDDR5 (R445). -/
def storeLp (s : State) (a : Nat) (d : List Byte) (be : Nat) (poison : Bool) : State × Nat :=
  let whole := decide (be % 256 = 255)
  let old := markAt s a
  let bad := isBad (markCode old) && !whole
  let new := (memBytes s a 8).zipIdx.map fun x => if bitOf be x.2 then d.getD x.2 0 else x.1
  let s := setBytes s a new
  ({ setMark s a (if poison || bad then .poison else .clean) with wback := put 0 s.wback a 0 },
   if bad then markCode old else 0)

/-- Logs a write from outside to a word of a protected tile (R273, R275). One that meets the tile's accesses of a bank cycle
is applied before them, phase 0; another is served after the tile's last bank cycle, phase 1. An alias write is logged as
the word it leaves (log 23). -/
def logStore (s : State) (v : Via) (pl : Place) (x : Served) (met : Bool) : State :=
  match pl, x.store with
  | .bank pos _, some k =>
    let t := (x.addr - 0x1100000000) / 0x40000
    let val := if k.al = 0 then k.d else memWord s x.addr
    logEntry s pos ⟨.extwr, !(met && v.meet), 0, if k.al = 0 then k.be else 15, x.addr % 0x40000 / 4, (tileOf s t).retired, val, 0, 0⟩
  | _, _ => s

/-- The word of bytes `o` to `o + 3` of a block. -/
def blockWord (d : List Byte) (o : Nat) : Word := word (ofBytes ((d.drop o).take 4))

/-- The requests of the enabled on-chip words of a block at storage address `st`. -/
def storesOf (v : Via) (st al be : Nat) (d : List Byte) (poison : Bool) (badW : Nat) : List Served :=
  (List.range 16).filterMap fun i =>
    let e := (be >>> (4 * i)) % 16
    if e = 0 then none else some (viaReq v (st + 4 * i) (some ⟨blockWord d (4 * i), e, al, poison || bitOf badW i⟩))

/-- A write of the enabled bytes of the 64-byte block that holds `addr`; `badW` marks words to be stored as poisoned beside
`poison` (R144, R149, R224). Answers the code of the completion. On-chip words are served by their bank's cycles (R151,
R158). -/
def blockWrite (s : State) (v : Via) (addr be : Nat) (d : List Byte) (poison : Bool) (badW : Nat) : State × Nat :=
  let a := addr / 64 * 64
  let pl := placeOf a
  let c := firstCode (placeRefusal s pl) (if reservedFor s v.src pl then 0x18 else 0)
  match c, storageOf s pl with
  | 0, some st =>
    if st < 0x800000000 then
      (List.range 8).foldl (fun x i =>
        let e := (be >>> (8 * i)) % 256
        if e = 0 then x
        else
          let r := storeLp x.1 (st + 8 * i) ((d.drop (8 * i)).take 8) e (poison || decide ((badW >>> (2 * i)) % 4 ≠ 0))
          (r.1, firstCode x.2 r.2)) (s, 0)
    else
      let xs := storesOf v st (aliasOf a) be d poison badW
      let r := serveVia (viaWait s v xs) v xs
      ((viaOrder s v xs).foldl (fun u x => logStore u v pl x (fitsCycle (cycleAt s x.addr) x)) r.1, r.2)
  | c, _ => (s, firstCode c 0x12)

/-- Byte enables of `n` bytes from block offset `o`. -/
def spanBe (o n : Nat) : Nat := (2 ^ n - 1) * 2 ^ o

/-- A block whose bytes from offset `o` on are the listed ones. -/
def spanData (o : Nat) (bs : List Byte) : List Byte :=
  List.replicate o 0 ++ bs ++ List.replicate (64 - (o + bs.length)) 0

/-- The bytes `n` from offset `o` of a block. -/
def spanOf (d : List Byte) (o n : Nat) : List Byte := (d.drop o).take n

end Sys2Proof.Machine
end

