-- ==== Sys2Proof/Machine/Net.lean ====
section
/-! DEFINITION. The packet network: topology, routes, detours, issue, forwarding, resends, responses and statistics
(R202 to R225, R306). -/

namespace Sys2Proof.Machine
open Sys2Proof

/-! ### Topology (R203, R205, R213) -/

/-- The region at the other end of link port 0 or 1 of a port or service router. -/
def attachedRegion (k p : Nat) : Nat :=
  (([(1, 2), (7, 11), (13, 14), (4, 8), (5, 10)] : List (Nat × Nat)).getD (k - 16) (0, 0) |> fun x => if p = 0 then x.1 else x.2)

/-- The port or service router that a region's port XP leads to, with its link port. -/
def xpOf (r : Nat) : Option (Nat × Nat) :=
  ([(1, 16, 0), (2, 16, 1), (7, 17, 0), (11, 17, 1), (13, 18, 0), (14, 18, 1), (4, 19, 0), (8, 19, 1), (5, 20, 0),
    (10, 20, 1)] : List (Nat × Nat × Nat)).findSome? fun x => if x.1 = r then some x.2 else none

/-- The router and its port at the other end of a link port, if the port exists (R205). -/
def linkTo (r p : Nat) : Option (Nat × Nat) :=
  if 16 ≤ r then (if p < 2 ∧ r < 21 then some (attachedRegion r p, 6) else none)
  else match p with
    | 0 => if 4 ≤ r then some (r - 4, 2) else none
    | 1 => if r % 4 < 3 then some (r + 1, 3) else none
    | 2 => if r < 12 then some (r + 4, 0) else none
    | 3 => if 0 < r % 4 then some (r - 1, 1) else none
    | 4 => if r % 4 = 0 then some (r + 3, 4) else if r % 4 = 3 then some (r - 3, 4) else none
    | 5 => if r < 4 then some (r + 12, 5) else if 12 ≤ r then some (r - 12, 5) else none
    | 6 => xpOf r
    | _ => none

/-- The link port of `h` that leads to router `n`. -/
def portToward (h n : Nat) : Option Nat := (List.range 7).find? fun p => (linkTo h p).any fun x => x.1 == n

/-- A directed link, named by the router and port that receive on it, has a detour set (R306). -/
def detoured (s : State) (n p : Nat) : Bool := look 0 s.detour (8 * n + p) == 1

/-- One of the two directions between a port or service router and its link port has a detour set. -/
def spokeOut (s : State) (k p : Nat) : Bool := detoured s k p || detoured s (attachedRegion k p) 6

/-- `attach` of R213, and of R306 when one of the two links is detoured. -/
def attachAt (s : State) (k row col : Nat) : Nat :=
  let first := match k with
    | 16 | 18 => decide (col ≤ 1)
    | _ => decide (row ≤ 1)
  let p := if first then 0 else 1
  attachedRegion k (if spokeOut s k p then 1 - p else p)

/-- The output port of a packet at router `h` (R213): 7 is LOCAL. -/
def routePort (s : State) (h drt : Nat) : Nat :=
  if h = drt then 7
  else
    let pos := if drt < 16 then drt else attachAt s drt 0 0
    if 16 ≤ h then (if attachedRegion h 0 = attachAt s h (pos / 4) (pos % 4) then 0 else 1)
    else
      let t := if drt < 16 then drt else attachAt s drt (h / 4) (h % 4)
      if h = t then 6
      else if h % 4 ≠ t % 4 then
        (if h % 4 + 3 = t % 4 ∨ t % 4 + 3 = h % 4 then 4 else if h % 4 < t % 4 then 1 else 3)
      else if h / 4 + 3 = t / 4 ∨ t / 4 + 3 = h / 4 then 5
      else if h / 4 < t / 4 then 2 else 0

/-- The routers that a detour of the mesh or express link from `h` to `n` crosses, `n` last (R306). -/
def detourPath (h n : Nat) : List Nat :=
  if h / 4 = n / 4 then
    if h + 3 = n then [h + 1, h + 2, n]
    else if n + 3 = h then [h - 1, h - 2, n]
    else if h / 4 ≤ 1 then [h + 4, n + 4, n] else [h - 4, n - 4, n]
  else if h + 12 = n then [h + 4, h + 8, n]
  else if n + 12 = h then [h - 4, h - 8, n]
  else if h % 4 ≤ 1 then [h + 1, n + 1, n] else [h - 1, n - 1, n]

/-- The way a packet takes next at router `h`: its output port, and what is left of a detour after it. -/
def nextWay (s : State) (h : Nat) (k : Pkt) : Nat × List Nat :=
  match k.via with
  | v :: rest => ((portToward h v).getD 7, rest)
  | [] =>
    let p := routePort s h k.drt
    match linkTo h p with
    | some (n, q) =>
      if p ≠ 6 ∧ h < 16 ∧ detoured s n q ∧ k.turned = false then
        (match detourPath h n with
         | v :: rest => ((portToward h v).getD 7, rest)
         | [] => (p, []))
      else (p, [])
    | none => (p, [])

/-- State of the link that a router receives on (`RRTR.LINK_STAT`): 1 UP, 2 RETRYING, 3 WITHDRAWN. -/
def linkStat (s : State) (n p : Nat) : Nat := bitsOf (getF s (pgRRTR n) RRTR.LINK_STAT) (2 * p + 1) (2 * p)

def setLinkStat (s : State) (n p v : Nat) : State :=
  setF s (pgRRTR n) RRTR.LINK_STAT (setBits (getF s (pgRRTR n) RRTR.LINK_STAT) (2 * p + 1) (2 * p) v)

/-- Every detour that a packet from router `h` would need is itself whole, and no second one is needed; else its interface
refuses it (R306). -/
def routeWhole (s : State) : Nat → Nat → Pkt → Bool
  | 0, _, _ => true
  | fuel + 1, h, k =>
    let w := nextWay s h k
    match linkTo h w.1 with
    | some (n, q) =>
      let start := k.via.isEmpty && !w.2.isEmpty
      if (start || !k.via.isEmpty) && linkStat s n q == 3 then false
      else if start && spokeOut s n q then false
      else if k.via.isEmpty && k.turned && detoured s n q && decide (h < 16) && w.1 != 6 then false
      else routeWhole s fuel n { k with via := w.2, turned := k.turned || start }
    | none => true

/-! ### Issue (R211, R212, R216, R218, R219) -/

def classNo : PClass → Nat
  | .req => 0
  | .rsp => 1
  | .stream => 2
  | .svc => 3

/-- The interface of an initiator (R212). -/
def initIf (src : Nat) : Nat × Nat :=
  if src < 0x100 then (src / 16, 3)
  else if src < 0x200 then ((src - 0x100) / 16, 2)
  else if src < 0x221 then (16, 2)
  else match src with
    | 0x221 => (16, 0)
    | 0x222 => (16, 1)
    | 0x223 => (17, 0)
    | 0x224 => (17, 1)
    | 0x225 => (18, 0)
    | 0x226 => (19, 0)
    | 0x230 => (20, 0)
    | 0x231 => (20, 1)
    | 0x232 => (20, 4)
    | _ => (20, 2)

/-- The destination of an address (R211). -/
def destOf : Place → Option (Nat × Nat)
  | .lpddr a => some (if bitOf a 8 then 19 else 18, 1)
  | .rmem r _ => some (r, 1)
  | .bank pos _ => some (pos / 16, 0)
  | .page p _ =>
    if p < 0x200 then some (20, 3)
    else if p < 0x400 then some ((p - 0x200) / 8 % 16, 4)
    else if p < 0x800 then some ((p - 0x400) / 64, 4)
    else none
  | .bad _ => none

def blankPkt : Pkt :=
  ⟨.req, false, 0, 0, 0, 0, 0, 0, false, 0, 0, 0, 0, false, [], 0, false, 0, [], 1, 0, 7, false, [], 0, false, 0, 0⟩

/-- The number of an input queue among those of a router: port, class and channel; detoured packets have one queue for each
port and class (R215, R306). -/
def queueNo (k : Pkt) : Nat := ((k.port * 4 + classNo k.cls) * 2 + b2n (k.vc && !k.turned)) * 2 + b2n k.turned

/-- Flits in an input queue of a router. -/
def queueFlits (s : State) (r q : Nat) : Nat :=
  s.net.foldl (fun n k => if k.rtr = r ∧ k.arrived = false ∧ queueNo k = q then n + k.flits else n) 0

/-- The LOCAL input queue of its router has room for a packet: its interface holds the credits (R12, R215). -/
def localRoom (s : State) (k : Pkt) : Bool := decide (queueFlits s k.rtr (queueNo { k with port := 7 }) + k.flits ≤ 4)

/-- An interface may send a packet: it holds the credits, and does not refuse the route (R215, R306). -/
def maySend (s : State) (k : Pkt) : Bool := localRoom s k && routeWhole s 24 k.rtr k

/-- Puts a packet into the LOCAL input of its router, with the urgency of its class (R219). One that has to go at once stands
at its interface behind a full queue. -/
def inject (s : State) (k : Pkt) : State :=
  let c := classNo k.cls
  let u := bitsOf (getF s (pgRRTR k.rtr) RRTR.URG_BASE) (4 * c + 3) (4 * c)
  { s with net := s.net ++ [{ k with urg := u, age := 0, port := 7, arrived := false }] }

/-- The lowest free tag of an initiator (R218). -/
def freeTag (s : State) (src : Nat) : Option Nat :=
  (List.range 256).find? fun g => (look none s.txns (256 * src + g)).isNone

/-- The code with which an initiator's own interface refuses an address, 0 when it sends it (R20, R211). -/
def interfaceCode (a : Nat) : Nat :=
  match placeOf a with
  | .bad c => c
  | _ => 0

/-- Sends a request (R210): `none` when the initiator has no free tag or no credit. The caller has checked the address. -/
def sendReq (s : State) (src : Nat) (vc : Bool) (write : Bool) (a n be : Nat) (d : List Byte) (poison : Bool)
    (why : Purpose) : Option State :=
  match freeTag s src, destOf (placeOf a) with
  | some g, some dst =>
    let k : Pkt := { blankPkt with
      vc := vc, drt := dst.1, dpt := dst.2, src := src, tag := g, write := write, addr := a, nbytes := n, be := be,
      data := d, poison := poison, flits := if write then 2 else 1, rtr := (initIf src).1 }
    if localRoom s k then
      some (inject { s with txns := put none s.txns (256 * src + g)
                              (some ⟨why, write, if write then popCount 64 be else n, a, false, s.age⟩) } k)
    else none
  | _, _ => none

/-- A route that its interface refuses (R306). -/
def routeRefused (s : State) (src a : Nat) : Bool :=
  match destOf (placeOf a) with
  | some dst => !(routeWhole s 12 (initIf src).1 { blankPkt with drt := dst.1, dpt := dst.2 })
  | none => false

/-- The response to a request that stands at its target (R210, R216). -/
def responseOf (k : Pkt) (code : Nat) (d : List Byte) : Pkt :=
  let i := initIf k.src
  { blankPkt with
    cls := .rsp, vc := k.vc, drt := i.1, dpt := i.2, src := k.src, tag := k.tag, write := k.write, code := code,
    addr := k.addr, nbytes := k.nbytes, data := d, rtr := k.drt }

/-- Answers a request. -/
def respond (s : State) (k : Pkt) (code : Nat) (d : List Byte) : State := inject s (responseOf k code d)

/-! ### Forwarding (R214, R215, R219, R220) -/

/-- The packets at the head of the input queues of a router, with their place in the list. -/
def queueHeads (ks : List (Pkt × Nat)) (r : Nat) : List (Pkt × Nat) :=
  let here := ks.filter fun x => x.1.rtr == r && !x.1.arrived
  here.filter fun x => !(here.any fun y => decide (y.2 < x.2) && queueNo y.1 == queueNo x.1)

/-- Flits of a packet's class and channel that stand at the interface where it is to arrive. -/
def ifaceFlits (s : State) (r : Nat) (k : Pkt) : Nat :=
  s.net.foldl (fun n x => if x.arrived = true ∧ x.rtr = r ∧ x.dpt = k.dpt ∧ x.cls = k.cls ∧ x.vc = k.vc then n + x.flits else n) 0

/-- The packet as it stands after leaving by `out`, when the link and the next queue can take it. -/
def afterHop (s : State) (r out : Nat) (k : Pkt) : Option Pkt :=
  let w := nextWay s r k
  if w.1 ≠ out then none
  else if out = 7 then
    -- every initiator has room for its responses (R218); the queue of other packets at an interface has no stated size, and is
    -- that of a router's input (R12; DESIGN CHOICE, log 92)
    (if k.cls = .rsp ∨ ifaceFlits s r k + k.flits ≤ 4 then some { k with arrived := true } else none)
  else
    match linkTo r out with
    | some (n, p) =>
      let k' := { k with rtr := n, port := p, via := w.2, turned := k.turned || (k.via.isEmpty && !w.2.isEmpty) }
      if linkStat s n p = 1 ∨ linkStat s n p = 2 then
        (if queueFlits s n (queueNo k') + k.flits ≤ 4 then some k' else none)
      else none
    | none => none

/-- The better of two candidates for an output: higher urgency, then the next queue after the last winner (R220). -/
def better (last : Nat) (x y : Pkt × Nat) : Bool :=
  let turn (k : Pkt) : Nat := (queueNo k + 256 - last - 1) % 128
  decide (x.1.urg < y.1.urg) || (x.1.urg == y.1.urg && decide (turn y.1 < turn x.1))

def pickHead (last : Nat) : List (Pkt × Nat) → Option (Pkt × Nat)
  | [] => none
  | x :: xs =>
    match pickHead last xs with
    | none => some x
    | some y => if better last x y then some y else some x

/-- The link that a packet at router `r` takes next, or would take but for its detour, by its receiving end. -/
def routedLink (s : State) (r : Nat) (k : Pkt) : Option (Nat × Nat) :=
  if k.via.isEmpty then linkTo r (routePort s r k.drt) else linkTo r (nextWay s r k).1

/-- A packet that failed on the link, and that its sender therefore keeps in its retry buffer, goes before all others of that
link, on the link or on its detour (R223, R306). -/
def retryFirst (s : State) (r : Nat) (k : Pkt) : Bool :=
  match routedLink s r k with
  | some (n, p) => (look none s.retry (8 * n + p)).all fun y => y == k || !(s.net.contains y)
  | none => true

/-- The packet that router `r` sends next on output `out`. -/
def chooseHead (s : State) (r out : Nat) : Option (Pkt × Nat) :=
  pickHead (look 0 s.rr (8 * r + out))
    ((queueHeads s.net.zipIdx r).filter fun x => (afterHop s r out x.1).isSome && retryFirst s r x.1)

/-- The virtual network of a class has the code PARITY, which corrects nothing (R221). -/
def hasParity (s : State) (r : Nat) (c : PClass) : Bool := bitOf (getF s (pgRRTR r) RRTR.VN_CHK) (2 * classNo c)

/-- Router `r` or an interface of it corrects `n` bits of a packet, each counted and reported (R222). -/
def corrected (s : State) (r : Nat) (k : Pkt) (n : Nat) : State :=
  if hasParity s r k.cls then s
  else (List.range (min n (4 * k.flits))).foldl (fun s _ => raiseOpt (incF s (pgRRTR r) RRTR.CORR 1) (pgRRTR r) 0 0x26 0) s

/-- One router cycle at an output (R219, R220): the chosen packet departs after `w` router cycles in its queue; `corr`
is how many bits of it the router corrected (R222). -/
def forward (s : State) (r out w : Nat) (corr : Nat) : State :=
  match chooseHead s r out with
  | none => s
  | some (k, i) =>
    match afterHop s r out k with
    | none => s
    | some k' =>
      let from_ := routedLink s r k
      let age := k.age + w
      let urg := min 15 (k.urg + age / 64)
      let s := { s with
        net := (s.net.eraseIdx i) ++ [{ k' with urg := urg, age := age % 64, arrival := s.arrivals }]
        arrivals := s.arrivals + 1
        rr := put 0 s.rr (8 * r + out) (queueNo k) }
      let s := if urg = 15 then incF s (pgRRTR r) RRTR.URG15 k.flits else s
      let s := corrected s r k corr
      match (if out = 7 then none else from_) with
      | some (n, p) =>
        let s := { s with fails := put 0 s.fails (8 * n + p) 0, retry := put none s.retry (8 * n + p) none }
        if linkStat s n p = 2 then setLinkStat s n p 1 else s
      | none => s

/-- The packet that fails on the link into port `p` of router `r`: the one that its sender sends next. -/
def failing (s : State) (r p : Nat) : Option Pkt :=
  match linkTo r p with
  | some (h, out) => (chooseHead s h out).map Prod.fst
  | none => none

/-- Router `r` finds an uncorrectable flit from link port `p` and asks for it again; after three failed resends of one packet
the link is withdrawn (R223). The sender keeps the packet in its retry buffer. -/
def resend (s : State) (r p : Nat) : State :=
  let y := failing s r p
  if y.isNone || !(linkStat s r p == 1 || linkStat s r p == 2) then s
  else
    let n := look 0 s.fails (8 * r + p)
    let s := { s with retry := put none s.retry (8 * r + p) y }
    if n = 3 then raiseEv (setLinkStat { s with fails := put 0 s.fails (8 * r + p) 0 } r p 3) (pgRRTR r) 0x33 0
    else setLinkStat (incF { s with fails := put 0 s.fails (8 * r + p) (n + 1) } (pgRRTR r) RRTR.RETRY 1) r p 2

/-! ### Arrived packets -/

/-- The first arrived packet at interface `d` of router `r` with a property, and its place. -/
def arrivedAt (s : State) (r d : Nat) (f : Pkt → Bool) : Option (Pkt × Nat) :=
  s.net.zipIdx.find? fun x => x.1.arrived && x.1.rtr == r && x.1.dpt == d && f x.1

/-- Takes a packet off the network. -/
def takePkt (s : State) (i : Nat) : State := { s with net := s.net.eraseIdx i }

/-- Corrected bits and an uncorrectable payload that a destination interface of router `r` finds (R222, R224). -/
def destCheck (s : State) (r : Nat) (k : Pkt) (corr : Nat) (bad : Bool) : State :=
  let s := corrected s r k corr
  if bad then raiseEv (incF s (pgRRTR r) RRTR.UNCORR 1) (pgRRTR r) 0x25 0 else s

/-! ### Statistics (R225) -/

/-- Histogram bin of a latency. -/
def latBin (lat : Nat) : Nat := if lat < 16 then 0 else min 15 (Nat.log2 (lat / 16) + 1)

def incWide (s : State) (p off n : Nat) : State := setWide s p off (satAdd 64 (wideOf s p off) n)

def histF (j b : Nat) : Fld := ⟨0x140 + 0x100 * j + 4 * b, 31, 0⟩

/-- Counts a completed transaction in one set. -/
def statSet (s : State) (p j src : Nat) (write : Bool) (n lat : Nat) : State :=
  let m := getF s p (RSTAT.CFG_MASK j)
  if flagF s p (RSTAT.CFG_EN j) ∧ src &&& m = getF s p (RSTAT.CFG_ID j) &&& m then
    let s := incF s p (RSTAT.TXN j) 1
    let s := incWide s p (if write then (RSTAT.WR_LO j).off else (RSTAT.RD_LO j).off) n
    let s := maxF s p (RSTAT.LAT_MAX j) lat
    let s := incWide s p (RSTAT.LAT_SUM_LO j).off lat
    incF s p (histF j (latBin lat)) 1
  else s

def countTxn (s : State) (src : Nat) (write : Bool) (n lat : Nat) : State :=
  (List.range 16).foldl (fun s r =>
    (List.range 4).foldl (fun s j => statSet s (0x206 + 8 * r) j src write n lat) s) s

/-- Counts a transaction that the model performs at once at its target; its latency is a free value (R225, log 93). -/
def countDirect (s : State) (src : Nat) (write : Bool) (n : Nat) : State :=
  let f := takeFree s
  countTxn f.2 src write n (f.1 % 2 ^ 32)

/-- A write of `CFG.CLR` (R225). -/
def statClear (s : State) (r j : Nat) : State :=
  let p := 0x206 + 8 * r
  let s := setF (setF s p (RSTAT.TXN j) 0) p (RSTAT.LAT_MAX j) 0
  let s := setWide (setWide (setWide s p (RSTAT.RD_LO j).off 0) p (RSTAT.WR_LO j).off 0) p (RSTAT.LAT_SUM_LO j).off 0
  (List.range 16).foldl (fun s b => setF s p (histF j b) 0) s

/-! ### Commands -/

/-- FLIT_FORWARD: `w` router cycles waited; `corr` is how many bits the router corrected. -/
def execFlitForward (r : RtrN) (out : Fin 8) (w : Nat) (corr : Fin 9) (s : State) : Host.Outcome State Fault Refusal :=
  .next (forward s r.val out.val w corr.val)

/-- LINK_RESEND. -/
def execLinkResend (r : RtrN) (p : Fin 8) (s : State) : Host.Outcome State Fault Refusal := .next (resend s r.val p.val)

/-- STATS_CLEAR. -/
def execStatsClear (r : RegN) (j : Fin 4) (s : State) : Host.Outcome State Fault Refusal := .next (regCmd (pgRSTAT r.val) (RSTAT.CFG_CLR j.val).off (regAt s (pgRSTAT r.val) (RSTAT.CFG_CLR j.val).off ||| word (2 ^ 30)) hostSrc
    (fun s => statClear s r.val j.val) s)

end Sys2Proof.Machine
end

