-- ==== Sys2Proof/Machine/Lines.lean ====
section
/-! DEFINITION. Zilaek and bridge links from the sending side: frames, link and routing headers, numbering, credits,
routes between devices (R391 to R398, R402, R409). -/

namespace Sys2Proof.Machine
open Sys2Proof

/-! ### Packets as flits (R206 to R210) -/

def w64 (n : Nat) : BitVec 64 := BitVec.ofNat 64 n

/-- The header of a packet's flit; `mf` says that another flit follows. -/
def flitHeader (k : Pkt) (mf : Bool) : Nat :=
  classNo k.cls * 2 ^ 62 + b2n k.vc * 2 ^ 61 + (k.urg % 16) * 2 ^ 57 + (k.age % 64) * 2 ^ 51 + (k.drt % 32) * 2 ^ 46 +
  (k.dpt % 8) * 2 ^ 43 +
  (if k.cls = .stream then
     (k.stream % 2 ^ 14) * 2 ^ 29 + (if k.credit then 0 else k.toks.length % 16) * 2 ^ 25 + b2n k.credit * 2 ^ 24 + k.seq % 2 ^ 24
   else
     (k.src % 1024) * 2 ^ 33 + (k.tag % 256) * 2 ^ 25 + b2n k.write * 2 ^ 21 + b2n mf * 2 ^ 20 + (k.code % 256) * 2 ^ 8)

/-- The payload of tokens, 36 bits each (R226). -/
def tokPayload : List Tok → Nat
  | [] => 0
  | t :: ts => t.data.toNat + tagsOf t * 2 ^ 32 + tokPayload ts * 2 ^ 36

/-- The payloads of a packet's flits (R210, R226). -/
def flitPayloads (k : Pkt) : List Nat :=
  match k.cls with
  | .req =>
    if k.write then [(k.addr % 2 ^ 48 / 64 * 64) + b2n k.poison * 2 ^ 48 + (k.be % 2 ^ 64) * 2 ^ 64, ofBytes (k.data.take 64)]
    else [k.addr % 2 ^ 48 + (k.nbytes % 128) * 2 ^ 48]
  | .rsp => [if k.write then 0 else ofBytes (k.data.take 64)]
  | .stream => [if k.credit then 0 else tokPayload (k.toks.take 14)]
  | .svc => [ofBytes (k.data.take 64)]

/-- The words of a payload, least significant first. -/
def payloadWords (p : Nat) : List (BitVec 64) := (List.range 8).map fun i => w64 (p >>> (64 * i))

def flitWords (k : Pkt) : List (BitVec 64) :=
  let ps := flitPayloads k
  (ps.zipIdx.map fun x => w64 (flitHeader k (decide (x.2 + 1 < ps.length))) :: payloadWords x.1).flatten

/-- The check bits of 576 flit bits under PARITY: bit 4w + j is the parity of bits 64w + 4k + j (R221). -/
def parityCheck (f : Nat) : Nat :=
  (List.range 36).foldl (fun n i =>
    n + (((List.range 16).foldl (fun m k => m + b2n (bitOf f (64 * (i / 4) + 4 * k + i % 4))) 0) % 2) * 2 ^ i) 0

/-- Under SECDED: nine bits for each quarter of 144 bits (R221). The text gives no matrix of the code (log 94). -/
def secdedCheck (f : Nat) : Nat :=
  (List.range 4).foldl (fun n q => n + Config.secded (bitsOf f (144 * q + 143) (144 * q)) % 512 * 2 ^ (9 * q)) 0

/-- The flits of a packet as they stand on a link that router `r` receives on: 576 bits, and 36 check bits by the code of their
virtual network (R206, R221). -/
def linkFlits (s : State) (r : Nat) (k : Pkt) : List Nat :=
  let ps := flitPayloads k
  ps.zipIdx.map fun x =>
    let f := flitHeader k (decide (x.2 + 1 < ps.length)) + x.1 % 2 ^ 512 * 2 ^ 64
    f + (if hasParity s r k.cls then parityCheck f else secdedCheck f) * 2 ^ 576

def wordsNat (ws : List (BitVec 64)) : Nat := ws.foldr (fun w n => w.toNat + n * 2 ^ 64) 0

/-- `n` tokens of a payload. -/
def payloadToks : Nat → Nat → List Tok
  | 0, _ => []
  | n + 1, p => tokOf (word p) (bitsOf p 35 32) :: payloadToks n (p >>> 36)

def classOf (n : Nat) : PClass := ([.req, .rsp, .stream, .svc] : List PClass).getD n .svc

/-- The packet that the words of one or two flits carry. -/
def pktOfWords (ws : List (BitVec 64)) : Pkt :=
  let h := (ws.headD 0).toNat
  let p := wordsNat ((ws.drop 1).take 8)
  let p2 := wordsNat ((ws.drop 10).take 8)
  let c := classOf (bitsOf h 63 62)
  let base : Pkt := { blankPkt with
    cls := c, vc := bitOf h 61, urg := bitsOf h 60 57, age := bitsOf h 56 51, drt := bitsOf h 50 46, dpt := bitsOf h 45 43 }
  match c with
  | .stream => { base with
      stream := bitsOf h 42 29, credit := bitOf h 24, seq := bitsOf h 23 0,
      toks := if bitOf h 24 then [] else payloadToks (bitsOf h 28 25) p }
  | .req => { base with
      src := bitsOf h 42 33, tag := bitsOf h 32 25, write := bitsOf h 24 21 == 1, addr := bitsOf p 47 0,
      nbytes := bitsOf p 54 48, be := bitsOf p 127 64, poison := bitOf p 48 && bitsOf h 24 21 == 1, data := toBytes 64 p2,
      flits := if bitsOf h 24 21 = 1 then 2 else 1 }
  | _ => { base with
      src := bitsOf h 42 33, tag := bitsOf h 32 25, write := bitsOf h 24 21 == 1, code := bitsOf h 15 8, data := toBytes 64 p }

/-! ### Headers (R391, R396) -/

def lineOf (s : State) (n : Nat) : Line := look Line.init s.lines n

def setLine (s : State) (n : Nat) (x : Line) : State := { s with lines := put Line.init s.lines n x }

/-- Types that carry `SEQ` (R392). -/
def numbered (typ : Nat) : Bool := decide (typ = 1 ∨ typ = 6 ∨ typ = 7)

/-- The class whose receive credit a frame uses (R394). -/
def frameClass (f : Frame) : Nat := if f.typ = 1 then f.cls else 3

def rhWord (dst src ttl : Nat) : BitVec 64 := w64 (dst % 2 ^ 18 * 2 ^ 46 + src % 2 ^ 18 * 2 ^ 28 + ttl % 64 * 2 ^ 22)

/-- Bytes of words, least significant first. -/
def wordBytes (ws : List (BitVec 64)) : List Byte := (ws.map fun w => toBytes 8 w.toNat).flatten

/-- The words of a frame on the line: link header, routing headers and body, trailer. -/
def frameWords (f : Frame) (seq ack cred : Nat) : List (BitVec 64) :=
  if f.typ = 0 then [0]
  else
    let h := w64 (f.typ * 2 ^ 60 + (if f.typ = 1 then f.cls else 0) * 2 ^ 58 + f.nrh * 2 ^ 55 +
      (f.body.length + 2) % 32 * 2 ^ 50 + (if numbered f.typ then seq % 1024 else 0) * 2 ^ 40 + ack % 1024 * 2 ^ 30 + cred * 2 ^ 16)
    (h :: f.body) ++ [w64 (crc32c (wordBytes (h :: f.body)) * 2 ^ 32)]

/-- The credits a header returns, at most seven of each class, and what is still owed. -/
def credField (owed : List Nat) : Nat × List Nat :=
  ((owed.take 4).zipIdx.foldl (fun n x => n + min 7 x.1 * 8 ^ x.2) 0, owed.map fun n => n - min 7 n)

/-- Register page whose counters belong to a line: the link's, or for a bridge that of the ZK4 or ZK5 engine (R399). -/
def linePage (s : State) (n : Nat) : Nat :=
  if n < 8 then pgZLNK n
  else pgZLNK (if getF s pgDSTR (DSTR.BR_CTL_PORT (n - 8)) < 4 then 4 else 5)

/-- The link engine (0 to 5) that serves a line (R399). -/
def lineEngine (s : State) (n : Nat) : Nat := linePage s n - 0x100

/-- State of a line: 2 UP. -/
def lineState (s : State) (n : Nat) : Nat :=
  if n < 8 then getF s (pgZLNK n) ZLNK.STAT_STATE else getF s pgDSTR (DSTR.BR_STAT_STATE (n - 8))

def setLineState (s : State) (n v : Nat) : State :=
  if n < 8 then setF s (pgZLNK n) ZLNK.STAT_STATE v else setF s pgDSTR (DSTR.BR_STAT_STATE (n - 8)) v

/-- A line that can carry frames: UP, or LOADING at either end of a neighbour load. -/
def lineUp (s : State) (n : Nat) : Bool := lineState s n == 2 || lineState s n == 5

/-- A Zilaek link is used for nothing but a neighbour's load while `CFGTX` = 1 (R404). -/
def loadsOther (s : State) (n : Nat) : Bool := decide (n < 8) && flagF s (pgZLNK n) ZLNK.CTRL_CFGTX

/-- What a line may carry: under R409 only CTRL, NACK and JOIN, during a neighbour's load only CONFIG, CTRL and NACK. -/
def typeAllowed (s : State) (n : Nat) (f : Frame) : Bool :=
  (!(lineOf s n).only || f.typ == 2 || f.typ == 3 || f.typ == 6) &&
    (!(loadsOther s n) || f.typ == 2 || f.typ == 3 || f.typ == 7)

/-- The MAC address of port `n`, first byte first: the base address plus `n`, read as one number (R347, log 51). -/
def portMac (s : State) (n : Nat) : List Byte :=
  beBytes 6 ((getF s pgDCAL DCAL.ID_MAC_LO + getF s pgDCAL DCAL.ID_MAC_HI * 2 ^ 32 + n) % 2 ^ 48)

/-- The addresses of bridge link `b` (R426). -/
def bridgeAddr (s : State) (b : Nat) : BridgeAddr :=
  let g := fun (f : Fld) => toBytes 4 (getF s pgDSTR f)
  { ipv6 := flagF s pgDSTR (DSTR.BR_CTL_IPV6 b)
    tags := (match getF s pgDSTR (DSTR.BR_CTL_TAGS b) with
      | 0 => []
      | 1 => [getF s pgDSTR (DSTR.BR_TCI_OUTER b)]
      | _ => [getF s pgDSTR (DSTR.BR_TCI_OUTER b), getF s pgDSTR (DSTR.BR_TCI_INNER b)])
    dmac := g (DSTR.BR_DMAC_LO b) ++ (g (DSTR.BR_DMAC_HI b)).take 2
    smac := portMac s (getF s pgDSTR (DSTR.BR_CTL_PORT b))
    dip := g (DSTR.BR_DIP0 b) ++ g (DSTR.BR_DIP1 b) ++ g (DSTR.BR_DIP2 b) ++ g (DSTR.BR_DIP3 b)
    sip := g (DSTR.BR_SIP0 b) ++ g (DSTR.BR_SIP1 b) ++ g (DSTR.BR_SIP2 b) ++ g (DSTR.BR_SIP3 b)
    port := getF s pgDSTR (DSTR.BR_CTL_UDP b) }

/-- A bridge link's frame goes as one datagram into its egress queue; one that finds no room is sent again after
`BR_RTO` (R421, R422). -/
def bridgeOut (s : State) (b : Nat) (ws : List (BitVec 64)) : State :=
  let d := datagram (bridgeAddr s b) (wordBytes ws)
  let k := 8 * getF s pgDSTR (DSTR.BR_CTL_PORT b) + getF s pgDSTR (DSTR.BR_CTL_QUEUE b)
  let l := look [] s.ethQ k
  if l.foldl (fun n f => n + f.bytes.length) 0 + d.length ≤ 65536 then
    { s with ethQ := put [] s.ethQ k (l ++ [⟨d, 0, 0, 0, 0, 64⟩]) }
  else s

/-- Puts one frame on the line. -/
def putFrame (s : State) (n : Nat) (seq : Nat) (f : Frame) : State :=
  let x := lineOf s n
  let c := credField x.owed
  let ws := frameWords f seq ((x.rxSeq + 1023) % 1024) c.1
  let s := setLine s n { x with sent := ws, owed := c.2 }
  if n < 8 then s else bridgeOut s (n - 8) ws

/-- Whether a frame of a type with `SEQ` may go: fewer than 256 outstanding and a receive credit (R393, R394). -/
def mayNumber (x : Line) (f : Frame) : Bool :=
  decide (x.unacked.length < 256) && decide (x.used.getD (frameClass f) 0 < 32)

def bump (l : List Nat) (i : Nat) (n : Nat) : List Nat := l.set i (l.getD i 0 + n)

/-- Sends the frames that wait, in order, while they may go. -/
def pumpLine : Nat → State → Nat → State
  | 0, s, _ => s
  | fuel + 1, s, n =>
    let x := lineOf s n
    match x.waiting with
    | [] => s
    | f :: rest =>
      if lineUp s n && typeAllowed s n f && mayNumber x f then
        let s := putFrame s n x.txSeq f
        let y := lineOf s n
        pumpLine fuel (setLine s n { y with
          waiting := rest, txSeq := (x.txSeq + 1) % 1024, unacked := x.unacked ++ [(x.txSeq, f)],
          used := bump x.used (frameClass f) 1 }) n
      else s

/-- Sends a frame: a numbered one waits its turn, any other goes at once when the link is up. -/
def sendFrame (s : State) (n : Nat) (f : Frame) : State :=
  if numbered f.typ then
    let x := lineOf s n
    pumpLine 64 (setLine s n { x with waiting := x.waiting ++ [f] }) n
  else if lineUp s n && typeAllowed s n f then putFrame s n 0 f
  else s

/-! ### Routes (R396, R397) -/

def ownId (s : State) : Nat := getF s pgDSTR DSTR.ID

def noId : Nat := 0x3FFFF

/-- The device answers for this ID (R410). -/
def isOwn (s : State) (d : Nat) : Bool :=
  (d == ownId s && ownId s != noId) || (flagF s pgDSTR DSTR.ALIAS_VALID && d == getF s pgDSTR DSTR.ALIAS_ID)

/-- The strand route entry in effect: the table as it stood at the last `RTFLUSH`, byte by byte (R398). -/
def routeEntry (s : State) (i : Nat) : Nat :=
  ofBytes ((List.range 8).map fun j => look 0 s.routes (8 * i + j))

/-- Takes the strand route table from LPDDR5 (R398). -/
def flushRoutes (s : State) : State :=
  let b := getF s pgDSTR DSTR.RT_BASE * 65536
  { s with routes := (s.mem.filter fun c => decide (b ≤ c.1) && decide (c.1 < b + 32768)).map fun c => (c.1 - b, c.2) }

/-- What a lookup answers. -/
inductive Way where
  | line (n : Nat)
  | push (via : Nat)
  | drop
  deriving DecidableEq, Repr

def wayTo (s : State) (d : Nat) : Way :=
  if d / 64 = ownId s / 64 then
    (if flagF s pgDSTR (DSTR.MEMBER_VALID (d % 64)) then .line (getF s pgDSTR (DSTR.MEMBER_LINK (d % 64))) else .drop)
  else
    let e := routeEntry s (d / 64)
    if !(bitOf e 63) then .drop
    else match bitsOf e 62 61 with
      | 1 => .line (bitsOf e 60 57)
      | 2 => .line (8 + bitsOf e 60 57)
      | 3 => .push (bitsOf e 56 39)
      | _ => .drop

/-- Chooses the way out of a DATA frame whose routing headers stand outermost first (R397, from `forward:`): the line
and the frame, or the code with which it is dropped. -/
def forwardGo (s : State) : Nat → Nat → Frame → (Nat × Frame) ⊕ Nat
  | 0, _, _ => .inr 0x3E
  | fuel + 1, d, f =>
    match wayTo s d with
    | .line n => .inl (n, f)
    | .drop => .inr 0x3F
    | .push v =>
      if f.nrh = 4 then .inr 0x3E
      else forwardGo s fuel v { f with nrh := f.nrh + 1, body := rhWord v (ownId s) 63 :: f.body }

def rhDst (w : BitVec 64) : Nat := bitsOf w.toNat 63 46
def rhSrc (w : BitVec 64) : Nat := bitsOf w.toNat 45 28
def rhTtl (w : BitVec 64) : Nat := bitsOf w.toNat 27 22

/-- A packet as a DATA frame to a device (R397). -/
def dataFrame (s : State) (dev : Nat) (k : Pkt) : Frame :=
  ⟨1, classNo k.cls, 1, rhWord dev (ownId s) 63 :: flitWords k⟩

/-- Sends a packet to another device from engine `n`: code 0, or the code with which its frame is dropped there. A
device without an ID sends none: the packet waits (R17). -/
def sendData (s : State) (n dev : Nat) (k : Pkt) : State × Nat :=
  if ownId s = noId then ({ s with zsend := put [] s.zsend n (look [] s.zsend n ++ [(dev, k)]) }, 0)
  else
    match forwardGo s 5 dev (dataFrame s dev k) with
    | .inl (m, f) => (sendFrame s m f, 0)
    | .inr c => (raiseEv (incF s (pgZLNK n) ZLNK.ROUTE_MISS 1) (pgZLNK n) c 0, c)

end Sys2Proof.Machine
end

