-- ==== Sys2Proof/Machine/Dma.lean ====
section
/-! DEFINITION. The DMA channels of the regions, the host port and the Zilaek links (chapter 06, R305, R403, R404,
R438, R443). A channel is named by 32 × engine + number: engines 0 to 15 the regions, 16 the host port, 17 to 22 the
Zilaek links. -/

namespace Sys2Proof.Machine
open Sys2Proof

/-! ### Names and registers -/

/-- Channels of an engine (R177, R403, R438). -/
def engSize (e : Nat) : Nat := if e = 16 then 32 else 16

/-- The channel's number in its engine. -/
def chanNo : ChanId → Nat
  | .region _ n => n.val
  | .host n => n.val
  | .zilaek _ n => n.val

def chKey : ChanId → Nat
  | .region r n => 32 * r.val + n.val
  | .host n => 32 * 16 + n.val
  | .zilaek z n => 32 * (17 + z.val) + n.val

def engPage (e : Nat) : Nat := if e < 16 then pgRDMA e else if e = 16 then pgHDMA else pgZLNK (e - 17)

def chPage (k : Nat) : Nat := engPage (k / 32)

/-- The initiator ID of a channel (R212). -/
def chInit (k : Nat) : Nat :=
  if k / 32 < 16 then 0x100 + 16 * (k / 32) + k % 32 else if k / 32 = 16 then 0x200 + k % 32 else 0x221 + (k / 32 - 17)

def isHostCh (k : Nat) : Bool := k / 32 == 16
def isZilCh (k : Nat) : Bool := decide (17 ≤ k / 32 ∧ k / 32 < 23)

def dmaOf (s : State) (k : Nat) : Dma := look Dma.init s.dma k
def setDma (s : State) (k : Nat) (d : Dma) : State := { s with dma := put Dma.init s.dma k d }
def modDma (s : State) (k : Nat) (f : Dma → Dma) : State := setDma s k (f (dmaOf s k))

/-- `CHn.STAT.STATE` (R191): 0 IDLE, 1 FETCH, 2 RUN, 3 DRAIN, 4 WBACK, 5 RECHECK, 6 TAILWAIT, 7 HALTED. -/
def chState (s : State) (k : Nat) : Nat := getF s (chPage k) (RDMA.CH_STAT_STATE (k % 32))
def setChState (s : State) (k v : Nat) : State := setF s (chPage k) (RDMA.CH_STAT_STATE (k % 32)) v

def chCur (s : State) (k : Nat) : Nat :=
  getF s (chPage k) (RDMA.CH_CUR_LO (k % 32)) * 32 + getF s (chPage k) (RDMA.CH_CUR_HI (k % 32)) * 2 ^ 32

def setCur (s : State) (k a : Nat) : State :=
  setF (setF s (chPage k) (RDMA.CH_CUR_LO (k % 32)) (a / 32)) (chPage k) (RDMA.CH_CUR_HI (k % 32)) (a / 2 ^ 32)

def chHead (s : State) (k : Nat) : Nat :=
  getF s (chPage k) (RDMA.CH_HEAD_LO (k % 32)) * 32 + getF s (chPage k) (RDMA.CH_HEAD_HI (k % 32)) * 2 ^ 32

def chPrio (s : State) (k : Nat) : Nat := getF s (chPage k) (RDMA.CH_CFG_PRIO (k % 32))
def chShare (s : State) (k : Nat) : Nat := getF s (chPage k) (RDMA.CH_CFG_SHARE (k % 32))

/-- The cap of a limiter: `BURST` × 256 units (R198, R200). -/
def chCap (s : State) (k : Nat) : Nat :=
  let b := getF s (chPage k) (RDMA.CH_CFG_BURST (k % 32))
  256 * (if 1 ≤ b ∧ b ≤ 16 then b else 16)

/-- A channel held in reserve or withdrawn cannot be started (R305). -/
def chBlocked (s : State) (k : Nat) : Bool :=
  decide (k / 32 < 16) &&
    ((k % 32 == 15 && bitOf (getF s pgDRCV DRCV.DMA_RESV) (k / 32)) ||
     bitOf (regAt s pgDRCV (DRCV.CH_WD ((16 * (k / 32) + k % 32) / 32)).off).toNat ((16 * (k / 32) + k % 32) % 32))

/-! ### Events (R200, R436, R443, R501) -/

/-- A cause of an MSI-X vector: the vector is pending until its message is sent (R437). -/
def raiseVector (s : State) (v : Nat) : State := { s with vecPend := put 0 s.vecPend v 1 }

def chDone (s : State) (k detail : Nat) : State :=
  if isHostCh k then raiseVector (setF s pgHDMA ⟨HDMA.DONE_PEND.off, k % 32, k % 32⟩ 1) (1 + k % 32)
  else raiseCause s (chPage k) (k % 32) 0 detail

def chFault (s : State) (k code detail : Nat) : State :=
  if isHostCh k then raiseVector (raiseCause s pgHDMA (k % 32) code detail) (1 + k % 32)
  else raiseCause s (chPage k) (16 + k % 32) code detail

def setLastCode (s : State) (k code : Nat) : State := setF s (chPage k) (RDMA.CH_STAT_LASTCODE (k % 32)) code

/-- A fetch or re-read failure marked "not touched" (R183, R192). -/
def fetchFail (s : State) (k code : Nat) : State :=
  chFault (setChState (setLastCode s k code) k 7) k code (code * 2 ^ 24)

/-! ### Start, doorbell, halt, reset (R192, R199, R200) -/

def beginChain (s : State) (k : Nat) : State :=
  let s := setChState (setCur s k (chHead s k)) k 1
  setDma s k { Dma.init with creditR := chCap s k, creditW := chCap s k }

def startCh (s : State) (k : Nat) : State :=
  if chBlocked s k then errCount s (chPage k)
  else if chState s k = 0 ∨ chState s k = 7 then beginChain s k
  else errCount s (chPage k)

def doorbellCh (s : State) (k : Nat) : State :=
  if chBlocked s k then errCount s (chPage k)
  else match chState s k with
    | 0 => beginChain s k
    | 6 => setChState s k 5
    | 7 => s
    | _ => setF s (chPage k) (RDMA.CH_STAT_DBPEND (k % 32)) 1

/-- The end of a reset: IDLE, with the START that came with it (R200). -/
def toIdle (s : State) (k : Nat) : State :=
  let after := (dmaOf s k).startAfter
  let s := setF (setDma (setChState s k 0) k Dma.init) (chPage k) (RDMA.CH_STAT_DBPEND (k % 32)) 0
  if after then startCh s k else s

def resetCh (s : State) (k : Nat) (thenStart : Bool) : State :=
  let s := modDma s k fun d => { d with startAfter := thenStart }
  let s := orphanLocks s (chInit k)
  match chState s k with
  | 2 | 3 =>
    modDma (setChState s k 3) k fun d => { d with code := 0x38, failElem := d.elem, resetting := true }
  | 4 => modDma s k fun d => { d with resetting := true }
  | _ => toIdle s k

def haltReq (s : State) (k : Nat) (v : Nat) : State := setF s (chPage k) (RDMA.CH_CTRL_HALTREQ (k % 32)) v

/-- `CHn.CTRL`: RESET with its START, HALTREQ, START (R200). -/
def chCtrlWrite (s : State) (k : Nat) (v : Word) : State :=
  let s := haltReq s k (bitsOf v.toNat 1 1)
  if bitOf v.toNat 2 then resetCh s k (bitOf v.toNat 0) else if bitOf v.toNat 0 then startCh s k else s

/-! ### Descriptors (R178 to R184) -/

def dWord (d : Dma) (i : Nat) : Nat := (d.desc.getD i 0).toNat
def dOp (d : Dma) : Nat := bitsOf (dWord d 0) 27 24
def dLen (d : Dma) : Nat := bitsOf (dWord d 0) 23 0
def dA (d : Dma) : Nat := dWord d 1 + bitsOf (dWord d 2) 15 0 * 2 ^ 32
def dB (d : Dma) : Nat := dWord d 3 + bitsOf (dWord d 4) 15 0 * 2 ^ 32
def dList (d : Dma) : Bool := decide (dOp d = 3 ∨ dOp d = 4)

/-- The code with which a descriptor, list or data address is refused before any access; 0 when it lies in LPDDR5,
region memory or the tile banks (R182). -/
def reachCode (a : Nat) : Nat :=
  match placeOf a with
  | .page _ _ => 0x17
  | .bad c => c
  | _ => 0

/-- A data address of a host channel with bit 47 set names host memory (R438). -/
def isHostAddr (k a : Nat) : Bool := isHostCh k && bitOf a 47

/-- Address A (true) or B of a remote channel lies on the far device (R403). -/
def isFar (s : State) (k : Nat) (sideA : Bool) : Bool :=
  isZilCh k && (flagF s (chPage k) (ZLNK.RDEV_DIR (k % 32)) == sideA)

/-- Remote channel 0 sends CONFIG frames (R404). -/
def isCfgTx (s : State) (k : Nat) : Bool := isZilCh k && k % 32 == 0 && flagF s (chPage k) ZLNK.CTRL_CFGTX

/-- Two ranges of `n` and `m` bytes share a byte; an alias names the same word (R21). -/
def overlap (a n b m : Nat) : Bool :=
  let x := if bitOf a 47 then a else a % 2 ^ 44
  let y := if bitOf b 47 then b else b % 2 ^ 44
  decide (x < y + m) && decide (y < x + n)

/-- The DMA-mode in-endpoint that feeds a region channel (R235). -/
def feederOf (s : State) (k : Nat) : Option Nat :=
  if k / 32 < 16 then
    (List.range 128).find? fun e => !isOut e && epEn s (k / 32) e && epMode s (k / 32) e == 2 &&
      getF s (pgRRTR (k / 32)) (RRTR.EP_CTL_CH e) == k % 32
  else none

/-- The checks of R183 that write back with 0x31 or 0x17, in their order; 0 when all hold. -/
def descCode (s : State) (k : Nat) (d : Dma) : Nat :=
  let op := dOp d
  let n := dLen d
  let badBits := bitOf (dWord d 0) 28 || bitsOf (dWord d 2) 31 16 != 0 || bitsOf (dWord d 4) 31 16 != 0
  let badOp := decide (5 ≤ op) || (isZilCh k && !(op == 0 || (op == 1 && flagF s (chPage k) (ZLNK.RDEV_DIR (k % 32)))))
  if badOp || badBits then 0x31
  else if n = 0 ∨ (dList d = true ∧ 16 < n) then 0x31
  else if op = 1 ∧ dB d ≠ 0 then 0x31
  else if (op = 0 ∨ op = 2) ∧ (feederOf s k).isNone ∧ isZilCh k = false ∧ overlap (dA d) n (dB d) n = true then 0x31
  else if (feederOf s k).isSome ∧ (op ≠ 0 ∨ n % 4 ≠ 0 ∨ dB d ≠ 0) then 0x31
  else if dList d ∧ (dB d % 16 ≠ 0 ∨ reachCode (dB d) ≠ 0) then 0x17
  else 0

/-- Reads `n` bytes block by block, each a transaction of initiator `src`; the code is that of the first block that fails, or
whose route its interface refuses (R225, R306). -/
def readSpan (src : Nat) : Nat → State → Nat → Nat → List Byte × Nat × State
  | 0, s, _, _ => ([], 0, s)
  | fuel + 1, s, a, n =>
    if n = 0 then ([], 0, s)
    else
      let m := min n (64 - a % 64)
      let x := if routeRefused s src a then ([], 0x33, s) else blockRead (countDirect s src false m) (.of src) a m
      if x.2.1 ≠ 0 then ([], x.2.1, x.2.2)
      else
        let y := readSpan src fuel x.2.2 (a + m) (n - m)
        (spanOf x.1 (a % 64) m ++ y.1, y.2.1, y.2.2)

/-- Consecutive groups of `w` bytes as numbers. -/
def groupsOf (w : Nat) : Nat → List Byte → List Nat
  | 0, _ => []
  | n + 1, bs => ofBytes (bs.take w) :: groupsOf w n (bs.drop w)

/-- The fetch of R183: the descriptor, and for GATHER and SCATTER its list, are read and checked. -/
def fetchDesc (s : State) (k : Nat) : State :=
  let cur := chCur s k
  let pl := placeOf cur
  -- a list whose tile is being recovered holds the fetch back (R275)
  let old := s
  if chState s k ≠ 1 then s
  else if reachCode cur ≠ 0 then fetchFail (errCount s (chPage k)) k (reachCode cur)
  else if placeHeld s (chInit k) pl then s
  else
    let x := readSpan (chInit k) 2 s cur 32
    if x.2.1 ≠ 0 then fetchFail x.2.2 k x.2.1
    else
      let s := x.2.2
      let d0 := dmaOf s k
      let d := { d0 with
        desc := (groupsOf 4 8 x.1).map word, elems := [], elem := 0, base := 0, rd := 0, rdA := 0, wr := 0, staged := [],
        stagedA := [], poisoned := [], equal := 0, differ := false, outR := 0, outW := 0, code := 0, failAt := none, failElem := 0 }
      if bitOf (dWord d 0) 31 = false then fetchFail s k 0x32
      else
        let c := descCode s k d
        if c ≠ 0 then setChState (setDma s k { d with code := c }) k 4
        else if dList d && placeHeld s (chInit k) (placeOf (dB d)) then old
        else if dList d then
          let y := readSpan (chInit k) 20 s (dB d) (16 * dLen d)
          if y.2.1 ≠ 0 then setChState (setDma y.2.2 k { d with code := y.2.1 }) k 4
          else setChState (setDma y.2.2 k { d with elems := groupsOf 16 (dLen d) y.1 }) k 2
        else setChState (setDma s k d) k 2

/-! ### Elements and ranges (R181, R184) -/

def elAddr (e : Nat) : Nat := bitsOf e 47 0
def elLen (e : Nat) : Nat := bitsOf e 74 64
def curElem (d : Dma) : Nat := d.elems.getD d.elem 0

/-- Length, source and destination of the current element, or of the whole range. -/
def jobLen (d : Dma) : Nat := if dList d then elLen (curElem d) else dLen d
def jobSrc (d : Dma) : Nat := if dOp d = 3 then elAddr (curElem d) else if dOp d = 4 then dA d + d.base else dB d
def jobDst (d : Dma) : Nat := if dOp d = 3 then dA d + d.base else if dOp d = 4 then elAddr (curElem d) else dA d

/-- The current element keeps R184. -/
def elemOk (d : Dma) : Bool :=
  let e := curElem d
  let n := elLen e
  !(dList d) ||
    (bitsOf e 63 48 == 0 && bitsOf e 95 75 == 0 && bitsOf e 127 96 == 0 && decide (1 ≤ n) && decide (n ≤ 1024) &&
     !(overlap (elAddr e) n (dA d + d.base) n))

/-- Ends the descriptor with a fault: no further beat is issued (R189). -/
def endDesc (s : State) (k code : Nat) : State :=
  let d := dmaOf s k
  if chState s k = 2 then
    setChState (setDma s k { d with code := if d.code = 0 then code else d.code, failElem := d.elem }) k 3
  else s

/-- A descriptor whose last beat is issued, or whose comparison is decided, drains (R191). -/
def settle (s : State) (k : Nat) : State :=
  let d := dmaOf s k
  if chState s k ≠ 2 then s
  else if dOp d = 2 ∧ (d.differ ∨ d.equal = dLen d) then setChState s k 3
  else if dList d ∧ d.elem = dLen d then setChState s k 3
  else if dOp d ≠ 2 ∧ dList d = false ∧ d.wr = dLen d then setChState s k 3
  else if elemOk d = false then endDesc s k 0x31
  else s

/-! ### Staging and comparison (R185, R186) -/

def stagedHas (l : List (Nat × Byte)) (o n : Nat) : Bool := (List.range n).all fun i => l.any fun x => x.1 == o + i

def stagedGet (l : List (Nat × Byte)) (o : Nat) : Byte := ((l.find? fun x => x.1 == o).map fun x => x.2).getD 0

/-- Compares the bytes that have arrived on both sides, in order. -/
def compareGo : Nat → Dma → Dma
  | 0, d => d
  | fuel + 1, d =>
    if !d.differ && stagedHas d.staged d.equal 1 && stagedHas d.stagedA d.equal 1 then
      if stagedGet d.staged d.equal = stagedGet d.stagedA d.equal then
        compareGo fuel { d with
          staged := d.staged.filter (fun x => x.1 != d.equal), stagedA := d.stagedA.filter (fun x => x.1 != d.equal),
          equal := d.equal + 1 }
      else { d with differ := true }
    else d

/-- Bytes of the channel's data that are staged or on their way (R185). -/
def occupied (d : Dma) : Nat := if dOp d = 2 then (d.rd - d.equal) + (d.rdA - d.equal) else d.rd - d.wr

def stageBytes (d : Dma) (off : Nat) (sideA : Bool) (bs : List Byte) : Dma :=
  let l := bs.zipIdx.map fun x => (off + x.2, x.1)
  let d := if sideA then { d with stagedA := d.stagedA ++ l } else { d with staged := d.staged ++ l }
  if dOp d = 2 then compareGo d.staged.length d else d

/-! ### Responses (R188, R189) -/

/-- A read's response: `sideA` says that it belongs to range A of a COMPARE. -/
def readDone (s : State) (k off : Nat) (sideA : Bool) (code : Nat) (bs : List Byte) : State :=
  let s := modDma s k fun d => { d with outR := d.outR - 1 }
  -- a COMPARE that has found its difference still ends with the fault of a read that it issued (R189)
  if chState s k = 3 ∧ code ≠ 0 ∧ (dmaOf s k).code = 0 then modDma s k fun d => { d with code := code, failElem := d.elem }
  else if chState s k ≠ 2 then s
  else if code ≠ 0 then endDesc s k code
  else settle (modDma s k fun d => stageBytes d off sideA bs) k

/-- A write's response; `unit` is its element. -/
def writeDone (s : State) (k unit off code n : Nat) : State :=
  let s := modDma s k fun d => { d with outW := d.outW - 1 }
  if code = 0 then
    let p := chPage k
    setWide s p (RDMA.CH_BYTES_LO (k % 32)).off (satAdd 64 (wideOf s p (RDMA.CH_BYTES_LO (k % 32)).off) n)
  else
    let d := dmaOf s k
    let at_ := if dList d then unit else off
    let first := d.code = 0
    let s := modDma s k fun d => { d with
      failAt := some (match d.failAt with | some x => min x at_ | none => at_),
      code := if first then code else d.code, failElem := if first then unit else d.failElem }
    if chState s k = 2 then setChState s k 3 else s

/-! ### Beats (R185 to R187, R196 to R198) -/

/-- Sends a remote request in a DATA frame (R403); `none` when no tag is free. The code is that of a dropped frame. -/
def farReq (s : State) (k : Nat) (write : Bool) (a n be : Nat) (d : List Byte) (why : Purpose) : Option (State × Nat) :=
  let src := chInit k
  match freeTag s src with
  | none => none
  | some g =>
    let dev := getF s (chPage k) (ZLNK.RDEV_DEV (k % 32))
    let pk : Pkt := { blankPkt with src := src, tag := g, write := write, addr := a, nbytes := n, be := be, data := d,
                                    flits := if write then 2 else 1 }
    let s := { s with txns := put none s.txns (256 * src + g) (some ⟨why, write, n, a, false, s.age⟩) }
    let r := sendData s (k / 32 - 17) dev pk
    if r.2 = 0 then some (r.1, 0) else some ({ r.1 with txns := put none r.1.txns (256 * src + g) none }, r.2)

/-- Limiter credit after the addition of the region cycle of a beat, of which `used` have passed in this tick: a tick has ten, and
the tick adds for those that had no beat (R198). -/
def gain (s : State) (k used c : Nat) : Nat := if used < 10 then min (chCap s k) (c + chShare s k) else c

def mayBeat (s : State) (k used c : Nat) : Bool := decide (chShare s k = 0) || decide (256 ≤ gain s k used c)

/-- Least offset of a write of the channel's whole range that has no response yet. -/
def oldestWrite (s : State) (k : Nat) : Option Nat :=
  s.txns.foldl (fun m x =>
    match x.2.map Txn.purpose with
    | some (.dmaWrite ch _ off) => if ch = k then some ((m.map fun y => min y off).getD off) else m
    | _ => m) none

/-- A write that far ahead of one that may still fail would change bytes beyond the 1,024 of R190. -/
def tooFarAhead (s : State) (k size : Nat) : Bool :=
  !(dList (dmaOf s k)) && (oldestWrite s k).any fun o => decide (o + 1024 < (dmaOf s k).wr + size)

/-- The next read beat: side A or B, offset, address and size; size 0 when there is none to issue. -/
def nextRead (s : State) (k : Nat) : Bool × Nat × Nat × Nat :=
  let d := dmaOf s k
  let n := jobLen d
  let sideA := decide (dOp d = 2) && decide (d.rdA < d.rd)
  let off := if sideA then d.rdA else d.rd
  let a := (if sideA then dA d else jobSrc d) + off
  let size := min (64 - a % 64) (n - off)
  let size :=
    match feederOf s k with
    | some e => min (min 64 (n - off)) (4 * epCount s (k / 32) e - off)
    | none => size
  if chState s k ≠ 2 ∨ dOp d = 1 ∨ d.code ≠ 0 ∨ d.differ ∨ (dList d = true ∧ dLen d ≤ d.elem) then (sideA, off, a, 0)
  else if 1024 < occupied d + size then (sideA, off, a, 0)
  else (sideA, off, a, size)

def countRead (s : State) (k : Nat) (sideA : Bool) (size : Nat) : State :=
  modDma s k fun d =>
    let d := { d with creditR := gain s k d.usedR d.creditR - (if chShare s k = 0 then 0 else 256), usedR := d.usedR + 1, outR := d.outR + 1 }
    if sideA then { d with rdA := d.rdA + size } else { d with rd := d.rd + size }

/-- Reads tokens from the ring of the endpoint that feeds the channel (R235). -/
def ringBytes (s : State) (r e off : Nat) : Nat → List Byte × List Nat × State
  | 0 => ([], [], s)
  | n + 1 =>
    let prev := ringBytes s r e off n
    let q := epSeq s r e + 2 ^ 32 - epCount s r e + off / 4 + n
    let x := ringLoad prev.2.2 r e q
    (prev.1 ++ toBytes 4 x.1.data.toNat, if x.1.err then prev.2.1 ++ [off + 4 * n] else prev.2.1, x.2)

/-- Issues the next read beat. With `direct` it is performed at once at its target instead of on the network. -/
def readBeat (s : State) (k : Nat) (direct : Bool) : Option State :=
  let b := nextRead s k
  let sideA := b.1
  let off := b.2.1
  let a := b.2.2.1
  let n := b.2.2.2
  if n = 0 then none
  else
    match feederOf s k with
    | some e =>
      let x := ringBytes s (k / 32) e off (n / 4)
      let s := countRead x.2.2 k false n
      let s := modDma s k fun d => { d with poisoned := d.poisoned ++ x.2.1 }
      some (readDone s k off false 0 x.1)
    | none =>
      if isFar s k sideA then
        if isCfgTx s k then
          (if reachCode a ≠ 0 then some (endDesc s k (reachCode a))
           else
             let x := blockRead s (.of (chInit k)) a n
             some (readDone (countRead x.2.2 k sideA n) k off sideA x.2.1 (spanOf x.1 (a % 64) n)))
        else
          (farReq s k false a n 0 [] (.dmaRead k off sideA)).map fun r =>
            if r.2 = 0 then countRead r.1 k sideA n else endDesc r.1 k r.2
      else if isHostAddr k a then
        some (readDone (countRead s k sideA n) k off sideA 0 (hostBytes s (a % 2 ^ 47) n))
      else if reachCode a ≠ 0 then some (endDesc s k (reachCode a))
      else if routeRefused s (chInit k) a then some (endDesc s k 0x33)
      else if direct then
        (if placeHeld s (chInit k) (placeOf a) then none
         else
           let x := blockRead s (.of (chInit k)) a n
           some (readDone (countRead x.2.2 k sideA n) k off sideA x.2.1 (spanOf x.1 (a % 64) n)))
      else
        (sendReq s (chInit k) (decide (4 ≤ chPrio s k)) false a n 0 [] false (.dmaRead k off sideA)).map fun s =>
          countRead s k sideA n

/-- The next write beat: offset, address, size, data and poison; size 0 when there is none to issue. -/
def nextWrite (s : State) (k : Nat) : Nat × Nat × Nat × List Byte × Bool :=
  let d := dmaOf s k
  let n := jobLen d
  let a := jobDst d + d.wr
  let full := if isCfgTx s k then min 64 (n - d.wr) else min (64 - a % 64) (n - d.wr)
  let bad := d.poisoned.contains d.wr
  let size := if bad then min 4 full else
    (match d.poisoned.find? (fun o => decide (d.wr < o) && decide (o < d.wr + full)) with
     | some o => o - d.wr
     | none => full)
  let aux := toBytes 4 (dWord d 6)
  let data := (List.range size).map fun i =>
    if dOp d = 1 then aux.getD ((a + i) % 4) 0 else stagedGet d.staged (d.wr + i)
  let ready :=
    dOp d == 1 ||
      (stagedHas d.staged d.wr size && (dOp d != 3 || (d.rd == n && d.outR == 0)) && (!(dList d) || d.wr != 0 || d.outW == 0))
  if chState s k ≠ 2 ∨ dOp d = 2 ∨ d.code ≠ 0 ∨ ready = false ∨ (dList d = true ∧ dLen d ≤ d.elem) ∨ tooFarAhead s k size = true then
    (d.wr, a, 0, [], false)
  else (d.wr, a, size, data, bad)

/-- Counts an issued write beat, frees its room, and goes on to the next element when this one is written. -/
def countWrite (s : State) (k size : Nat) : State :=
  modDma s k fun d =>
    let d := { d with creditW := gain s k d.usedW d.creditW - (if chShare s k = 0 then 0 else 256), usedW := d.usedW + 1, outW := d.outW + 1,
                      staged := d.staged.filter (fun x => decide (d.wr + size ≤ x.1)), wr := d.wr + size }
    if dList d ∧ d.wr = jobLen d then { d with base := d.base + jobLen d, elem := d.elem + 1, rd := 0, wr := 0, staged := [] } else d

/-- A CONFIG frame of up to 64 bytes (R392, R404). -/
def configFrame (bs : List Byte) : Frame :=
  ⟨7, 0, 0, payloadWords (ofBytes (bs ++ List.replicate (64 - bs.length) 0))⟩

/-- Issues the next write beat, as `readBeat`. -/
def writeBeat (s : State) (k : Nat) (direct : Bool) : Option State :=
  let b := nextWrite s k
  let off := b.1
  let a := b.2.1
  let n := b.2.2.1
  let bs := b.2.2.2.1
  let bad := b.2.2.2.2
  let el := (dmaOf s k).elem
  let o := a % 64
  if n = 0 then none
  else if isCfgTx s k then
    some (settle (writeDone (countWrite (sendFrame s (k / 32 - 17) (configFrame bs)) k n) k el off 0 n) k)
  else if isFar s k true then
    (farReq s k true (a / 64 * 64) n (spanBe o n) (spanData o bs) (.dmaWrite k el off)).map fun r =>
      if r.2 = 0 then settle (countWrite r.1 k n) k else endDesc r.1 k r.2
  else if isHostAddr k a then
    some (settle (writeDone (countWrite (setHostBytes s (a % 2 ^ 47) bs) k n) k el off 0 n) k)
  else if reachCode a ≠ 0 then some (endDesc s k (reachCode a))
  else if routeRefused s (chInit k) a then some (endDesc s k 0x33)
  else if direct then
    (if placeHeld s (chInit k) (placeOf a) || writeWaits s (chInit k) (placeOf a) then none
     else
       let x := blockWrite s (.of (chInit k)) (a / 64 * 64) (spanBe o n) (spanData o bs) bad 0
       some (settle (writeDone (countWrite x.1 k n) k el off x.2 n) k))
  else
    (sendReq s (chInit k) (decide (4 ≤ chPrio s k)) true (a / 64 * 64) n (spanBe o n) (spanData o bs) bad (.dmaWrite k el off)).map
      fun s => settle (countWrite s k n) k

/-- A channel is ready for the read or the write slot (R196). -/
def chReady (s : State) (k : Nat) (write : Bool) : Bool :=
  if write then decide (0 < (nextWrite s k).2.2.1) && mayBeat s k (dmaOf s k).usedW (dmaOf s k).creditW && (freeTag s (chInit k)).isSome
  else decide (0 < (nextRead s k).2.2.2) && mayBeat s k (dmaOf s k).usedR (dmaOf s k).creditR && (freeTag s (chInit k)).isSome

/-- The channel that an engine selects for a slot (R196): highest `PRIO`, then the next after the one taken last. -/
def selectCh (s : State) (e : Nat) (write : Bool) : Option Nat :=
  let last := look 0 s.dmaRr (2 * e + b2n write)
  let n := engSize e
  let ready := (List.range n).filter fun c => chReady s (32 * e + c) write
  let top := ready.foldl (fun p c => max p (chPrio s (32 * e + c))) 0
  ((List.range n).map fun i => (last + 1 + i) % n).find? fun c => ready.contains c && chPrio s (32 * e + c) == top

/-- One slot of a region cycle: the channel's beat when the engine selects it. -/
def beatSlot (s : State) (k : Nat) (write : Bool) : State :=
  if selectCh s (k / 32) write = some (k % 32) then
    let s' := { s with dmaRr := put 0 s.dmaRr (2 * (k / 32) + b2n write) (k % 32) }
    (if write then writeBeat s' k false else readBeat s' k false).getD s
  else s

/-- Performs a descriptor's operation whole, beat by beat at its targets, from RUN with nothing outstanding. -/
def performGo : Nat → State → Nat → State
  | 0, s, _ => s
  | fuel + 1, s, k =>
    match readBeat s k true with
    | some s => performGo fuel s k
    | none =>
      match writeBeat s k true with
      | some s => performGo fuel s k
      | none => s

def perform (s : State) (k op : Nat) : State :=
  let s := settle s k
  let d := dmaOf s k
  if chState s k = 2 ∧ dOp d = op ∧ d.outR = 0 ∧ d.outW = 0 then
    performGo (4 * (dLen d + d.elems.foldl (fun n e => n + elLen e) 0) + 64) s k
  else s

/-! ### Completion (R188 to R190, R235) -/

/-- `DONE`, and `ELEM` for a list, as in R190. -/
def doneField (d : Dma) : Nat :=
  if d.desc = [] then 0
  else if dList d then
    let e := if d.code = 0 then d.elem else (match d.failAt with | some x => min x d.elem | none => d.elem)
    (if d.code = 0 then 0 else d.failElem % 16 * 2 ^ 20) + e
  else if dOp d = 2 then d.equal
  else match d.failAt with
    | some x => min x d.wr
    | none => d.wr

def statusWord (d : Dma) : Nat := d.code * 2 ^ 24 + doneField d % 2 ^ 24

/-- The result of a COMPARE (R186). -/
def compareResult (d : Dma) : Nat := if d.code = 0 ∧ d.differ then d.equal else 0xFFFFFFFF

/-- Writes little-endian words at a descriptor, by one write of the channel. -/
def writeDesc (s : State) (k a : Nat) (ws : List Nat) : State × Nat :=
  let o := a % 64
  let bs := (ws.map fun w => toBytes 4 w).flatten
  if routeRefused s (chInit k) a then (s, 0x33)
  else blockWrite (countDirect s (chInit k) true bs.length) (.of (chInit k)) (a / 64 * 64) (spanBe o bs.length) (spanData o bs) false 0

/-- Steps 2 and 3 of R188: the code of the first write that fails. `LASTSTAT` shows a status that has been written (R200). -/
def writeBack2 (s : State) (k : Nat) : State × Nat :=
  let d := dmaOf s k
  let cur := chCur s k
  let x := if dOp d = 2 then writeDesc s k (cur + 24) [compareResult d, statusWord d] else writeDesc s k (cur + 28) [statusWord d]
  let x := if x.2 = 0 then (setF x.1 (chPage k) (RDMA.CH_LASTSTAT (k % 32)) (statusWord d), 0) else x
  if x.2 ≠ 0 then x
  else if cur % 2 ^ 44 < 0x800000000 then writeDesc x.1 k cur [dWord d 0 % 2 ^ 31]
  else writeDesc x.1 k (cur % 2 ^ 44 + 2 * 2 ^ 44) [0x80000000]

/-- Frees the ring entries of a completed descriptor's tokens (R235). -/
def freeFed (s : State) (k done : Nat) : State :=
  match feederOf s k with
  | some e =>
    let r := k / 32
    let n := min (done / 4) (epCount s r e)
    let s := setF s (pgRRTR r) (RRTR.EP_CRED_COUNT e) (epCount s r e - n)
    let x := endOf s (128 * r + e)
    setEnd s (128 * r + e) { x with gathered := x.gathered + n }
  | none => s

/-- What follows a completed descriptor (R192, R199). -/
def afterDesc (s : State) (k : Nat) : State :=
  let d := dmaOf s k
  if d.resetting then toIdle s k
  else if d.code ≠ 0 ∨ flagF s (chPage k) (RDMA.CH_CTRL_HALTREQ (k % 32)) then setChState s k 7
  else if bitOf (dWord d 0) 30 = false then setChState (setCur s k (dWord d 5 * 32)) k 1
  else setChState (setF s (chPage k) (RDMA.CH_STAT_DBPEND (k % 32)) 0) k 5

/-- DESC_COMPLETE (R188). -/
def completeDesc (s : State) (k : Nat) : State :=
  let d := dmaOf s k
  let st := chState s k
  if !((st == 3 && d.outR == 0 && d.outW == 0) || st == 4) then s
  else if placeHeld s (chInit k) (placeOf (chCur s k)) || writeWaits s (chInit k) (placeOf (chCur s k)) then s
  else
    let p := chPage k
    let s := setChState s k 4
    let x := writeBack2 s k
    if x.2 ≠ 0 then
      let s := chFault (setLastCode (errCount x.1 p) k x.2) k x.2 (x.2 * 2 ^ 24 + doneField d % 2 ^ 24)
      if d.resetting then toIdle s k else setChState s k 7
    else
      let s := setLastCode x.1 k d.code
      let s := freeFed s k (doneField d)
      let s := setF s p (RDMA.CH_STAT_INDEX (k % 32)) (getF s p (RDMA.CH_STAT_INDEX (k % 32)) + 1)
      let s := incF s p (RDMA.CH_DESC_COUNT (k % 32)) 1
      let s := if bitOf (dWord d 0) 29 then chDone s k (statusWord d) else s
      let s := if d.code ≠ 0 then chFault (errCount s p) k d.code (statusWord d) else s
      afterDesc s k

/-- RECHECK (R192): the re-read of the tail, whole. -/
def recheck (s : State) (k : Nat) : State :=
  let cur := chCur s k
  if chState s k ≠ 5 ∨ placeHeld s (chInit k) (placeOf cur) then s
  else
    let s := setF s (chPage k) (RDMA.CH_STAT_DBPEND (k % 32)) 0
    let x := readSpan (chInit k) 2 s cur 4
    if x.2.1 ≠ 0 then fetchFail x.2.2 k x.2.1
    else if bitOf (ofBytes x.1) 30 then setChState x.2.2 k 6
    else
      let y := readSpan (chInit k) 2 x.2.2 (cur + 20) 4
      if y.2.1 ≠ 0 then fetchFail y.2.2 k y.2.1 else setChState (setCur y.2.2 k (ofBytes y.1 * 32)) k 1

/-- The channel of a DMA transaction. -/
def txnChan : Purpose → Option Nat
  | .dmaRead ch _ _ => some ch
  | .dmaWrite ch _ _ => some ch
  | _ => none

/-- The watchdog reports a transaction of the channel that has waited `RESP_LIMIT` region cycles, ten in a tick, and is not
reported yet (R200). The cycle of a tick in which it was issued is not held (log 85). -/
def respSlow (s : State) (k : Nat) : State :=
  let lim := getF s (chPage k) (if isZilCh k then ZLNK.RESP_LIMIT else RDMA.RESP_LIMIT)
  if lim = 0 then s
  else
    match s.txns.find? fun x => x.2.any fun t =>
      txnChan t.purpose == some k && !t.slow && decide (lim ≤ 10 * (s.age - t.at_) + 9) with
    | some (i, some t) => raiseEv { s with txns := put none s.txns i (some { t with slow := true }) } (chPage k) 0x44 0
    | _ => s

/-- Limiter credit of the region cycles of one reference tick, ten at 1.0 GHz, that had no beat of the channel (R198). -/
def tickCredits (s : State) : State :=
  { s with dma := s.dma.map fun x =>
      (x.1, { x.2 with creditR := min (chCap s x.1) (x.2.creditR + (10 - x.2.usedR) * chShare s x.1), usedR := 0,
                       creditW := min (chCap s x.1) (x.2.creditW + (10 - x.2.usedW) * chShare s x.1), usedW := 0 }) }

/-! ### Commands -/

/-- A register write to a channel: `off` is the offset of the register of channel 0. -/
def chCmd (c : ChanId) (off : Nat) (v : Word) (f : State → State) (s : State) : Host.Outcome State Fault Refusal :=
  .next (regCmd (chPage (chKey c)) (off + 0x40 * chanNo c) v hostSrc f s)

/-- What a channel does of itself: from SR_REL on (R342). -/
def chRun (c : ChanId) (f : State → Nat → State) (s : State) : Host.Outcome State Fault Refusal :=
  .next (whenReleased (fun s => f s (chKey c)) s)

/-- START. -/
def execStart (c : ChanId) (s : State) : Host.Outcome State Fault Refusal := chCmd c 0x100 1 (fun s => chCtrlWrite s (chKey c) 1) s

/-- RESET. -/
def execReset (c : ChanId) (s : State) : Host.Outcome State Fault Refusal := chCmd c 0x100 4 (fun s => chCtrlWrite s (chKey c) 4) s

/-- HALTREQ. -/
def execHaltreq (c : ChanId) (s : State) : Host.Outcome State Fault Refusal := chCmd c 0x100 2 (fun s => chCtrlWrite s (chKey c) 2) s

/-- DOORBELL. -/
def execDoorbell (c : ChanId) (s : State) : Host.Outcome State Fault Refusal := chCmd c 0x118 1 (fun s => doorbellCh s (chKey c)) s

/-- DESC_FETCH. -/
def execDescFetch (c : ChanId) (s : State) : Host.Outcome State Fault Refusal := chRun c (fun s k => fetchDesc s k) s

/-- COPY. -/
def execCopy (c : ChanId) (s : State) : Host.Outcome State Fault Refusal := chRun c (fun s k => perform s k 0) s

/-- COMPARE. -/
def execCompare (c : ChanId) (s : State) : Host.Outcome State Fault Refusal := chRun c (fun s k => perform s k 2) s

/-- GATHER. -/
def execGather (c : ChanId) (s : State) : Host.Outcome State Fault Refusal := chRun c (fun s k => perform s k 3) s

/-- SCATTER. -/
def execScatter (c : ChanId) (s : State) : Host.Outcome State Fault Refusal := chRun c (fun s k => perform s k 4) s

/-- DMA_READ_BEAT. -/
def execDmaReadBeat (c : ChanId) (s : State) : Host.Outcome State Fault Refusal :=
  chRun c (fun s k => beatSlot (settle s k) k false) s

/-- DMA_WRITE_BEAT. -/
def execDmaWriteBeat (c : ChanId) (s : State) : Host.Outcome State Fault Refusal :=
  chRun c (fun s k => beatSlot (settle s k) k true) s

/-- DESC_COMPLETE. -/
def execDescComplete (c : ChanId) (s : State) : Host.Outcome State Fault Refusal := chRun c (fun s k => completeDesc s k) s

/-- RECHECK. -/
def execRecheck (c : ChanId) (s : State) : Host.Outcome State Fault Refusal := chRun c (fun s k => recheck s k) s

/-- RESP_SLOW. -/
def execRespSlow (c : ChanId) (s : State) : Host.Outcome State Fault Refusal := chRun c (fun s k => respSlow s k) s

end Sys2Proof.Machine
end

