-- ==== Sys2Proof/Machine/Ports.lean ====
section
/-! DEFINITION. The stream entries of the Zilaek engines, the Ethernet ports and the host port (R399 to R402, R419,
R439 to R442). An entry is named by a key: 2,048 + 64 n + e for entry e of ZKn, 2,432 + 32 n + e for entry e of ETHn,
2,688 + k for host ring entry k; keys below 2,048 are entry k of region r's stream unit, as 128 r + k. -/

namespace Sys2Proof.Machine
open Sys2Proof

def isZilEnt (key : Nat) : Bool := decide (2048 ≤ key ∧ key < 2432)
def isEthEnt (key : Nat) : Bool := decide (2432 ≤ key ∧ key < 2688)
def isHostEnt (key : Nat) : Bool := decide (2688 ≤ key)

/-- Link engine or port number and entry number of a key. -/
def entUnit (key : Nat) : Nat := if isZilEnt key then (key - 2048) / 64 else if isEthEnt key then (key - 2432) / 32 else 0
def entNo (key : Nat) : Nat :=
  if isZilEnt key then (key - 2048) % 64 else if isEthEnt key then (key - 2432) % 32 else key - 2688

def zilKey (n e : Nat) : Nat := 2048 + 64 * n + e
def ethKey (n e : Nat) : Nat := 2432 + 32 * n + e
def hostKey (k : Nat) : Nat := 2688 + k

def entPage (key : Nat) : Nat :=
  if isZilEnt key then pgZLNK (entUnit key) else if isEthEnt key then pgETHP (entUnit key) else pgHPCI

def entBase (key : Nat) : Nat := (if isEthEnt key then 0x400 else 0x800) + 0x20 * entNo key

/-- A field of an entry: word offset and bits. -/
def ef (key o hi lo : Nat) : Fld := ⟨entBase key + o, hi, lo⟩

def getE (s : State) (key o hi lo : Nat) : Nat := getF s (entPage key) (ef key o hi lo)
def setE (s : State) (key o hi lo v : Nat) : State := setF s (entPage key) (ef key o hi lo) v

def entEn (s : State) (key : Nat) : Bool := getE s key 0 31 31 == 1
def entOutbound (s : State) (key : Nat) : Bool := getE s key 0 30 30 == 1
def entProt (s : State) (key : Nat) : Bool := getE s key 0 29 29 == 1
def entStream (s : State) (key : Nat) : Nat := getE s key 0 13 0
def entLog (s : State) (key : Nat) : Nat :=
  let n := if isHostEnt key then getE s key 0 21 18 else getE s key 0 22 18
  let top := if isHostEnt key then 15 else 20
  if 4 ≤ n ∧ n ≤ top then n else 4
def entSize (s : State) (key : Nat) : Nat := 2 ^ entLog s key
def entSeq (s : State) (key : Nat) : Nat := getE s key (if isHostEnt key then 0x10 else 8) 31 0
def setEntSeq (s : State) (key v : Nat) : State := setE s key (if isHostEnt key then 0x10 else 8) 31 0 v
def entFill (s : State) (key : Nat) : Nat := if isHostEnt key then (endOf s key).fill else getE s key 0xC 20 0
def setEntFill (s : State) (key v : Nat) : State :=
  if isHostEnt key then setEnd s key { endOf s key with fill := v } else setE s key 0xC 20 0 v

/-- Router and interface at which an entry's engine stands (R205, R399). -/
def entIf (key : Nat) : Nat × Nat :=
  if isZilEnt key then initIf (0x221 + entUnit key)
  else if isEthEnt key then (if entUnit key < 4 then (18, 2) else (19, 2))
  else (16, 2)

/-! ### Rings in module memory (R400) -/

def entRing (s : State) (key : Nat) : Nat := getE s key 4 18 0 * 65536
def entSlot (s : State) (key q : Nat) : Nat := entRing s key + 8 * (q % entSize s key)

def tokSlot (t : Tok) : List Byte := toBytes 8 (t.data.toNat + tagsOf t * 2 ^ 32)

def entStore (s : State) (key q : Nat) (t : Tok) : State := (storeLp s (entSlot s key q) (tokSlot t) 255 false).1

/-- Reads a token from a ring; a bad word sets ERR (R148). -/
def entLoad (s : State) (key q : Nat) : Tok × State :=
  let a := entSlot s key q
  let n := ofBytes (memBytes s a 8)
  let t := tokOf (word n) (bitsOf n 35 32)
  ({ t with err := t.err || isBad (markCode (markAt s a)) }, eccNote s (.lpddr a) a a)

/-- The ring of an entry breaks R400. -/
def entRingBad (s : State) (key : Nat) : Bool :=
  let a := entRing s key
  let n := 8 * entSize s key
  !(isHostEnt key && entOutbound s key) &&
    (decide (0x800000000 < a + n) || (decide (a < locketEnd s) && decide (locketBase s < a + n)))

/-- Another enabled entry of the same engine, in the same direction, carries the stream ID (R229, R399, R442). -/
def entBound (s : State) (key : Nat) : Bool :=
  let first := key - entNo key
  let n := if isEthEnt key then 32 else 64
  (List.range n).any fun e =>
    let j := first + e
    j != key && entEn s j && (entOutbound s j == entOutbound s key) && entStream s j == entStream s key

/-! ### Credits toward inside (R231, R401) -/

/-- A stream packet from an entry to its inside peer. -/
def entPkt (s : State) (key : Nat) : Pkt :=
  { blankPkt with
    cls := .stream, vc := getE s key 0 28 28 == 1, drt := getE s key 4 31 27, dpt := getE s key 4 26 24,
    stream := entStream s key, rtr := (entIf key).1 }

/-- A CREDIT packet from an entry to its inside peer. -/
def entCredit (s : State) (key n : Nat) : State :=
  if n = 0 then s else inject s { entPkt s key with credit := true, seq := n }

/-- An entry's interface refuses its route, which its page counts and reports once (R20, R306). -/
def entRouteNote (s : State) (key : Nat) : State :=
  if (endOf s key).refused then s else refuseAt (modEnd s key fun e => { e with refused := true }) (entPage key) 0x33 0

/-- Credits gathered by an OUTBOUND entry go back when `CRBATCH` have gathered or its ring is empty (R231). -/
def entReturn (s : State) (key : Nat) : State :=
  let e := endOf s key
  let batch := max 1 (getF s (pgRRTR (entIf key).1) RRTR.STRM_CFG_CRBATCH)
  if 0 < e.gathered ∧ (batch ≤ e.gathered ∨ entFill s key = 0) then
    if !(routeWhole s 24 (entIf key).1 (entPkt s key)) then entRouteNote s key
    else if !(localRoom s (entPkt s key)) then s
    else entCredit (modEnd s key fun e => { e with gathered := 0 }) key e.gathered
  else s

/-- Free slots of a host ring: 2^LOG2SZ − (DIDX − HIDX) (R441). -/
def hostFree (s : State) (key : Nat) : Nat :=
  entSize s key - ((getE s key 0x14 15 0 + 65536 - getE s key 0x18 15 0) % 65536 + (endOf s key).fill)

/-! ### Toward inside: INBOUND entries (R230, R401) -/

/-- Tokens of a ring from `q` on, at most `n`, up to and with one that carries LAST. -/
def takeRun : Nat → State → Nat → Nat → List Tok × State
  | 0, s, _, _ => ([], s)
  | n + 1, s, key, q =>
    let x := entLoad s key q
    if x.1.last then ([x.1], x.2) else let y := takeRun n x.2 key (q + 1); (x.1 :: y.1, y.2)

/-- `PACK_WAIT` router cycles, ten in a tick, have passed since the first token of an entry's packet (R230). -/
def entWaited (s : State) (key : Nat) : Bool :=
  let w := getF s (pgRRTR (entIf key).1) RRTR.STRM_CFG_PACK_WAIT
  w == 0 || ((endOf s key).since != 0 && decide (w ≤ 10 * (s.age + 1 - (endOf s key).since)))

/-- Sends packets of what an INBOUND entry holds and has credit for, as an out-endpoint does: 14 tokens, one with LAST, no
credit for a further one, or `PACK_WAIT` (R230, R401). -/
def pumpIn : Nat → State → Nat → State
  | 0, s, _ => s
  | fuel + 1, s, key =>
    let e := endOf s key
    let n := min 14 (min e.credits (entFill s key - e.fresh - e.sent))
    if entEn s key && !(entOutbound s key) && decide (0 < n) then
      let q := (entSeq s key + 2 ^ 32 - entFill s key + e.sent) % 2 ^ 32
      let x := takeRun n s key q
      let m := x.1.length
      if !(routeWhole s 24 (entIf key).1 (entPkt s key)) then entRouteNote s key
      else if !(localRoom s (entPkt s key)) then s
      else if m = 14 ∨ x.1.getLast?.any Tok.last = true ∨ e.credits = m ∨ entWaited s key = true then
        let s := inject x.2 { entPkt s key with seq := q, toks := x.1 }
        pumpIn fuel (modEnd s key fun e => { e with sent := e.sent + m, credits := e.credits - m, since := 0, refused := false }) key
      else if e.since = 0 then modEnd s key fun e => { e with since := s.age + 1 }
      else s
    else s

/-- Paired mode holds a port token until its partner has acknowledged it (R264, R291). -/
def pairHolds (s : State) (key : Nat) : Bool := flagF s pgDACW DACW.PAIR_CFG_EN && entProt s key

/-- An INBOUND entry stores a token from the line (R401, R440). -/
def entAccept (s : State) (key : Nat) (t : Tok) : State :=
  let s := entStore s key (entSeq s key) t
  let s := setEntFill (setEntSeq s key (entSeq s key + 1)) key (entFill s key + 1)
  if pairHolds s key then { modEnd s key fun e => { e with fresh := e.fresh + 1 } with mirror := s.mirror ++ [.token key t] }
  else s

/-- Room in the ring of an INBOUND entry. -/
def entRoom (s : State) (key : Nat) : Nat := entSize s key - entFill s key

/-- A CREDIT packet from an entry to the source device of its stream (R401): it carries the stream ID on the line. -/
def lineCredit (s : State) (key n : Nat) : State :=
  -- a device that hands its positions over withholds the credits of protected ingresses (R349)
  if n = 0 ∨ isZilEnt key = false ∨ (entProt s key = true ∧ (s.load.handing.isSome ∨ s.strand.paired.yields = true)) then s
  else (sendData s (entUnit key) (getE s key 0x10 17 0)
    { blankPkt with cls := .stream, stream := entStream s key, credit := true, seq := n }).1

/-! ### Toward the line: OUTBOUND entries (R287, R292, R401, R419, R441) -/

/-- A journal record opened before the emission that a stamp names is not acknowledged yet: it is still gathered, or its
mirror item waits (R292). -/
def stampHeld (s : State) (x : Nat) : Bool :=
  (s.mirror.any fun m => match m with | .journal r n _ => r == x % 16 && decide (n < x / 16) | _ => false) ||
    (List.range 16).any fun l => (protOf s (16 * (x % 16) + l)).bufs.any fun g => decide (g.number < x / 16)

/-- In paired mode, how many of the tokens from place `i` of an entry's ring on may leave: those before the first that waits for
an acknowledgement (R292). -/
def mayEmit (s : State) (key i n : Nat) : Nat :=
  if flagF s pgDACW DACW.PAIR_CFG_EN && entProt s key then
    min n ((((endOf s key).stamps.drop i).take n).takeWhile fun x => !(stampHeld s x)).length
  else n

/-- Sends on the line what an OUTBOUND Zilaek entry holds and has the remote's credit for. -/
def pumpLineOut : Nat → State → Nat → State
  | 0, s, _ => s
  | fuel + 1, s, key =>
    let e := endOf s key
    let n := mayEmit s key e.sent (min 14 (min e.credits (entFill s key - e.sent)))
    if entEn s key && entOutbound s key && decide (0 < n) then
      let q := (entSeq s key + 2 ^ 32 - entFill s key + e.sent) % 2 ^ 32
      let x := takeRun n s key q
      let m := x.1.length
      let ra := getE s key 0x10 31 0
      let s := (sendData x.2 (entUnit key) (ra / 2 ^ 14)
        { blankPkt with cls := .stream, stream := ra % 2 ^ 14, seq := q, toks := x.1 }).1
      let s := setE s key 0x14 31 0 (q + m - 1)
      pumpLineOut fuel (modEnd s key fun e => { e with sent := e.sent + m, credits := e.credits - m }) key
    else s

/-- Frames waiting in an egress queue of a port, in bytes (R421). -/
def ethQueue (s : State) (n q : Nat) : List EthOut := look [] s.ethQ (8 * n + q)

def ethBytes (l : List EthOut) : Nat := l.foldl (fun n f => n + f.bytes.length) 0

/-- The tokens from `q` on up to and with LAST, when the ring holds it within `n`. -/
def wholeFrame (s : State) (key q n : Nat) : Option (List Tok × State) :=
  let x := takeRun n s key q
  if x.1.getLast?.any Tok.last then some x else none

/-- Takes whole frames from an OUTBOUND Ethernet entry's ring into its egress queue, or drops them (R419, R421). -/
def pumpEthOut : Nat → State → Nat → State
  | 0, s, _ => s
  | fuel + 1, s, key =>
    let fill := entFill s key
    if entEn s key && entOutbound s key && decide (0 < fill) then
      let q := (entSeq s key + 2 ^ 32 - fill) % 2 ^ 32
      match wholeFrame s key q (mayEmit s key 0 fill) with
      | none => s
      | some (ts, s') =>
        let n := entUnit key
        let d := (ts.headD Tok.zero).data.toNat
        let len := bitsOf d 15 0
        let bytes := ((ts.drop 1).map fun t => toBytes 4 t.data.toNat).flatten.take len
        let free (s : State) : State :=
          entReturn (modEnd (setEntFill s key (fill - ts.length)) key fun e =>
            { e with gathered := e.gathered + ts.length, stamps := e.stamps.drop ts.length }) key
        if ts.length - 1 ≠ (len + 3) / 4 then
          pumpEthOut fuel (free (raiseEv (errCount s' (entPage key)) (entPage key) 0x34 0)) key
        else if bitsOf d 31 30 = 3 ∨ len < 60 ∨ getF s (pgETHP n) ETHP.CFG_MAXLEN < len + 4 then pumpEthOut fuel (free s') key
        else
          let k := 8 * n + bitsOf d 29 27
          let l := look [] s'.ethQ k
          if ethBytes l + len ≤ 65536 then
            let f : EthOut := ⟨bytes, bitsOf d 31 30, bitsOf d 26 16, entStream s key, q, entNo key⟩
            pumpEthOut fuel (free { s' with ethQ := put [] s'.ethQ k (l ++ [f]) }) key
          else s
    else s

/-- Writes the device index after a host ring and raises its vector (R439 to R441). -/
def hostRing (s : State) (key : Nat) : Nat := getE s key 8 31 12 * 4096 + getE s key 0xC 31 0 * 2 ^ 32

def writeDidx (s : State) (key v : Nat) : State :=
  let s := setE s key 0x14 15 0 v
  let s := setHostBytes s (hostRing s key + 8 * entSize s key) (toBytes 4 (v % 65536))
  if getE s key 8 0 0 = 1 then raiseVector s (48 + entNo key) else s

/-- An INBOUND host entry reads the slots from `DIDX` up to `HIDX` while its ring has room (R440). -/
def hostPullGo : Nat → State → Nat → State
  | 0, s, _ => s
  | fuel + 1, s, key =>
    let d := getE s key 0x14 15 0
    if d ≠ getE s key 0x18 15 0 ∧ 0 < entRoom s key then
      let n := ofBytes (hostBytes s (hostRing s key + 8 * (d % entSize s key)) 8)
      hostPullGo fuel (writeDidx (entAccept s key (tokOf (word n) (bitsOf n 35 32))) key (d + 1)) key
    else s

def hostPull (s : State) (key : Nat) : State :=
  if entEn s key && !(entOutbound s key) && !(endOf s key).stall then pumpIn 4096 (hostPullGo 32768 s key) key else s

/-- Writes the oldest token that an OUTBOUND host entry holds into slot `DIDX` (R441). -/
def hostRingWrite (s : State) (key : Nat) : State :=
  let e := endOf s key
  match e.held with
  | t :: rest =>
    if entEn s key && entOutbound s key && !e.stall && decide (0 < mayEmit s key 0 1) then
      let d := getE s key 0x14 15 0
      let s := setHostBytes s (hostRing s key + 8 * (d % entSize s key)) (tokSlot t)
      writeDidx (setEnd s key { e with held := rest, fill := e.fill - 1, stamps := e.stamps.drop 1 }) key (d + 1)
    else s
  | [] => s

/-- Moves on what an entry holds. -/
def pumpEnt (s : State) (key : Nat) : State :=
  if entOutbound s key then
    (if isZilEnt key then pumpLineOut 4096 s key else if isEthEnt key then pumpEthOut 4096 s key else s)
  else pumpIn 4096 s key

/-! ### Packets from inside (R232, R233, R401) -/

/-- An OUTBOUND entry stores a token from inside. -/
def outStore (s : State) (key stamp : Nat) (t : Tok) : State :=
  let s := modEnd s key fun e => { e with stamps := e.stamps ++ [stamp] }
  if isHostEnt key then
    setEntSeq (modEnd s key fun e => { e with held := e.held ++ [t], fill := e.fill + 1 }) key (entSeq s key + 1)
  else setEntFill (setEntSeq (entStore s key (entSeq s key) t) key (entSeq s key + 1)) key (entFill s key + 1)

/-- The inside peer of an INBOUND entry returns credits: that many sent tokens leave the ring (R401). -/
def inCredited (s : State) (key n : Nat) : State :=
  let e := endOf s key
  let m := min n e.sent
  let s := setEntFill (setEnd s key { e with credits := e.credits + n, sent := e.sent - m }) key (entFill s key - m)
  let s := pumpIn 4096 (lineCredit s key m) key
  if isHostEnt key then hostPull s key else s

/-- The remote entry returns credits to an OUTBOUND Zilaek entry (R401). -/
def outCredited (s : State) (key n : Nat) : State :=
  let e := endOf s key
  let m := min n e.sent
  let s := setEnd s key { e with credits := e.credits + n, sent := e.sent - m, gathered := e.gathered + m, stamps := e.stamps.drop m }
  let s := setE (setEntFill s key (entFill s key - m)) key 0x18 31 0 (getE s key 0x18 31 0 + m)
  pumpLineOut 4096 (entReturn s key) key

/-- What waited at the port entries for credits of their interfaces, or for `PACK_WAIT`, goes on (R12, R230). -/
def portTick (s : State) : State :=
  s.ends.foldl (fun s x =>
    if 2048 ≤ x.1 ∧ x.2.refused = false then (if entOutbound s x.1 then entReturn s x.1 else pumpIn 4096 s x.1) else s) s

/-! ### Enabling (R231, R399, R400, R442) -/

/-- An entry has been enabled: credits for its free slots go out. -/
def entStart (s : State) (key : Nat) : State :=
  let s := modEnd s key fun e => { e with stall := false }
  if entOutbound s key then
    let s := if isHostEnt key then entCredit s key (hostFree s key)
      else setE (entCredit s key (entSize s key - entFill s key)) key 0x18 31 0 (entSeq s key + 2 ^ 32 - entFill s key)
    pumpEnt s key
  else pumpEnt (lineCredit s key (entRoom s key)) key

/-- A write of `EN` = 1: ignored, counted and reported when it breaks R229 or R400. -/
def entEnable (s : State) (key : Nat) : State :=
  if entBound s key || entRingBad s key then raiseEv (errCount s (entPage key)) (entPage key) 0x3A 0
  else whenReleased (fun s => entStart s key) (setE s key 0 31 31 1)

end Sys2Proof.Machine
end

