-- ==== Sys2Proof/Machine/Streams.lean ====
section
/-! DEFINITION. Stream packets at endpoints, the region stream units, and memory mode (R226 to R236). -/

namespace Sys2Proof.Machine
open Sys2Proof

/-! ### Which endpoint a packet meets (R205, R228, R233, R399) -/

/-- Link engine of an interface, if a Zilaek link stands there. -/
def linkAt (r d : Nat) : Option Nat := (List.range 6).find? fun n => initIf (0x221 + n) == (r, d)

/-- Keys of the endpoints behind an interface. -/
def entriesAt (r d : Nat) : List Nat :=
  if r < 16 then (if d = 3 then (List.range 128).map fun k => 128 * r + k else [])
  else match linkAt r d with
    | some n => (List.range 64).map (zilKey n)
    | none =>
      if r = 16 ∧ d = 2 then (List.range 64).map hostKey
      else if r = 18 ∧ d = 2 then (List.range 128).map fun e => 2432 + e
      else if r = 19 ∧ d = 2 then (List.range 128).map fun e => 2432 + 128 + e
      else []

/-- An enabled endpoint that takes DATA packets of a stream. -/
def takesData (s : State) (key stream : Nat) : Bool :=
  if key < 2048 then
    !(isOut (key % 128)) && epEn s (key / 128) (key % 128) && getF s (pgRRTR (key / 128)) (RRTR.EP_CTL_STREAM (key % 128)) == stream
  else entEn s key && entOutbound s key && entStream s key == stream

/-- An enabled endpoint that takes CREDIT packets of a stream. -/
def takesCredit (s : State) (key stream : Nat) : Bool :=
  if key < 2048 then
    isOut (key % 128) && epEn s (key / 128) (key % 128) && epMode s (key / 128) (key % 128) != 1 &&
      getF s (pgRRTR (key / 128)) (RRTR.EP_CTL_STREAM (key % 128)) == stream
  else entEn s key && !(entOutbound s key) && entStream s key == stream

/-! ### Receiving DATA (R232) -/

/-- Sequence a precedes sequence b (R227). -/
def precedes (a b : Nat) : Bool :=
  let d := (b + 2 ^ 32 - a % 2 ^ 32) % 2 ^ 32
  decide (1 ≤ d) && decide (d < 2 ^ 31)

/-- The full sequence number of token 0 from its low 24 bits and the number expected next. -/
def fullSeq (e seq24 : Nat) : Nat :=
  let d := (seq24 + 2 ^ 24 - e % 2 ^ 24) % 2 ^ 24
  if d < 2 ^ 23 then (e + d) % 2 ^ 32 else (e + d + 2 ^ 32 - 2 ^ 24) % 2 ^ 32

/-- Sequence expected next at an endpoint. -/
def expected (s : State) (key : Nat) : Nat :=
  if key < 2048 then epSeq s (key / 128) (key % 128) else entSeq s key

/-- Stores the next token of a stream at an endpoint that takes DATA packets from inside. -/
def storeNext (s : State) (key stamp : Nat) (t : Tok) : State :=
  if key < 2048 then
    let r := key / 128
    let k := key % 128
    let p := pgRRTR r
    let s := ringStore s r k (epSeq s r k) t
    setF (setF s p (RRTR.EP_SEQ k) (epSeq s r k + 1)) p (RRTR.EP_CRED_COUNT k) (epCount s r k + 1)
  else outStore s key stamp t

/-- A repeated token: counted, and one credit returned. -/
def dupToken (s : State) (key : Nat) : State :=
  let s := modEnd s key fun e => { e with gathered := e.gathered + 1 }
  if key < 2048 then incF s (pgRRTR (key / 128)) RRTR.DUP 1 else incF s (entPage key) (ef key 0x1C 31 0) 1

/-- A gap: the endpoint is disabled, with its event. -/
def seqGap (s : State) (key : Nat) : State :=
  if key < 2048 then raiseEv (setF s (pgRRTR (key / 128)) (RRTR.EP_CTL_EN (key % 128)) 0) (pgRRTR (key / 128)) 0x39 0
  else raiseEv (setE s key 0 31 31 0) (entPage key) 0x39 0

/-- Takes the tokens of a packet in order; answers also whether one of them was a repeat. -/
def takeToks (key : Nat) (store : State → Tok → State) : List Tok → Nat → State → Bool → State × Bool
  | [], _, s, dup => (s, dup)
  | t :: ts, q, s, dup =>
    let e := expected s key
    if precedes q e then takeToks key store ts ((q + 1) % 2 ^ 32) (dupToken s key) true
    else if q = e then takeToks key store ts ((q + 1) % 2 ^ 32) (store s t) dup
    else (seqGap s key, dup)

/-- A DATA packet at its endpoint; `r` is the router whose page reports repeats. -/
def receiveData (s : State) (r key : Nat) (store : State → Tok → State) (k : Pkt) : State :=
  let x := takeToks key store k.toks (fullSeq (expected s key) k.seq) s false
  if x.2 then raiseOpt x.1 (pgRRTR r) 3 0x52 0 else x.1

/-- A stream packet that meets no endpoint (R233). -/
def noEndpoint (s : State) (r : Nat) : State := raiseEv (errCount s (pgRRTR r)) (pgRRTR r) 0x3B 0

/-- Tokens whose bits a failing part of the payload covers get ERR (R224). -/
def spoil (ts : List Tok) (bad : Nat) : List Tok := ts.zipIdx.map fun x => { x.1 with err := x.1.err || bitOf bad x.2 }

/-- STREAM_DATA at an interface. -/
def streamData (s : State) (r d corr bad : Nat) : State :=
  match arrivedAt s r d fun k => k.cls == .stream && !k.credit with
  | none => s
  | some (k, i) =>
    let s := destCheck (takePkt s i) r k corr (bad != 0)
    let k := { k with toks := spoil k.toks bad }
    match (entriesAt r d).find? fun e => takesData s e k.stream with
    | none => noEndpoint s r
    | some key =>
      let s := receiveData s r key (fun s t => storeNext s key k.stamp t) k
      if key < 2048 then feedSI s (key / 128) (key % 128) else pumpEnt (entReturn s key) key

/-- STREAM_CREDIT at an interface. Its count lies in the header: an error in its payload is reported and has no other effect
(R224). -/
def streamCredit (s : State) (r d : Nat) (e : FlitCheck) : State :=
  match arrivedAt s r d fun k => k.cls == .stream && k.credit with
  | none => s
  | some (k, i) =>
    let s := destCheck (takePkt s i) r k e.corr.val e.bad
    match (entriesAt r d).find? fun e => takesCredit s e k.stream with
    | none => noEndpoint s r
    | some key =>
      if key < 2048 then
        let p := pgRRTR (key / 128)
        let e := key % 128
        takeSO (setF s p (RRTR.EP_CRED_COUNT e) (min (2 ^ 21 - 1) (epCount s (key / 128) e + k.seq))) (key / 128) e
      else inCredited s key k.seq

/-! ### The stream unit's out-endpoints and credits (R230, R231) -/

def epPkt (s : State) (r k : Nat) : Pkt :=
  let p := pgRRTR r
  { blankPkt with
    cls := .stream, vc := flagF s p (RRTR.EP_CTL_VC k), drt := getF s p (RRTR.EP_ROUTE_DRT k), dpt := getF s p (RRTR.EP_ROUTE_DPT k),
    stream := getF s p (RRTR.EP_CTL_STREAM k), rtr := r }

/-- Sends what an out-endpoint holds as one packet. -/
def sendHeld (s : State) (r k : Nat) : State :=
  let e := endOf s (128 * r + k)
  if e.held = [] then s
  else
    let n := e.held.length
    let s := inject s { epPkt s r k with seq := epSeq s r k, toks := e.held, stamp := (e.stamps.take n).foldl max 0 }
    let s := setF s (pgRRTR r) (RRTR.EP_SEQ k) (epSeq s r k + n)
    modEnd s (128 * r + k) fun e => { e with held := [], stamps := e.stamps.drop n, refused := false }

/-- An entry's interface refuses its route, which page `p` counts and reports once (R20, R306). -/
def routeNote (s : State) (key p : Nat) : State :=
  if (endOf s key).refused then s else refuseAt (modEnd s key fun e => { e with refused := true }) p 0x33 0

/-- The same while the endpoint's interface takes the packet: it waits for the interface's credits, and a refused route keeps
the tokens (R12, R215, R306). -/
def sendIfMay (s : State) (r k : Nat) : State :=
  if (endOf s (128 * r + k)).held = [] then s
  else if !(routeWhole s 24 r (epPkt s r k)) then routeNote s (128 * r + k) (pgRRTR r)
  else if localRoom s (epPkt s r k) then sendHeld s r k
  else s

/-- STREAM_PACKET_SEND: 14 tokens, LAST, or no credit for a further token (R230). -/
def packetSend (s : State) (r k : Nat) : State :=
  let s := takeSO s r k
  let e := endOf s (128 * r + k)
  if isOut k && (e.held.length == 14 || e.held.getLast?.any Tok.last || epCount s r k == 0) then takeSO (sendIfMay s r k) r k else s

/-- An in-endpoint's CREDIT packet to its peer. -/
def epCredit (s : State) (r k n : Nat) : State := if n = 0 then s else inject s { epPkt s r k with credit := true, seq := n }

/-- CREDIT_RETURN (R231). -/
def creditReturn (s : State) (r k : Nat) : State :=
  let s := feedSI s r k
  let e := endOf s (128 * r + k)
  let batch := max 1 (getF s (pgRRTR r) RRTR.STRM_CFG_CRBATCH)
  if !(isOut k) && epEn s r k && decide (0 < e.gathered) && (decide (batch ≤ e.gathered) || epCount s r k == 0) then
    if !(routeWhole s 24 r (epPkt s r k)) then routeNote s (128 * r + k) (pgRRTR r)
    else if !(localRoom s (epPkt s r k)) then s
    else epCredit (modEnd s (128 * r + k) fun e => { e with gathered := 0 }) r k e.gathered
  else s

/-! ### Memory mode (R234) -/

def memBase (s : State) (r k : Nat) : Nat :=
  (epSeq s r k + bitsOf (getF s (pgRRTR r) (RRTR.EP_CRED_BASE k)) 15 0 * 2 ^ 32) % 2 ^ 48

/-- The head token of the SOp queue that a memory-mode endpoint may take. -/
def memHead (s : State) (r k : Nat) : Option (Tok × Nat) :=
  if isOut k && epEn s r k && epMode s r k == 1 then
    (if outputsIgnored s (16 * r + k / 8) then none else outTile s (16 * r + k / 8)).bind fun t =>
      ((queueOf (tileOf s t) (13 + k % 8)).head?).map fun h => (h, t)
  else none

def popSO (s : State) (t k : Nat) : State :=
  let s := modTile s t fun x => setQueue x (13 + k % 8) ((queueOf x (13 + k % 8)).drop 1)
  modEnd s (128 * (posOf s t / 16) + 8 * (posOf s t % 16) + k % 8) fun e => { e with stamps := e.stamps.drop 1 }

def isDueTok : Due → Bool
  | .read _ _ => true
  | .report => true
  | .write _ _ => false

/-- SIp tokens due or waiting (R234). -/
def dueCount (s : State) (r k : Nat) : Nat :=
  ((endOf s (128 * r + k)).due.filter isDueTok).length +
    ((inputTakers s (16 * r + k / 8)).map fun p => (waitingAt s p (8 + k % 8)).length).foldl max 0

/-- An access that the endpoint's interface refuses, with the count and the event of R20. -/
def memRefuse (s : State) (r a code : Nat) : State := refuseAt s (pgRRTR r) code (a % 2 ^ 32)

def refusedAt (s : State) (src a : Nat) : Nat := firstCode (interfaceCode a) (if routeRefused s src a then 0x33 else 0)

/-- Sends the open block as one REQ WRITE; `none` when no tag is free. -/
def flushBlock (s : State) (r k : Nat) : Option State :=
  let e := endOf s (128 * r + k)
  let src := 16 * r + k / 8
  match e.block with
  | none => some s
  | some b =>
    let c := refusedAt s src b.addr
    if c ≠ 0 then
      some (memRefuse (setEnd s (128 * r + k) { e with block := none, due := e.due ++ [.write 256 (some c)] }) r b.addr c)
    else
      match freeTag s src with
      | none => none
      | some g =>
        let s := setEnd s (128 * r + k) { e with block := none, due := e.due ++ [.write g none] }
        sendReq s src (flagF s (pgRRTR r) (RRTR.EP_CTL_VC k)) true b.addr 0 b.be b.data b.poison (.memWrite (128 * r + k))

/-- Adds one word to the open block, or opens one. -/
def blockAdd (s : State) (r k a : Nat) (t : Tok) : State :=
  let o := a % 64
  let put4 (d : List Byte) : List Byte := d.take o ++ toBytes 4 t.data.toNat ++ d.drop (o + 4)
  modEnd s (128 * r + k) fun e =>
    let b : OpenBlock := e.block.getD ⟨a / 64 * 64, 0, List.replicate 64 0, t.err⟩
    { e with block := some { b with be := b.be ||| (15 * 2 ^ o), data := put4 b.data }, addr := (a + 4) % 2 ^ 48 }

/-- The open block cannot take a word for address `a` with this poison mark. -/
def blockOther (e : Endp) (a : Nat) (poison : Bool) : Bool :=
  e.block.any fun b => b.addr != a / 64 * 64 || b.poison != poison

/-- Makes room for a word at the current address, then adds it. -/
def memWord1 (s : State) (r k : Nat) (t : Tok) : Option State :=
  let e := endOf s (128 * r + k)
  if blockOther e e.addr t.err then (flushBlock s r k).map fun s => blockAdd s r k e.addr t else some (blockAdd s r k e.addr t)

/-- MEM_MODE_MARK: sets A. -/
def memMark (s : State) (r k : Nat) : State :=
  match memHead s r k with
  | some (h, t) =>
    if h.mark && !h.last then
      match flushBlock s r k with
      | some s => modEnd (popSO s t k) (128 * r + k) fun e =>
          { e with addr := (memBase s r k + h.data.toNat / 4 * 4) % 2 ^ 48 }
      | none => s
    else s
  | none => s

/-- The SOp queue holds no next token. -/
def soEmpty (s : State) (t k : Nat) : Bool := (queueOf (tileOf s t) (13 + k % 8)).isEmpty

/-- MEM_MODE_WRITE: a plain token; with `PACK_WAIT` = 0 the block goes when SOp holds no next token. -/
def memWrite (s : State) (r k : Nat) : State :=
  match memHead s r k with
  | some (h, t) =>
    if !h.mark && !h.last then
      match memWord1 s r k h with
      | some s =>
        let s := popSO s t k
        if getF s (pgRRTR r) RRTR.STRM_CFG_PACK_WAIT = 0 ∧ soEmpty s t k then (flushBlock s r k).getD s else s
      | none => s
    else s
  | none => s

/-- Delivers due SIp tokens in token order: a read's token or a report, once every earlier write has its response. -/
def deliverDue : Nat → State → Nat → Nat → State
  | 0, s, _, _ => s
  | fuel + 1, s, r, k =>
    let key := 128 * r + k
    let e := endOf s key
    let ws := e.due.takeWhile fun d => !(isDueTok d)
    let codes := ws.map fun d => match d with | .write _ c => c | _ => some 0
    let pos := 16 * r + k / 8
    let q := 8 + k % 8
    if codes.all Option.isSome && inputRoom s pos q then
      match e.due.drop ws.length with
      | .report :: rest =>
        let c := codes.foldl (fun a c => firstCode a (c.getD 0)) 0
        deliverDue fuel (enterInput (setEnd s key { e with due := rest }) pos q ⟨word c, false, false, decide (c ≠ 0), false⟩) r k
      | .read _ (some t) :: rest => deliverDue fuel (enterInput (setEnd s key { e with due := ws ++ rest }) pos q t) r k
      | _ => s
    else s

/-- MEM_MODE_LAST_WRITE: writes, sends the block, and reports (R234). -/
def memLastWrite (s : State) (r k : Nat) : State :=
  match memHead s r k with
  | some (h, t) =>
    if !h.mark && h.last && decide (dueCount s r k < 8) then
      match (memWord1 s r k h).bind fun s => flushBlock s r k with
      | some s => deliverDue 8 (modEnd (popSO s t k) (128 * r + k) fun e => { e with due := e.due ++ [.report] }) r k
      | none => s
    else s
  | none => s

/-- MEM_MODE_READ: reads the word at A (R234). -/
def memRead (s : State) (r k : Nat) : State :=
  match memHead s r k with
  | some (h, t) =>
    if h.mark && h.last && decide (dueCount s r k < 8) then
      match flushBlock s r k with
      | some s1 =>
        let key := 128 * r + k
        let a := (endOf s1 key).addr
        let src := 16 * r + k / 8
        let c := refusedAt s1 src a
        let due (s : State) (d : Due) : State := modEnd (popSO s t k) key fun e => { e with due := e.due ++ [d] }
        if c ≠ 0 then deliverDue 8 (memRefuse (due s1 (.read 256 (some ⟨word c, false, false, true, false⟩))) r a c) r k
        else
          match freeTag s1 src with
          | some g =>
            (sendReq (due s1 (.read g none)) src (flagF s1 (pgRRTR r) (RRTR.EP_CTL_VC k)) false a 4 0 [] false (.memRead key)).getD s1
          | none => s1
      | none => s
    else s
  | none => s

/-- A memory-mode response: the due entry with its tag is filled in. -/
def memResponse (s : State) (key tag code : Nat) (bs : List Byte) : State :=
  let f (d : Due) : Due :=
    match d with
    | .read g none => if g = tag then .read g (some (if code = 0 then Tok.plain (word (ofBytes bs)) else ⟨word code, false, false, true, false⟩)) else d
    | .write g none => if g = tag then .write g (some code) else d
    | d => d
  let s := modEnd s key fun e => { e with due := e.due.map f }
  deliverDue 8 s (key / 128) (key % 128)

/-- PACK_WAIT has passed (R230, R234). -/
def packWait (s : State) (r k : Nat) : State :=
  if isOut k then (if epMode s r k = 1 then (flushBlock s r k).getD s else takeSO (sendIfMay s r k) r k) else s

/-! ### Enabling and disabling (R229 to R231, R236) -/

/-- Another enabled entry of the unit carries the stream ID in the same direction. -/
def epBound (s : State) (r k : Nat) : Bool :=
  let p := pgRRTR r
  (List.range 128).any fun j =>
    j != k && epEn s r j && isOut j == isOut k && getF s p (RRTR.EP_CTL_STREAM j) == getF s p (RRTR.EP_CTL_STREAM k)

/-- The ring of an in-endpoint breaks R229. -/
def epRingBad (s : State) (r k : Nat) : Bool :=
  let n := 2 ^ epLog s r k
  let b := getF s (pgRRTR r) (RRTR.EP_ROUTE_BUF k)
  !(isOut k) && (b % n != 0 || decide (0x80000 < b + n + n / 8))

/-- An entry has been enabled: an in-endpoint grants its free slots, a memory-mode entry starts at `BASE`. -/
def epStart (s : State) (r k : Nat) : State :=
  let s := modEnd s (128 * r + k) fun e => { e with addr := memBase s r k, gathered := 0 }
  if isOut k then takeSO s r k else feedSI (epCredit s r k (2 ^ epLog s r k - epCount s r k)) r k

def epEnable (s : State) (r k : Nat) : State :=
  if epEn s r k then s
  else if epBound s r k || epRingBad s r k then raiseEv (errCount s (pgRRTR r)) (pgRRTR r) 0x3A 0
  else whenReleased (fun s => epStart s r k) (setF s (pgRRTR r) (RRTR.EP_CTL_EN k) 1)

def epDisable (s : State) (r k : Nat) : State :=
  if epEn s r k then setF (if isOut k then sendHeld s r k else s) (pgRRTR r) (RRTR.EP_CTL_EN k) 0 else s

/-! ### Commands -/

/-- STREAM_DATA: `corr` and `bad` say what the destination's check finds (R222, R224). -/
def execStreamData (r : RtrN) (d : Fin 5) (corr : Fin 9) (bad : BitVec 14) (s : State) : Host.Outcome State Fault Refusal :=
  .next (whenReleased (fun s => streamData s r.val d.val corr.val bad.toNat) s)

/-- STREAM_CREDIT: at an interface, with what its check finds in the packet. -/
def execStreamCredit (r : RtrN) (d : Fin 5 × FlitCheck) (s : State) : Host.Outcome State Fault Refusal :=
  .next (whenReleased (fun s => streamCredit s r.val d.1.val d.2) s)

/-- STREAM_PACKET_SEND. -/
def execStreamPacketSend (r : RegN) (k : Fin 128) (s : State) : Host.Outcome State Fault Refusal := .next (whenReleased (fun s => packetSend s r.val k.val) s)

/-- PACK_WAIT. -/
def execPackWait (r : RegN) (k : Fin 128) (s : State) : Host.Outcome State Fault Refusal := .next (whenReleased (fun s => packWait s r.val k.val) s)

/-- CREDIT_RETURN. -/
def execCreditReturn (r : RegN) (k : Fin 128) (s : State) : Host.Outcome State Fault Refusal := .next (whenReleased (fun s => creditReturn s r.val k.val) s)

/-- ENDPOINT_ENABLE. -/
def execEndpointEnable (r : RegN) (k : Fin 128) (s : State) : Host.Outcome State Fault Refusal := .next (regCmd (pgRRTR r.val) (RRTR.EP_CTL_EN k.val).off (regAt s (pgRRTR r.val) (RRTR.EP_CTL_EN k.val).off ||| word (2 ^ 31)) hostSrc
    (fun s => epEnable s r.val k.val) s)

/-- ENDPOINT_DISABLE. -/
def execEndpointDisable (r : RegN) (k : Fin 128) (s : State) : Host.Outcome State Fault Refusal := .next (regCmd (pgRRTR r.val) (RRTR.EP_CTL_EN k.val).off (word ((regAt s (pgRRTR r.val) (RRTR.EP_CTL_EN k.val).off).toNat % 2 ^ 31)) hostSrc
    (fun s => epDisable s r.val k.val) s)

/-- MEM_MODE_MARK. -/
def execMemModeMark (r : RegN) (k : Fin 128) (s : State) : Host.Outcome State Fault Refusal := .next (whenReleased (fun s => memMark s r.val k.val) s)

/-- MEM_MODE_WRITE. -/
def execMemModeWrite (r : RegN) (k : Fin 128) (s : State) : Host.Outcome State Fault Refusal := .next (whenReleased (fun s => memWrite s r.val k.val) s)

/-- MEM_MODE_LAST_WRITE. -/
def execMemModeLastWrite (r : RegN) (k : Fin 128) (s : State) : Host.Outcome State Fault Refusal :=
  .next (whenReleased (fun s => memLastWrite s r.val k.val) s)

/-- MEM_MODE_READ. -/
def execMemModeRead (r : RegN) (k : Fin 128) (s : State) : Host.Outcome State Fault Refusal := .next (whenReleased (fun s => memRead s r.val k.val) s)

end Sys2Proof.Machine
end

