-- ==== Sys2Proof/Machine/TileRegs.lean ====
section
/-! DEFINITION. The registers of the tile pages whose state lives in the tile itself: how they read, and how a tile
takes them from words (R54, R138, R139), with the state block of a locket (R278). -/

namespace Sys2Proof.Machine
open Sys2Proof

/-! ### Reading -/

/-- `TSEQ.STATUS`. -/
def seqStatusWord (x : Tile) : Word :=
  word (b2n x.halted * 2 ^ 31 + b2n x.wait.isSome * 2 ^ 30 + b2n x.faulted * 2 ^ 29 + x.level.toNat * 2 ^ 25 +
    x.active.toNat * 2 ^ 21 + x.reps.length % 8 * 2 ^ 18 + x.wpos % 16 * 2 ^ 14 + x.resident % 16 * 2 ^ 10 + x.spilled % 128)

/-- `TSEQ.XFER` as a locket records it (R278). -/
def xferWord (x : Tile) : Word :=
  match x.xfer with
  | some f => word (2 ^ 31 + f.left % 4 * 2 ^ 29 + f.kind.toNat * 2 ^ 27 + b2n f.taken * 2 ^ 16 + f.target.toNat)
  | none => 0

/-- `TSEQ.XFER` as it reads: `PEND` says that the tile is halted in its slots (R138). -/
def xferShown (x : Tile) : Word := word (setBits (xferWord x).toNat 31 31 (b2n (x.halted && x.xfer.isSome)))

/-- The repeat that level `n` shows: the active one, or what a level that is not active keeps (log 76). -/
def repShown (x : Tile) (n : Nat) : Rep := (x.reps[n]?).getD (look ⟨0, 0, 0⟩ x.repLast n)

def repAWord (x : Tile) (n : Nat) : Word := word ((repShown x n).first.toNat * 2 ^ 16 + (repShown x n).last.toNat)

def repBWord (x : Tile) (n : Nat) : Word := word (b2n (decide (n < x.reps.length)) * 2 ^ 16 + (repShown x n).count.toNat)

/-- A `TSEQ` register at byte offset `o`. -/
def seqWord (s : State) (t o : Nat) : Word :=
  let x := tileOf s t
  if o = 8 then word (b2n x.halted)
  else if o = 0xC then seqStatusWord x
  else if o = 0x40 then word x.pc.toNat
  else if o = 0x44 then xferShown x
  else if 0x50 ≤ o ∧ o < 0x70 then (if o % 8 = 0 then repAWord x ((o - 0x50) / 8) else repBWord x ((o - 0x54) / 8))
  else if o = 0x78 then x.retired
  else if 0x80 ≤ o ∧ o < 0xA0 then look 0 x.z ((o - 0x80) / 4)
  else if 0x100 ≤ o ∧ o < 0x400 then look 0 x.ring ((o - 0x100) / 4)
  else regAt s (pgTSEQ t) o

/-- `TSCH.PENDn`: the bits of edge lines and the conditions of level lines (R120, R121). -/
def pendWord (s : State) (t n : Nat) : Word :=
  word ((List.range 32).foldl (fun v b => v + b2n (linePending s t (32 * n + b)) * 2 ^ b) 0)

/-- A `TSCH` register at byte offset `o`, other than `WIN_DATA`. -/
def schWord (s : State) (t o : Nat) : Word :=
  if o = 0x40 then pendWord s t 0
  else if o = 0x44 then pendWord s t 1
  else if o = 0x48 then 0
  else if 0x100 ≤ o ∧ o < 0x200 then
    word (setBits (regAt s (pgTSCH t) o).toNat 30 30 (b2n (isLevelLine ((o - 0x100) / 4))))
  else regAt s (pgTSCH t) o

/-- `TFCT.SLOT_SETn`. -/
def slotSetWord (x : Tile) (n : Nat) : Word :=
  word ((List.range 4).foldl (fun v i => v + (look 0 x.slotSet (4 * n + i)).toNat * 256 ^ i) 0)

/-- Whether a paging command runs (`PAGE_STAT.BUSY`). -/
def pagingBusy (x : Tile) : Bool := x.pageRun.isSome

/-- A `TFCT` register at byte offset `o`. -/
def fctWord (s : State) (t o : Nat) : Word :=
  let x := tileOf s t
  if o = 0x40 then 0
  else if o = 0x44 then
    word (setBits (setBits (regAt s (pgTFCT t) o).toNat 31 31 (b2n (pagingBusy x))) 29 27 x.pageQ.length)
  else if 0x50 ≤ o ∧ o < 0x60 then slotSetWord x ((o - 0x50) / 4)
  else if 0x100 ≤ o ∧ o < 0x240 then slotWord x (getF s (pgTFCT t) TFCT.SLOT_SEL) ((o - 0x100) / 4)
  else regAt s (pgTFCT t) o

/-! ### Taking the state from words -/

/-- The repeats that `REPnA` and `REPnB` words name: the valid levels from level 0 up (R140). -/
def repsOf (f : Nat → Word) : Nat → Nat → List Rep
  | 0, _ => []
  | k + 1, n =>
    let b := (f (0x54 + 8 * n)).toNat
    if bitOf b 16 then
      let a := (f (0x50 + 8 * n)).toNat
      ⟨BitVec.ofNat 16 (a / 65536), BitVec.ofNat 16 a, BitVec.ofNat 16 b⟩ :: repsOf f k (n + 1)
    else []

/-- What the `REPnA` and `REPnB` words say of every level. -/
def repsShown (f : Nat → Word) : SMap Rep :=
  (List.range 4).foldl (fun m n => put ⟨0, 0, 0⟩ m n ⟨BitVec.ofNat 16 ((f (0x50 + 8 * n)).toNat / 65536),
    BitVec.ofNat 16 (f (0x50 + 8 * n)).toNat, BitVec.ofNat 16 (f (0x54 + 8 * n)).toNat⟩) []

/-- The transfer that an `XFER` word names, to level `lvl`. -/
def xferOf (w : Nat) (lvl : BitVec 2) : Option Xfer :=
  if bitOf w 31 then some ⟨bitsOf w 30 29, BitVec.ofNat 2 (bitsOf w 28 27), bitOf w 16, BitVec.ofNat 16 w, lvl⟩ else none

/-- A tile with the `TSEQ` state that the words `f` (by byte offset) give: program counter, transfer, repeats, level,
contexts, ring position, shared and window registers. -/
def takeSeq (x : Tile) (f : Nat → Word) : Tile :=
  let st := (f 0xC).toNat
  { x with
    pc := BitVec.ofNat 16 (f 0x40).toNat
    xfer := xferOf (f 0x44).toNat ((x.xfer.map Xfer.lvl).getD 0)
    reps := repsOf f 4 0
    repLast := repsShown f
    level := BitVec.ofNat 2 (bitsOf st 26 25)
    active := BitVec.ofNat 4 (bitsOf st 24 21) ||| 1
    wpos := bitsOf st 17 14
    resident := max 1 (bitsOf st 13 10)
    spilled := bitsOf st 6 0
    z := (List.range 8).foldl (fun m k => put 0 m k (f (0x80 + 4 * k))) []
    ring := (List.range 192).foldl (fun m k => put 0 m k (f (0x100 + 4 * k))) [] }

/-- The sets of `SLOT_SET0` to `SLOT_SET3` words. -/
def takeSlotSets (x : Tile) (f : Nat → Word) : Tile :=
  let sets := (List.range 16).foldl
    (fun m n => put 0 m n (BitVec.ofNat 8 ((f (0x50 + 4 * (n / 4))).toNat / 256 ^ (n % 4)))) []
  { x with slotSet := sets }

/-! ### The state block (R278) -/

/-- Queue number and place of token slot `i` of the block: lanes, SI, SEQIN, SO. -/
def blockSlot (i : Nat) : Nat × Nat :=
  if i < 32 then (i / 4, i % 4) else if i < 64 then (8 + (i - 32) / 8, (i - 32) % 8)
  else if i < 68 then (12, i - 64) else (13 + (i - 68) / 8, (i - 68) % 8)

/-- A token slot as a 64-bit number. -/
def tokSlotNat : Option Tok → Nat
  | some t => t.data.toNat + tagsOf t * 2 ^ 32 + 2 ^ 63
  | none => 0

def half64 (n hi : Nat) : Word := word (n / 2 ^ (32 * hi))

/-- The tag word of the repeat cache: bit 31 valid, [19:16] length − 1, [15:0] first address (log 31). -/
def cacheTag (x : Tile) : Word :=
  match x.cached with
  | some (f, l) => word (2 ^ 31 + (l.toNat - f.toNat) % 16 * 2 ^ 16 + f.toNat)
  | none => 0

/-- The word of the state area at byte offset `o` for physical tile `t` of position `pos` (R278). Paging-queue words
are in `PAGE_CMD` layout; the selector link takes the two token slots from 0x2040 and `PWR_STATE` the word at 0x2050
(log 31). -/
def blockWordAt (s : State) (t pos o : Nat) : Word :=
  let x := tileOf s t
  if o < 0x100 then 0
  else if o < 0x1500 then
    let c := (o - 0x100) / 0x140
    let i := (o - 0x100) % 0x140
    if i < 0x100 then
      (if i % 0x40 / 4 < 15 then (winItem x c (i / 0x40) (i % 0x40 / 4)).getD 0 else 0)
    else if i < 0x120 then (winItem x c 0 (0x10 + (i - 0x100) / 4)).getD 0
    else 0
  else if o < 0x1600 then
    let i := (o - 0x1500) / 4
    if i = 1 then xferWord x
    else if i < 12 then seqWord s t (0x40 + 4 * i)
    else if i = 12 then seqWord s t 0xC
    else if i < 21 then seqWord s t (0x80 + 4 * (i - 13))
    else 0
  else if o < 0x1900 then look 0 x.ring ((o - 0x1600) / 4)
  else if o < 0x1A00 then
    let i := (o - 0x1900) / 4
    if i = 16 then cacheTag x
    else if i < 16 ∧ bitOf x.cmask.toNat i then look 0 x.cwords i else 0
  else if o < 0x1B00 then (if o < 0x1A30 then schWord s t (0x40 + (o - 0x1A00)) else 0)
  else if o < 0x1C00 then schWord s t (0x100 + (o - 0x1B00))
  else if o < 0x1D00 then 0
  else if o < 0x2020 then
    let q := blockSlot ((o - 0x1D00) / 8)
    half64 (tokSlotNat ((queueOf x q.1)[q.2]?)) (o / 4 % 2)
  else if o < 0x2030 then slotSetWord x ((o - 0x2020) / 4)
  else if o < 0x2040 then
    match x.pageQ[(o - 0x2030) / 4]? with
    | some (set, slot) => word (2 ^ 30 + set.toNat * 2 ^ 16 + slot.val)
    | none => 0
  else if o < 0x2048 then half64 (tokSlotNat (some x.selTok)) (o / 4 % 2)
  else if o < 0x2050 then half64 (tokSlotNat (some x.selIdx)) (o / 4 % 2)
  else if o = 0x2050 then word (getF s (pgTBNK t) TBNK.PWR_STATE)
  else if o < 0x2080 then 0
  else if o < 0x2100 then regAt s (pgRRTR (pos / 16)) (0x800 + 0x80 * (pos % 16) + (o - 0x2080))
  else 0

/-- Bytes 0x40 to 0x20FF of the state area. -/
def stateBlock (s : State) (t pos : Nat) : List Byte :=
  ((List.range 2096).map fun i => toBytes 4 (blockWordAt s t pos (0x40 + 4 * i)).toNat).flatten

/-! ### Restoring a tile from a state area -/

def tokOfSlot (f : Nat → Word) (o : Nat) : Option Tok :=
  let h := (f (o + 4)).toNat
  if bitOf h 31 then some (tokOf (f o) (h % 16)) else none

/-- An output as its two words give it (items 0x14 to 0x17). -/
def setOut (d g : Word) : Out := ⟨tokOf d (g.toNat % 16), bitOf g.toNat 4⟩

def takeCell (c : Cell) (k : Nat) (f : Nat → Word) : Cell :=
  let b := 0x100 + 0x140 * k
  let c := (List.range 4).foldl (fun c l =>
    (List.range (if cellType k = .mac then 15 else 9)).foldl (fun c i => winSet c l i (f (b + 0x40 * l + 4 * i))) c) c
  let c := if cellType k = .alu then (List.range 4).foldl (fun c i => winSet c 0 (0x10 + i) (f (b + 0x100 + 4 * i))) c else c
  { c with o := setOut (f (b + 0x110)) (f (b + 0x114)), q := setOut (f (b + 0x118)) (f (b + 0x11C)) }

/-- The tokens of queue `q` in a state area. -/
def takeQueue (f : Nat → Word) (q : Nat) : List Tok :=
  (List.range 100).filterMap fun i => if (blockSlot i).1 = q then tokOfSlot f (0x1D00 + 8 * i) else none

/-- Word of a `TSEQ` offset in a state area. -/
def seqInBlock (f : Nat → Word) (o : Nat) : Word :=
  if o = 0xC then f 0x1530 else if o < 0x80 then f (0x1500 + (o - 0x40)) else if o < 0x100 then f (0x1534 + (o - 0x80))
  else f (0x1600 + (o - 0x100))

/-- The paging queue in a state area, in `PAGE_CMD` layout. -/
def blockQueue (f : Nat → Word) : List (Byte × Fin 16) :=
  (List.range 4).filterMap fun i =>
    let w := (f (0x2030 + 4 * i)).toNat
    if bitsOf w 31 30 = 1 then some (BitVec.ofNat 8 (bitsOf w 23 16), Fin.ofNat 16 w) else none

/-- A tile as a state area gives it, over what the area has no place for. -/
def takeBlock (x : Tile) (f : Nat → Word) : Tile :=
  let st := (f 0x1530).toNat
  let x := takeSeq { x with cells := (List.range 16).foldl (fun m k => put Cell.init m k (takeCell (look Cell.init x.cells k) k f)) x.cells }
    (seqInBlock f)
  let x := takeSlotSets x fun o => f (0x2020 + (o - 0x50))
  { x with
    halted := bitOf st 31, faulted := bitOf st 29, retired := 0
    wait := if bitOf st 30 then x.wait else none
    cached := if bitOf (f 0x1940).toNat 31 then some (BitVec.ofNat 16 (f 0x1940).toNat,
        BitVec.ofNat 16 (bitsOf (f 0x1940).toNat 15 0 + bitsOf (f 0x1940).toNat 19 16)) else none
    pend := (x.pend &&& 0x2FFFF0000) ||| (BitVec.ofNat 64 ((f 0x1A00).toNat + (f 0x1A04).toNat * 2 ^ 32) &&& ~~~0x2FFFF0000)
    queues := (List.range 17).foldl (fun m q => put [] m q (takeQueue f q)) []
    pageQ := blockQueue f
    cwords := (List.range 16).foldl (fun m i => put 0 m i (if bitOf x.cmask.toNat i then f (0x1900 + 4 * i) else 0)) []
    selTok := (tokOfSlot f 0x2040).getD Tok.zero
    selIdx := (tokOfSlot f 0x2048).getD Tok.zero }

end Sys2Proof.Machine
end

