-- ==== Sys2Proof/Machine/Accept.lean ====
section
/-! DEFINITION. Epochs, cuts, lockets and the paired-mode mirror (R263 to R293). -/

namespace Sys2Proof.Machine
open Sys2Proof

/-! ### Epoch boundaries (R266, R267, R282) -/

/-- The 48-bit epoch counter `DACW.EPOCH`. -/
def epochNow (s : State) : Nat := wideOf s pgDACW DACW.EPOCH_LO.off

/-- The first multiple of the epoch length after time `tb`, in ns. -/
def boundaryAfter (s : State) (tb : Nat) : Nat :=
  let len := 1000 * getF s pgDACW DACW.EPOCH_CFG
  if len = 0 then 0 else (tb / len + 1) * len

/-- What a boundary does at one position: a protected position that does not replay is due for its cut, or its
running capture makes it miss the boundary (R282). -/
def boundaryAt (s : State) (pos : Nat) : State :=
  if isProt s pos && !recovering s pos then
    (if (protOf s pos).capture.isSome then
       setF (raiseEv (incF (incF s (pgRJNL (pos / 16)) RJNL.CAPT_LATE 1) pgDACW DACW.CAPT_LATE 1) (pgRJNL (pos / 16)) 0x47 0)
         pgDRCV DRCV.STATE_OUTSIDE 1
     else modProt s pos fun x => { x with pendingCut := true })
  else s

/-- `RETIRED` of every tile without a cut of its own clears at the boundary (R138); a recovering position keeps its count. -/
def clearCounts (s : State) : State :=
  s.tiles.foldl (fun s x => if isProt s (posOf s x.1) then s else modTile s x.1 fun y => { y with retired := 0 }) s

/-- An epoch boundary: one, whatever number of multiples the time base passed (R259, R266). -/
def epochBoundary (s : State) : State :=
  if s.nextEpoch ≠ 0 ∧ s.nextEpoch ≤ s.tb.toNat then
    let s := setWide s pgDACW DACW.EPOCH_LO.off ((epochNow s + 1) % 2 ^ 48)
    let s := { s with nextEpoch := boundaryAfter s s.tb.toNat }
    (List.range 256).foldl boundaryAt (clearCounts s)
  else s

/-! ### Cuts (R266) -/

/-- The pages of a physical tile whose dirty bit is set (R157). -/
def dirtyPages (s : State) (t : Nat) : List Nat :=
  (List.range 256).filter fun p => bitOf (regAt s (pgTBNK t) (TBNK.DIRTY (p / 32)).off).toNat (p % 32)

def clearDirty (s : State) (t : Nat) : State :=
  (List.range 8).foldl (fun s n => setRegAt s (pgTBNK t) (TBNK.DIRTY n).off 0) s

/-- The tokens that each out-endpoint of a position holds for its next packet, by p. -/
def heldTokens (s : State) (pos : Nat) : SMap (List Tok) :=
  (List.range 4).foldl (fun m p => put [] m p (endOf s (128 * (pos / 16) + 8 * (pos % 16) + p)).held) []

/-- The tile cycle of a cut (R266, R138, R157, R270). The cut carries the epoch that is current at the cut. -/
def cutAt (s : State) (pos t : Nat) : State :=
  let s := drainAll s pos
  let x := tileOf s t
  let sh : Shadow :=
    ⟨stateBlock s t pos, epochNow s, dirtyPages s t, getF s (pgRJNL (pos / 16)) RJNL.JHEAD, ⟨x, heldTokens s pos⟩,
     x.retired.toNat, (protOf s pos).emitted⟩
  let ended := (protOf s pos).epoch
  let s := modProt s pos fun y =>
    { y with epoch := epochNow s, inPos := [], emitted := [], latched := [], pendingCut := false, capture := some ⟨sh, [], false⟩ }
  let s := modTile (clearDirty s t) t fun y => { y with retired := 0 }
  let s := setF s (pgRJNL (pos / 16)) (RJNL.LKT_STAT_BUSY (pos % 16)) 1
  let s := setRj s (pos / 16) { rjOf s (pos / 16) with capQ := (rjOf s (pos / 16)).capQ ++ [pos] }
  -- a spare that follows this tile counts on over the cut (log 33)
  (List.range 16).foldl (fun s l =>
    let q := 16 * (pos / 16) + l
    match (protOf s q).replay with
    | some z =>
      let z' := { z with base := if z.going then z.base + x.retired.toNat else z.base, inHalt := put 0 z.inHalt ended x.retired.toNat }
      if z.mate = some pos then modProt s q fun y => { y with replay := some z' } else s
    | none => s) s

def cutTile (s : State) (t : Nat) : State :=
  let pos := posOf s t
  let x := protOf s pos
  if isProt s pos && x.pendingCut && x.capture.isNone && !recovering s pos then cutAt s pos t else s

/-! ### Capture and commit (R277 to R281) -/

def stateArea (s : State) (pos h : Nat) : Nat := locketBase s + 0x88000 * pos + 0x44000 * h
def pageSlot (s : State) (pos h p : Nat) : Nat := stateArea s pos h + 0x4000 + 1024 * p

/-- Writes bytes into LPDDR5 in 64-bit words. -/
def writeLp : Nat → State → Nat → List Byte → State
  | 0, s, _, _ => s
  | fuel + 1, s, a, bs =>
    match bs with
    | [] => s
    | _ => writeLp fuel (storeLp s a (bs.take 8) 255 false).1 (a + 8) (bs.drop 8)

/-- The half that a capture writes: the one without the committed header, half 0 at first (R280). -/
def captureHalf (s : State) (pos : Nat) : Nat :=
  let p := pgRJNL (pos / 16)
  if flagF s p (RJNL.LKT_STAT_VALID (pos % 16)) then 1 - getF s p (RJNL.LKT_STAT_HALF (pos % 16)) else 0

/-- A tile word as a capture reads it: the old data held for it, or the word as it stands (R156). Data and whether it
is bad; a bank that is not ON reads bad. -/
def captureWord (s : State) (t : Nat) (c : Capture) (w : Nat) : Word × Bool :=
  let v := look (0, 9) c.taken w
  if v ≠ (0, 9) then (v.1, isBad v.2)
  else
    let a := bankAddr t w
    (memWord s a, isBad (markCode (markAt s a)) || !(bankOn s t w))

/-- That read is a checked read (R146, R147). -/
def captureNote (s : State) (t : Nat) (c : Capture) (w : Nat) : State :=
  if look (0, 9) c.taken w ≠ (0, 9) || !(bankOn s t w) then s else eccNote s (.bank (posOf s t) (4 * w)) (bankAddr (posOf s t) w) (bankAddr t w)

/-- Copies one page into its slot, two tile words to one LPDDR5 word; a bad word makes it poisoned (R149). -/
def capturePage (s : State) (t : Nat) (c : Capture) (dst p : Nat) : State :=
  (List.range 128).foldl (fun s i =>
    let a := captureWord s t c (256 * p + 2 * i)
    let b := captureWord s t c (256 * p + 2 * i + 1)
    let s := captureNote (captureNote s t c (256 * p + 2 * i)) t c (256 * p + 2 * i + 1)
    (storeLp s (dst + 8 * i) (toBytes 4 a.1.toNat ++ toBytes 4 b.1.toNat) 255 (a.2 || b.2)).1) s

/-- The write of `n` bytes at `a` in the locket area is mirrored (R291). -/
def mirrorArea (s : State) (a n : Nat) : State :=
  mirrorOut s (.locket (a - locketBase s) (memBytes s a n)
    ((List.range (n / 8)).filter fun i => isBad (markCode (markAt s (a + 8 * i)))))

/-- Half that the committed `PAGEMAP` names for a page. -/
def mapHalf (s : State) (pos p : Nat) : Nat := b2n (bitOf (protOf s pos).pageMap.toNat p)

/-- The capture engine writes the state block and the dirty pages (R280 steps 2 and 3), one tile at a time in the order
of the cuts; a position being recovered goes first (R283). It waits for a change of a bank's power state (R320). -/
def captureLocket (s : State) (t : Nat) : State :=
  let pos := posOf s t
  match (protOf s pos).capture with
  | some c =>
    if !c.headerOut && !(tileBankTrans s t) && ((rjOf s (pos / 16)).capQ.head? == some pos || recovering s pos) then
      let h := captureHalf s pos
      let s := mirrorArea (writeLp 2000 s (stateArea s pos h + 0x40) c.shadow.block) (stateArea s pos h + 0x40) 0x20C0
      let s := c.shadow.dirty.foldl (fun s p =>
        let a := pageSlot s pos (1 - mapHalf s pos p) p
        mirrorArea (capturePage s t c a p) a 1024) s
      modProt s pos fun y => { y with capture := some { c with headerOut := true } }
    else s
  | none => s

/-- The commit header without its CRC (R279). -/
def headerBytes (epoch pos jpos map : Nat) : List Byte :=
  toBytes 8 (epoch % 2 ^ 48) ++ toBytes 4 (2 ^ 31 + pos % 256) ++ toBytes 4 (jpos % 2 ^ 15) ++ toBytes 32 map ++ toBytes 12 0

/-- The header lands: the locket is committed, and the journal frees what it kept for it (R271, R280, R281). -/
def commitLocket (s : State) (t : Nat) : State :=
  let pos := posOf s t
  let r := pos / 16
  match (protOf s pos).capture with
  | some c =>
    if c.headerOut then
      let h := captureHalf s pos
      let map := c.shadow.dirty.foldl (fun m p => m ^^^ 2 ^ p) (protOf s pos).pageMap.toNat
      let hd := headerBytes c.shadow.epoch pos c.shadow.jpos map
      let s := mirrorArea (writeLp 8 s (stateArea s pos h) (hd ++ toBytes 4 (crc32c (hd ++ c.shadow.block)))) (stateArea s pos h) 64
      let s := modProt s pos fun y => { y with capture := none, pageMap := BitVec.ofNat 256 map }
      let s := setRj s r { rjOf s r with capQ := (rjOf s r).capQ.filter fun q => q != pos }
      let p := pgRJNL r
      let s := setF (setF (setF (setF s p (RJNL.LKT_STAT_BUSY (pos % 16)) 0) p (RJNL.LKT_STAT_HALF (pos % 16)) h)
        p (RJNL.LKT_STAT_VALID (pos % 16)) 1) p (RJNL.LKT_STAT_EPOCH16 (pos % 16)) (c.shadow.epoch % 65536)
      let s := { s with lockets := put 0 s.lockets pos c.shadow.epoch, lockHid := put Hid.init s.lockHid pos c.shadow.hid }
      pwrRelease (freeRecords (rjOf s r).recs.length s r) (pgTBNK t)
    else s
  | none => s

/-- `RJNL.FLUSH` region cycles, ten in a tick, have passed since the first entry of a gather buffer; 0 acts as 1. The cycle of
a tick in which an entry came is not held: up to nine cycles may have passed more than the ticks show (log 85). -/
def flushDue (s : State) (r : Nat) (g : Gather) : Bool :=
  decide (max 1 (getF s (pgRJNL r) RJNL.FLUSH) ≤ 10 * (s.age - g.opened) + 9)

/-- Writes the oldest gather buffer of a position once its time has passed (R270). -/
def journalFlush (s : State) (t : Nat) : State :=
  let pos := posOf s t
  if (protOf s pos).bufs.head?.any (flushDue s (pos / 16)) then
    (match writeOldest s pos with
     | some s => s
     | none => journalFull s (pos / 16))
  else s

/-! ### Paired mode (R291 to R293) -/

def pairOn (s : State) : Bool := flagF s pgDACW DACW.PAIR_CFG_EN

/-- An SVC packet of paired mode. The chapter gives no `OPC`; the kind stands in `TAG`: 0 token, 1 journal record, 2 locket
write, 3 data of the item before, 4 acknowledgement, 5 handover message (DESIGN CHOICE, log 34). -/
def svcPkt (kind : Nat) (d : List Byte) : Pkt := { blankPkt with cls := .svc, tag := kind, data := d ++ List.replicate (64 - d.length) 0 }

/-- Blocks of 64 bytes. -/
def blocksOf : Nat → List Byte → List (List Byte)
  | 0, _ => []
  | n + 1, d => d.take 64 :: blocksOf n (d.drop 64)

/-- The packets of a mirrored item. -/
def svcPkts : Mirror → List Pkt
  | .token key t => [svcPkt 0 (tokSlot t ++ toBytes 4 key)]
  | .journal r _ ws => [svcPkt 1 (toBytes 4 r), svcPkt 3 ((ws.map fun w => toBytes 4 w.toNat).flatten)]
  | .locket ofs d bad =>
    let n := (d.length + 63) / 64
    svcPkt 2 (toBytes 4 ofs ++ toBytes 4 n ++ toBytes 16 (bad.foldl (fun m i => m ||| 2 ^ i) 0)) :: (blocksOf n d).map (svcPkt 3)

/-- Sends packets to the partner over the pair link (R291, R398). -/
def toPartner (s : State) (ks : List Pkt) : State :=
  ks.foldl (fun s k => (sendData s (getF s pgDACW DACW.PAIR_CFG_LINK) (getF s pgDACW DACW.PAIR_CFG_PARTNER) k).1) s

/-- Sends the oldest item that has not gone out yet to the partner, as SVC packets on the pair link (R291, R398). -/
def pairMirror (s : State) : State :=
  match s.mirror[s.mirrorAt.length]? with
  | some m =>
    if pairOn s && lineUp s (getF s pgDACW DACW.PAIR_CFG_LINK) then
      let s := toPartner s (svcPkts m)
      { s with mirrorAt := s.mirrorAt ++ [s.tb.toNat] }
    else s
  | none => s

/-- Tokens that waited for an acknowledgement leave by the port lines (R292). -/
def pumpHeld (s : State) : State :=
  (List.range 640).foldl (fun s i => if entEn s (2048 + i) && entOutbound s (2048 + i) then pumpEnt s (2048 + i) else s) s

/-- The partner acknowledges the oldest item sent: a port token is accepted and goes on inside (R264, R291). -/
def pairAck (s : State) : State :=
  match s.mirror, s.mirrorAt with
  | m :: rest, at_ :: ats =>
    let s := { s with mirror := rest, mirrorAt := ats }
    let s := setF s pgDACW DACW.PAIR_STAT_RTT (min 65535 (s.tb.toNat - at_))
    match m with
    | .token key _ => pumpIn 64 (modEnd s key fun e => { e with fresh := e.fresh - 1 }) key
    | _ => pumpHeld s
  | _, _ => s

def modPaired (s : State) (f : Paired → Paired) : State := { s with strand := { s.strand with paired := f s.strand.paired } }

/-- An item of the partner's is kept, and acknowledged (R291). -/
def keepItem (s : State) (f : Paired → Paired) : State := toPartner (modPaired s f) [svcPkt 4 []]

/-- The marks of a locket write's words: one poisoned as sent, the others clean. -/
def keepMarks (m : SMap Mark) (a n bad : Nat) : SMap Mark :=
  (List.range n).foldl (fun m i => put .clean m (wordKey (a + 8 * i)) (if bitOf bad i then .poison else .clean)) m

/-- A data packet of the item that is arriving; its last one completes it. -/
def inboxData (s : State) (x : Inbox) (d : List Byte) : State :=
  let all := x.data ++ d
  if x.left ≠ 1 then modPaired s fun y => { y with inbox := some { x with left := x.left - 1, data := all } }
  else if x.kind = 1 then
    keepItem s fun y => { y with inbox := none, recs := y.recs ++ [(x.arg, (List.range 16).map fun i => word (ofBytes ((all.drop (4 * i)).take 4)))] }
  else
    let a := locketBase s + x.arg
    keepItem s fun y => { y with
      inbox := none, lkt := all.zipIdx.foldl (fun m b => put 0 m (a + b.2) b.1) y.lkt, bad := keepMarks y.bad a (all.length / 8) x.bad }

/-- An SVC packet of the partner's arrives (R291, R349, R398). -/
def svcIn (s : State) (dev : Nat) (k : Pkt) : State :=
  if !(pairOn s) || dev != getF s pgDACW DACW.PAIR_CFG_PARTNER then s
  else match k.tag with
    | 0 =>
      let n := ofBytes (k.data.take 8)
      let key := ofBytes ((k.data.drop 8).take 4)
      keepItem s fun y => { y with toks := put [] y.toks key (look [] y.toks key ++ [tokOf (word n) (bitsOf n 35 32)]) }
    | 1 => modPaired s fun y => { y with inbox := some ⟨1, ofBytes (k.data.take 4), 0, 1, []⟩ }
    | 2 =>
      let x : Inbox := ⟨2, ofBytes (k.data.take 4), ofBytes ((k.data.drop 8).take 16), ofBytes ((k.data.drop 4).take 4), []⟩
      modPaired s fun y => { y with inbox := some x }
    | 3 => (match s.strand.paired.inbox with
        | some x => inboxData s x k.data
        | none => s)
    | 4 => pairAck s
    | 5 => modPaired s fun y => { y with message := some (ofBytes (k.data.take 32), (k.data.getD 32 0).toNat != 0) }
    | _ => s

/-- A pair heartbeat arrives (R293). -/
def heartBeat (s : State) : State :=
  if pairOn s then modPaired (setF s pgDACW DACW.PAIR_STAT_UP 1) fun y => { y with heardAt := s.age } else s

/-- A pair heartbeat goes out, one every 1 µs (R293): its word holds the sender's ID (R392). -/
def heartSend (s : State) : State :=
  if pairOn s ∧ s.strand.paired.sendAt ≤ s.age then
    sendFrame (modPaired s fun y => { y with sendAt := s.age + 100 }) (getF s pgDACW DACW.PAIR_CFG_LINK)
      ⟨5, 0, 0, [w64 (ownId s * 2 ^ 46)]⟩
  else s

/-! ### The commands -/

def execEpochBoundary (s : State) : Host.Outcome State Fault Refusal := .next (epochBoundary s)

def execCut (t : TileN) (s : State) : Host.Outcome State Fault Refusal := .next (cutTile s t.val)

def execJournalFlush (t : TileN) (s : State) : Host.Outcome State Fault Refusal := .next (whenReleased (fun s => journalFlush s t.val) s)

def execLocketCapture (t : TileN) (s : State) : Host.Outcome State Fault Refusal := .next (captureLocket s t.val)

def execPairMirror (s : State) : Host.Outcome State Fault Refusal := .next (pairMirror s)

def execPairAck (s : State) : Host.Outcome State Fault Refusal := .next (pairAck s)

/-- HEART: this device's heartbeat goes out if it is due; if not, the command stands for the arrival of the partner's (log 34). -/
def execHeart (s : State) : Host.Outcome State Fault Refusal :=
  .next (if s.strand.paired.sendAt ≤ s.age then heartSend s else heartBeat s)

end Sys2Proof.Machine
end

