-- ==== Sys2Proof/Machine/Clocks.lean ====
section
/-! DEFINITION. Clocks, rails, clasps and the time base (chapter 08). -/

namespace Sys2Proof.Machine
open Sys2Proof

/-! ### Tile clocks (R241 to R248) -/

/-- Configuration of PLL `b` (0 A, 1 B) of a region. -/
def pllEn (s : State) (r b : Nat) : Bool := flagF s (pgRCLK r) (if b = 0 then RCLK.PLLA_CFG_EN else RCLK.PLLB_CFG_EN)
def pllLocked (s : State) (r b : Nat) : Bool := flagF s (pgRCLK r) (if b = 0 then RCLK.PLLA_CFG_LOCK else RCLK.PLLB_CFG_LOCK)
def setPllLock (s : State) (r b v : Nat) : State :=
  setF s (pgRCLK r) (if b = 0 then RCLK.PLLA_CFG_LOCK else RCLK.PLLB_CFG_LOCK) v

/-- The highest tile clock that a rail setting allows, in MHz (R242). -/
def railLimit (mv : Nat) : Nat :=
  if mv < 650 then 400 else if mv < 700 then 500 else if mv < 750 then 600 else if mv < 800 then 800
  else if mv < 850 then 1000 else if mv < 900 then 1100 else 1200

/-- A source and divider keep R242 at a rail setting. -/
def clkFits (s : State) (r src div mv : Nat) : Bool := decide (srcMHz s r src ≤ railLimit mv * divOf div)

/-- A source and divider make an island lockable (R243). -/
def clkLockable (s : State) (r src div : Nat) : Bool :=
  decide (src ≠ 2) && decide (srcMHz s r src % (100 * divOf div) = 0) && (decide (2 ≤ src) || pllLocked s r src)

def baseSrc (s : State) (t : Nat) : Nat := getF s (pgRCLK (t / 16)) (RCLK.TILE_CLK_SRC (t % 16))
def baseDiv (s : State) (t : Nat) : Nat := getF s (pgRCLK (t / 16)) (RCLK.TILE_CLK_DIV (t % 16))
def clkPinned (s : State) (t : Nat) : Bool := flagF s (pgRCLK (t / 16)) (RCLK.TILE_CLK_PIN (t % 16))
def clkSwitchOf (s : State) (t : Nat) : ClkSwitch := look ⟨0, 0⟩ s.clkSw t

/-- Steps down that the governor and the neighbour rule hold for an island (R467). -/
def clkSteps (s : State) (t : Nat) : Nat := max (look 0 s.govG t) (look 0 s.coolA t)

/-- A base divider moved down by the held steps, never past DIV8 (R467). -/
def steppedDiv (s : State) (t d : Nat) : Nat := if clkPinned s t then d else min 5 (d + clkSteps s t)

/-- Starts the switch sequence of R244 toward a source and divider. -/
def startClk (s : State) (t src div : Nat) : State :=
  setF { s with clkSw := put ⟨0, 0⟩ s.clkSw t ⟨src, div⟩ } (pgRCLK (t / 16)) (RCLK.TILE_CLK_BUSY (t % 16)) 1

/-- The island of a tile runs from PLL `b`, or is being switched to it. A retired tile's is gated off (R302). -/
def usesPll (s : State) (b t : Nat) : Bool :=
  !(tileRetired s t) && (decide (curSrc s t = b) || (tileGated s t && decide ((clkSwitchOf s t).src = b)))

/-- A PLL that runs feeds a tile island (R246). -/
def pllInUse (s : State) (r b : Nat) : Bool :=
  pllEn s r b && (List.range 16).any fun l => usesPll s b (16 * r + l)

/-- R244 refuses a switch of an island to a source and divider. -/
def clkRefused (s : State) (t src div : Nat) : Bool :=
  let r := t / 16
  decide (5 < div) || !(clkFits s r src div (getF s (pgRCLK r) RCLK.RAIL_SET)) ||
    (decide (src < 2) && !(pllEn s r src && pllLocked s r src)) || tileGated s t

/-- A write of `RCLK.TILE_CLKn` (R244, R260, R467): it writes `SRC` and `DIV`, so it starts a switch also where they stay as
they are (log 21). -/
def tileClkWrite (s : State) (t : Nat) (v : Word) : State :=
  let p := pgRCLK (t / 16)
  let src := bitsOf v.toNat 1 0
  let div := bitsOf v.toNat 5 3
  if clkRefused s t src div then refuseAt s p 0x73 0
  else
    let s := setF s p (RCLK.TILE_CLK_PIN (t % 16)) (bitsOf v.toNat 30 30)
    let s := setF (setF s p (RCLK.TILE_CLK_SRC (t % 16)) src) p (RCLK.TILE_CLK_DIV (t % 16)) div
    startClk s t src (steppedDiv s t div)

/-- A switch that the device itself asks for (R248, R307, R308): the refusals of R244 hold for it too. -/
def moveClk (s : State) (t src div : Nat) : State :=
  if clkRefused s t src div then refuseAt s (pgRCLK (t / 16)) 0x73 0 else startClk s t src div

/-- Sets `LOCKABLE` from the source and divider in use (R243). -/
def updLockable (s : State) (t : Nat) : State :=
  setF s (pgRCLK (t / 16)) (RCLK.TILE_CLK_LOCKABLE (t % 16)) (b2n (clkLockable s (t / 16) (curSrc s t) (curDiv s t)))

/-- The new clock of an island is ungated (R244); a step that waited for it runs (R138). -/
def clkDone (s : State) (t : Nat) : State :=
  if tileGated s t then
    let p := pgRCLK (t / 16)
    let w := clkSwitchOf s t
    let s := setF (setF s p (RCLK.TILE_CLK_CURSRC (t % 16)) w.src) p (RCLK.TILE_CLK_CURDIV (t % 16)) w.div
    let s := updLockable (setF s p (RCLK.TILE_CLK_BUSY (t % 16)) 0) t
    if (tileOf s t).stepDue then stepOnce s t else s
  else s

/-- A write of `PLLA_CFG` or `PLLB_CFG` (R246, R260). A PLL that is enabled anew or whose multiplier changes has to
lock again (log 21). -/
def pllWrite (s : State) (r b : Nat) (v : Word) : State :=
  let p := pgRCLK r
  let m := bitsOf v.toNat 4 0
  let en := bitOf v.toNat 31
  if pllInUse s r b then refuseAt s p 0x67 0
  else if m < 4 ∨ 24 < m then refuseAt s p 0x73 0
  else
    let same := decide (m = pllMult s r b) && en && pllEn s r b
    let s := setF s p (if b = 0 then RCLK.PLLA_CFG_MULT else RCLK.PLLB_CFG_MULT) m
    let s := setF s p (if b = 0 then RCLK.PLLA_CFG_EN else RCLK.PLLB_CFG_EN) (b2n en)
    if same then s else setPllLock s r b 0

/-- An enabled PLL locks (R246). No PLL runs before CLK_LOCK begins (R341). -/
def pllLockNow (s : State) (r b : Nat) : State := if pllEn s r b && s.load.clk.isSome then setPllLock s r b 1 else s

/-- The divider of R247: the smallest from the current one on that keeps RING within R242, else DIV8 (log 21). -/
def ringDiv (s : State) (r d mv : Nat) : Nat :=
  ((List.range 6).find? fun k => decide (d ≤ k) && clkFits s r 2 k mv).getD 5

/-- The source in use or being switched to, and the divider there, of an island whose base divider moves by the held steps
(R467). On RING the divider keeps R247. -/
def clkTarget (s : State) (t : Nat) : ClkSwitch :=
  let src := if tileGated s t then (clkSwitchOf s t).src else curSrc s t
  let d := steppedDiv s t (baseDiv s t)
  ⟨src, if src = 2 then ringDiv s (t / 16) d (getF s (pgRCLK (t / 16)) RCLK.RAIL_SET) else d⟩

/-- A region PLL loses lock (R247). In fail-static its islands move to REF in place of RING (R317). -/
def pllUnlockNow (s : State) (r b : Nat) : State :=
  if pllLocked s r b then
    let p := pgRCLK r
    let s := setPllLock s r b 0
    let s := (List.range 16).foldl (fun s l =>
      let t := 16 * r + l
      if usesPll s b t then
        let s := if failStaticOn s then startClk s t 3 (curDiv s t)
          else startClk s t 2 (ringDiv s r (curDiv s t) (getF s p RCLK.RAIL_SET))
        setF s p (RCLK.TILE_CLK_LOCKABLE l) 0
      else s) s
    raiseEv s p 0x46 0
  else s

/-! ### The reference (R239) -/

/-- A LOCKED clasp runs in LOCKED mode (R252, R366). -/
def claspLocked (s : State) (k : Nat) : Bool :=
  if k < 2048 then
    decide (bitsOf (regAt s (pgRCLK (k / 128)) (RCLK.LLCFG_MODE (k / 8 % 16)).off).toNat (2 * (k % 8) + 17) (2 * (k % 8) + 16) = 1)
  else flagF s (portPage (k - 2048)) (DBZL.PORT_CFG_OUT_MODE ((k - 2048) % 8))

/-- The edges that the switch of the reference takes away: which tokens in LOCKED clasps miss theirs is a free value
(log 22). -/
def missEdges (s : State) : State :=
  s.clasps.foldl (fun s x =>
    if claspLocked s x.1 then
      let f := takeFree s
      setClasp f.2 x.1 { x.2 with toks := x.2.toks.zipIdx.map fun y => { y.1 with missed := y.1.missed || bitOf f.1 y.2 } }
    else s) s

/-- The external input shows no edge; while it is in use the reference goes over to the crystal (R239). -/
def refLostNow (s : State) : State :=
  let s' := setF s pgDCLK DCLK.REF_CFG_EXTOK 0
  if getF s pgDCLK DCLK.REF_CFG_SEL = 0 ∧ getF s pgDCLK DCLK.REF_CFG_ACTIVE = 0 then
    raiseEv (missEdges (setF s' pgDCLK DCLK.REF_CFG_ACTIVE 1)) pgDCLK 0x45 0
  else s'

/-- A write of `DCLK.REF_CFG` (R239). -/
def refWrite (s : State) (v : Word) : State :=
  let sel := bitsOf v.toNat 0 0
  let s := setF s pgDCLK DCLK.REF_CFG_SEL sel
  if sel = 1 then setF s pgDCLK DCLK.REF_CFG_ACTIVE 1
  else if flagF s pgDCLK DCLK.REF_CFG_EXTOK then setF s pgDCLK DCLK.REF_CFG_ACTIVE 0
  else s

/-! ### Rails and boundaries (R249 to R251) -/

/-- The region across side `d` of a region, if any. -/
def regionBeside (r d : Nat) : Option Nat :=
  match d with
  | 0 => if 4 ≤ r then some (r - 4) else none
  | 1 => if r % 4 < 3 then some (r + 1) else none
  | 2 => if r < 12 then some (r + 4) else none
  | _ => if 0 < r % 4 then some (r - 1) else none

/-- A write of `RCLK.RAIL.SET` (R249). -/
def railWrite (s : State) (r : Nat) (v : Word) : State :=
  let p := pgRCLK r
  let mv := bitsOf v.toNat 9 0
  let far := (List.range 4).any fun d =>
    match regionBeside r d with
    | some q =>
      let o := getF s (pgRCLK q) RCLK.RAIL_SET
      decide (o + 300 < mv) || decide (mv + 300 < o)
    | none => false
  let fast := (List.range 16).any fun l =>
    let t := 16 * r + l
    !(clkFits s r (curSrc s t) (curDiv s t) mv) ||
      (tileGated s t && !(clkFits s r (clkSwitchOf s t).src (clkSwitchOf s t).div mv))
  if mv < 600 || 900 < mv || mv % 10 ≠ 0 || far || fast then refuseAt s p 0x74 0
  else setF s p RCLK.RAIL_SET mv

/-- Bit `b` of side `d` of `RCLK.NEIGH`: 0 above 20 °C, 1 SLIP, 2 OVER (R260). -/
def neighF (d b : Nat) : Fld := ⟨RCLK.NEIGH.off, 4 * d + b, 4 * d + b⟩

/-- The temperature difference across side `d` of a region, in 1/16 °C; a side on the die edge faces the bezel segment of
that side (R249, R260). The device judges by what it last measured (log 88). -/
def tempGap (s : State) (r d : Nat) : Nat :=
  let t : Int := sext 16 (getF s (pgRCLK r) RCLK.TEMP)
  match regionBeside r d with
  | some q => (t - sext 16 (getF s (pgRCLK q) RCLK.TEMP)).natAbs
  | none => (t - sext 16 (look 0 s.bezelTemp d)).natAbs

/-- The temperature difference across a side exceeds 35 °C (R251). -/
def neighbourOver (s : State) (r d : Nat) : State :=
  let p := pgRCLK r
  if flagF s p (neighF d 2) || decide (tempGap s r d ≤ 560) then s
  else raiseEv (setF s p (neighF d 2) 1) p 0x75 0

/-- `RCLK.NEIGH` as it reads: bit 0 of a side while its difference is above 20 °C (R260). -/
def neighWord (s : State) (r : Nat) : Nat :=
  (List.range 4).foldl (fun w d => setBits w (4 * d) (4 * d) (b2n (decide (320 < tempGap s r d))))
    (regAt s (pgRCLK r) RCLK.NEIGH.off).toNat

/-! ### Clasps (R252 to R255) -/

/-- The position, lane input and bezel port of a clasp. -/
def claspPlace (k : Nat) : Nat × Nat := if k < 2048 then (k / 8, k % 8) else portTile (k - 2048)

/-- What drives a lane input, through passes (R56 to R59). -/
inductive LaneFrom where
  | pos (n : Nat)
  | port (j : Nat)
  | nothing
  deriving DecidableEq, Repr

def laneDriver (s : State) : Nat → Nat → Nat → LaneFrom
  | 0, _, _ => .nothing
  | fuel + 1, pos, i =>
    let d := i / 2
    match neighbour pos d with
    | none => if i % 2 = 0 then (match bezelPortAt pos d with | some j => .port j | none => .nothing) else .nothing
    | some n =>
      let v := laneSetting s n (2 * ((d + 2) % 4) + i % 2)
      if 8 ≤ v then laneDriver s fuel n (v - 8) else if v = 1 then .pos n else .nothing

/-- The bezel token port that feeds a clasp, or that it belongs to, also through passes: the clasp then lies on a
bezel–region boundary (R58, R59, R254). -/
def claspPort (s : State) (k : Nat) : Option Nat :=
  if 2048 ≤ k then some (k - 2048)
  else
    match laneDriver s 6 (k / 8) (k % 8) with
    | .port j => some j
    | _ => none

/-- Tokens that a clasp holds, with those that a port out shows (R255, R366). -/
def claspEmpty (s : State) (k : Nat) : Bool :=
  (claspOf s k).toks.isEmpty && (decide (k < 2048) || (portShown s (k - 2048)).isEmpty)

/-- The tile that serves a position has a lockable clock and is not gated. -/
def posLockable (s : State) (pos : Nat) : Bool :=
  match serves s pos with
  | .tile t => flagF s (pgRCLK (t / 16)) (RCLK.TILE_CLK_LOCKABLE (t % 16))
  | _ => false

/-- Both sides of a clasp are lockable (R243, R255). Bezel islands always are (R240). -/
def claspSidesLockable (s : State) (k : Nat) : Bool :=
  if k < 2048 then
    posLockable s (k / 8) &&
      (match laneDriver s 6 (k / 8) (k % 8) with
       | .pos n => posLockable s n
       | _ => true)
  else
    let pl := portTile (k - 2048)
    let v := laneSetting s pl.1 pl.2
    if 8 ≤ v then
      (match laneDriver s 6 pl.1 (v - 8) with
       | .pos n => posLockable s n
       | _ => true)
    else posLockable s pl.1

/-- The boundary of a clasp is beyond its temperature limit (R251). -/
def claspOver (s : State) (k : Nat) : Bool :=
  match claspPort s k with
  | some j => flagF s (pgRCLK ((portTile j).1 / 16)) (neighF ((portTile j).2 / 2) 2)
  | none => false

/-- The receiving queue of a clasp has a free entry, and its island an edge (R255). -/
def claspCanDeliver (s : State) (k : Nat) : Bool :=
  if 2048 ≤ k then true
  else
    match serves s (k / 8) with
    | .tile _ => inputRoom s (k / 8) (k % 8)
    | _ => false

/-- The token at the head of a clasp falls due (R252 to R255). A LOCKED clasp that cannot deliver keeps it, and it
carries LATE from then on; whether the token behind a late one has missed its own edge, and whether a boundary beyond
its limit delays a token, are free values (log 22). -/
def claspDue (s : State) (k : Nat) : State :=
  let c := claspOf s k
  match c.toks with
  | [] => s
  | h :: rest =>
    let locked := claspLocked s k
    if !(claspCanDeliver s k) then
      (if locked then setClasp s k { c with toks := { h with missed := true } :: rest } else s)
    else
      let f := takeFree s
      let s := f.2
      let slow := claspOver s k && bitOf f.1 0
      let late := locked && (h.missed || !(claspSidesLockable s k) || slow)
      let rest := match rest with
        | [] => []
        | n :: more => (if locked && h.missed && bitOf f.1 1 then { n with missed := true } else n) :: more
      let s := setClasp s k { c with toks := rest }
      let s := if late then incF s (pgRCLK ((claspPlace k).1 / 16)) RCLK.LATE_CNT 1 else s
      let tok := { h.tok with late := h.tok.late || late }
      if 2048 ≤ k then { s with portOut := put [] s.portOut (k - 2048) (portShown s (k - 2048) ++ [tok]) }
      else enterInput s (k / 8) (k % 8) tok

/-- A clasp enters or leaves SLIP (R254): only a LOCKED one on a bezel–region boundary, while it holds no token; above 30 °C,
and below 27 °C. The core rail lies within 200 mV of every permitted rail setting, so the supply difference has no part in it
(R249). -/
def claspSlip (s : State) (k : Nat) (on : Bool) : State :=
  match claspPort s k with
  | some j =>
    let r := (portTile j).1 / 16
    let d := (portTile j).2 / 2
    let gap := tempGap s r d
    let c := claspOf s k
    if claspLocked s k && claspEmpty s k && c.slip != on && (if on then decide (480 < gap) else decide (gap < 432)) then
      let s := setClasp s k { c with slip := on }
      if on then setF (incF s (pgRCLK r) RCLK.SLIP_CNT 1) (pgRCLK r) (neighF d 1) 1
      else
        let more := s.clasps.any fun x => x.2.slip && (claspPort s x.1).any fun q =>
          decide ((portTile q).1 / 16 = r ∧ (portTile q).2 = (portTile j).2)
        if more then s else setF s (pgRCLK r) (neighF d 1) 0
    else s
  | none => s

/-! ### Re-trims (R250, R320, R321) -/

/-- The LOCKED clasps of the bezel boundary at side `d` of region `r`. -/
def boundaryClasps (s : State) (r d : Nat) : List Nat :=
  (((List.range 128).map fun i => 128 * r + i) ++ ((List.range 32).map fun j => 2048 + j)).filter fun k =>
    claspLocked s k && (claspPort s k).any fun j => decide ((portTile j).1 / 16 = r ∧ (portTile j).2 / 2 = d)

/-- A trigger of R250 at a bezel boundary: its re-trims start, wait behind those in progress, or, with one that waits
already, are refused with 0x54 at the active assayer's page (R320, R321). -/
def trimTrigger (s : State) (i r d : Nat) (x : Trim) : State :=
  let set (x : Trim) : State := { s with trims := put Trim.init s.trims (4 * r + d) x }
  if x.due.isEmpty then set { x with due := boundaryClasps s r d }
  else if x.queued then refuseAt (set x) (pgDASY i) 0x54 0
  else raiseOpt (set { x with queued := true }) (pgDASY i) 4 0x55 0

/-- The difference of a bezel boundary has been measured: it rises past 20 °C, or has changed by a further 5 °C above it
(R250). Only the active assayer re-trims. -/
def trimCheck (s : State) (r d : Nat) : State :=
  let gap := tempGap s r d
  let x := look Trim.init s.trims (4 * r + d)
  if gap ≤ 320 then { s with trims := put Trim.init s.trims (4 * r + d) { x with at_ := 0 } }
  else
    match (if getF s (pgDASY 0) DASY.ROLE_ROLE = 1 then some 0 else if getF s (pgDASY 1) DASY.ROLE_ROLE = 1 then some 1 else none) with
    | some i => if x.at_ = 0 ∨ x.at_ + 80 ≤ gap ∨ gap + 80 ≤ x.at_ then trimTrigger s i r d { x with at_ := gap } else s
    | none => s

/-- Every bezel boundary, after the temperatures have been measured. -/
def trimChecks (s : State) : State :=
  (List.range 64).foldl (fun s n => if (regionBeside (n / 4) (n % 4)).isNone then trimCheck s (n / 4) (n % 4) else s) s

/-- The active assayer re-trims a clasp whose turn it is, in a tick in which it holds no token (R250). -/
def claspRetrim (s : State) (k : Nat) : State :=
  match claspPort s k with
  | some j =>
    let b := 4 * ((portTile j).1 / 16) + (portTile j).2 / 2
    let x := look Trim.init s.trims b
    if x.due.contains k && claspEmpty s k then
      let due := x.due.erase k
      let x := if due.isEmpty && x.queued then { x with due := boundaryClasps s (b / 4) (b % 4), queued := false }
        else { x with due := due }
      incF { s with trims := put Trim.init s.trims b x } (pgRCLK (b / 4)) RCLK.TRIM_CNT 1
    else s
  | none => s

/-! ### The time base (R258, R259) -/

/-- `PERIOD` as it acts (R261). -/
def slewPeriod (s : State) : Nat := max 100 (getF s pgDCLK DCLK.TB_SLEW_PERIOD)

/-- The next reference edge adds 11 or 9. -/
def slewDue (s : State) : Bool := flagF s pgDCLK DCLK.TB_SLEW_EN && decide (slewPeriod s ≤ s.ticks + 1)

/-- Rails move at 10 mV per µs, which is one step in 100 ticks (R249). -/
def railStep (s : State) (r : Nat) : State :=
  let p := pgRCLK r
  let m := getF s p RCLK.RAIL_MEAS
  let g := getF s p RCLK.RAIL_SET
  if m < g then setF s p RCLK.RAIL_MEAS (min g (m + 10))
  else if g < m then setF s p RCLK.RAIL_MEAS (max g (m - 10))
  else s

/-- One reference edge: the time base adds 10, or 11 or 9 when slewing is due, and what `TB_STEP` wrote; the rails
move; the edge shows that the source in use is present. -/
def tick (s : State) : State :=
  let add := if slewDue s then (if flagF s pgDCLK DCLK.TB_SLEW_DIR then 9 else 11) else 10
  let n := if slewDue s then 0 else s.ticks + 1
  let past := (s.tb.toNat :: s.tbPast).take 3
  let s := { s with tb := s.tb + BitVec.ofNat 64 (add + s.tbStep), tbStep := 0, ticks := n, age := s.age + 1, tbPast := past }
  let s := if getF s pgDCLK DCLK.REF_CFG_ACTIVE = 0 then setF s pgDCLK DCLK.REF_CFG_EXTOK 1 else s
  if s.railsGo ∧ s.tb.toNat / 1000 ≠ (s.tb.toNat - add) / 1000 then (List.range 16).foldl railStep s else s

/-- A write of `DCLK.TB_STEP` (R259). -/
def tbStepWrite (s : State) (v : Word) : State :=
  if flagF s pgDCLK DCLK.TB_SLEW_XPORT then errCount s pgDCLK else { s with tbStep := s.tbStep + v.toNat }

/-- A write of `DCLK.TB_SLEW` (R259). The count of ticks starts anew (log 21). -/
def tbSlewWrite (s : State) (v : Word) : State :=
  if flagF s pgDCLK DCLK.TB_SLEW_XPORT then errCount s pgDCLK
  else
    let s := setF (setF s pgDCLK DCLK.TB_SLEW_EN (bitsOf v.toNat 31 31)) pgDCLK DCLK.TB_SLEW_DIR (bitsOf v.toNat 30 30)
    { setF s pgDCLK DCLK.TB_SLEW_PERIOD (bitsOf v.toNat 19 0) with ticks := 0 }

/-! ### The commands of this chapter -/

/-- CLOCK_SWITCH. -/
def execClockSwitch (t : TileN) (v : Word) (s : State) : Host.Outcome State Fault Refusal := .next (regCmd (pgRCLK (t.val / 16)) (RCLK.TILE_CLK_SRC (t.val % 16)).off v hostSrc (fun s => tileClkWrite s t.val v) s)

/-- CLOCK_SWITCH_DONE. -/
def execClockSwitchDone (t : TileN) (s : State) : Host.Outcome State Fault Refusal := .next (clkDone s t.val)

/-- PLL_CONFIG_WRITE. -/
def execPllConfigWrite (r : RegN) (b : Bool) (v : Word) (s : State) : Host.Outcome State Fault Refusal :=
  .next (regCmd (pgRCLK r.val) (if b then RCLK.PLLB_CFG_EN else RCLK.PLLA_CFG_EN).off v hostSrc (fun s => pllWrite s r.val (b2n b) v) s)

/-- PLL_LOCK. -/
def execPllLock (r : RegN) (b : Bool) (s : State) : Host.Outcome State Fault Refusal := .next (pllLockNow s r.val (b2n b))

/-- PLL_UNLOCK. -/
def execPllUnlock (r : RegN) (b : Bool) (s : State) : Host.Outcome State Fault Refusal := .next (pllUnlockNow s r.val (b2n b))

/-- REF_LOST. -/
def execRefLost (s : State) : Host.Outcome State Fault Refusal := .next (refLostNow s)

/-- REF_SELECT: the word written, and whether the external input shows edges while the crystal is in use. -/
def execRefSelect (v : Word × Bool) (s : State) : Host.Outcome State Fault Refusal :=
  let s := if getF s pgDCLK DCLK.REF_CFG_ACTIVE = 1 then setF s pgDCLK DCLK.REF_CFG_EXTOK (b2n v.2) else s
  .next (regCmd pgDCLK DCLK.REF_CFG_SEL.off v.1 hostSrc (fun s => refWrite s v.1) s)

/-- RAIL_SET. -/
def execRailSet (r : RegN) (v : Word) (s : State) : Host.Outcome State Fault Refusal := .next (regCmd (pgRCLK r.val) RCLK.RAIL_SET.off v hostSrc (fun s => railWrite s r.val v) s)

/-- NEIGHBOUR_LIMIT. -/
def execNeighbourLimit (r : RegN) (side : Fin 4) (s : State) : Host.Outcome State Fault Refusal :=
  .next (neighbourOver s r.val side.val)

/-- RETRIM. -/
def execRetrim (key : Fin 2080) (s : State) : Host.Outcome State Fault Refusal :=
  .next (whenReleased (fun s => claspRetrim s key.val) s)

/-- SLIP_ENTER. -/
def execSlipEnter (key : Fin 2080) (s : State) : Host.Outcome State Fault Refusal :=
  .next (whenReleased (fun s => claspSlip s key.val true) s)

/-- SLIP_LEAVE. -/
def execSlipLeave (key : Fin 2080) (s : State) : Host.Outcome State Fault Refusal :=
  .next (whenReleased (fun s => claspSlip s key.val false) s)

/-- CLASP_DELIVER. -/
def execClaspDeliver (key : Fin 2080) (s : State) : Host.Outcome State Fault Refusal :=
  .next (whenReleased (fun s => claspDue s key.val) s)

/-- TB_STEP. -/
def execTbStep (v : Word) (s : State) : Host.Outcome State Fault Refusal := .next (regCmd pgDCLK DCLK.TB_STEP.off v hostSrc (fun s => tbStepWrite s v) s)

end Sys2Proof.Machine
end

