-- ==== Sys2Proof/Machine/Assay.lean ====
section
/-! DEFINITION. The assayers: roles, heartbeats, takeover and fail-static, and the actions that do not move a position
(R168, R169, R298 to R318). -/

namespace Sys2Proof.Machine
open Sys2Proof

/-! ### Region-memory banks (R168, R169) -/

def bankUsed (s : State) (r : Nat) : Bool := flagF s (pgRMEM r) RMEM.SPARE_MAP_USED
def bankCopying (s : State) (r : Nat) : Bool := flagF s (pgRMEM r) RMEM.SPARE_MAP_COPYING

/-- The code of the fault that a memory page or banks page shows, 0x24 when it shows none. -/
def eccCodeOf (s : State) (p : Nat) : Nat :=
  let c := if 0x400 ≤ p then getF s p TBNK.ECC_ADDR_CODE else getF s p RMEM.ECC_ADDR_CODE
  if c = 0 then 0x24 else c

/-- Keys of the bytes or words of a map that lie from `a` on in a range of `n`. -/
def inRange {α : Type} (m : SMap α) (a n : Nat) : SMap α := m.filter fun x => decide (a ≤ x.1) && decide (x.1 < a + n)

/-- The assayer's checked reads of a bank (R146, R147). -/
def readBank (s : State) (r b : Nat) : State :=
  (inRange s.marks (rmemAddr r (0x20000 * b)) 0x20000).foldl
    (fun s x => eccNote s (.rmem r (x.1 % 0x200000)) x.1 x.1) s

/-- The spare takes every word of bank `b`, one that reads bad as poisoned (R168). -/
def copyBank (s : State) (r b : Nat) : State :=
  let a := rmemAddr r (0x20000 * b)
  let c := clearRange s (spareAddr r 0) 0x20000
  { c with
    mem := (inRange s.mem a 0x20000).foldl (fun m x => put 0 m (spareAddr r x.1) x.2) c.mem
    marks := (inRange s.marks a 0x20000).foldl
      (fun m x => put .clean m (spareAddr r x.1) (if isBad (markCode x.2) then .poison else .clean)) c.marks }

/-- Every word of the spare is written as poisoned (R168). -/
def poisonSpare (s : State) (r : Nat) : State :=
  { s with marks := (List.range 32768).foldl (fun m i => put .clean m (spareAddr r (4 * i)) .poison) s.marks }

/-- Step 2 of a spare takeover: the copy, or, when the bank cannot be read at all, a spare of poisoned words and the event
0x22. That a bank which is not ON cannot be read is DEDUCED from R162 (log 87). -/
def spareCopyStep (s : State) (r b : Nat) (dead : Bool) : State :=
  if dead || rbankState s r b != 2 then
    raiseEv (poisonSpare s r) (pgRMEM r) 0x22 (rmemAddr r (0x20000 * b) % 2 ^ 32)
  else copyBank (readBank s r b) r b

/-- Keys of actions in progress beside those of positions: a spare takeover, a bank's retirement, a PLL. -/
def keySpare (r : Nat) : Nat := 256 + r
def keyRetire (r b : Nat) : Nat := 512 + 16 * r + b
def keyPll (r b : Nat) : Nat := 1024 + 2 * r + b

/-- Steps 1 and 2 of a spare takeover (R168): writes go to both banks, the rows are copied, with a PART entry for each
16 KiB. While the network is down step 1 waits as INTENT (R298); while the bank changes its power state or a polisher step
acts on it the takeover waits (R320). `dead` says that the bank cannot be read at all: R294's condition 2 then fails. -/
def bankSpareStart (s : State) (r b code : Nat) (host dead : Bool) : State :=
  let p := pgRMEM r
  let old := (actOf s (keySpare r)).filter fun x => x.held && x.sub == b
  if bankUsed s r || bankCopying s r || polishing s p b || rbankState s r b == 3 || (actOf s (keySpare r)).isSome && old.isNone then s
  else
    let x : Act := old.getD ⟨4, 1, code, host, b, p, false, 0, detailAt s code p, true⟩
    let log := fun (s : State) (kind step progress : Nat) => logWrite s kind 4 step x.code x.host b p progress x.detail
    let s := if old.isSome then s else log s lkIntent 1 0
    if !(netUp s) then setAct s (keySpare r) (some x)
    else
      let s := { setF s p RMEM.SPARE_MAP_COPYING 1 with spareCopy := put 0 s.spareCopy r (b + 1) }
      let s := log (log s lkDone 1 0) lkIntent 2 0
      let s := (List.range 8).foldl (fun s k => log s lkPart 2 (16384 * (k + 1))) (spareCopyStep s r b dead)
      let s := if dead then outside s p b else s
      setAct s (keySpare r) (some { x with step := 2, held := false })

/-- The command of the recovery command engine ends (R318). -/
def cmdEnd (s : State) (host : Bool) (code : Nat) : State :=
  if host then setF (setF s pgDRCV DRCV.CMD_STAT_BUSY 0) pgDRCV DRCV.CMD_STAT_CODE code else s

/-- Actions go on while an assayer is active, or, for the host's, in fail-static. -/
def mayAct (s : State) (host : Bool) : Bool := (activeAssayer s).isSome || (host && failStaticOn s)

/-- In-endpoint `k` of region `r` is enabled, and its ring has words in bank `b`. -/
def ringInBank (s : State) (r b k : Nat) : Bool :=
  let lo := getF s (pgRRTR r) (RRTR.EP_ROUTE_BUF k) * 4
  let n := 2 ^ epLog s r k
  !(isOut k) && epEn s r k && decide (lo / 0x20000 ≤ b) && decide (b ≤ (lo + 4 * (n + n / 8) - 1) / 0x20000)

/-- The enabled INBOUND port entries that feed an in-endpoint of a region: they carry its stream. -/
def feeders (s : State) (r k : Nat) : List Nat :=
  ((List.range 704).map fun i => 2048 + i).filter fun key =>
    entEn s key && !(entOutbound s key) && entStream s key == getF s (pgRRTR r) (RRTR.EP_CTL_STREAM k)

/-- E of an in-endpoint goes back to its last credited sequence, and the port entry that feeds it resends from there (R264).
Tokens of the stream on their way are among those resent, and do not arrive as well (DEDUCED, log 91). -/
def resendRing (s : State) (r k : Nat) : State :=
  match feeders s r k with
  | [] => s
  | key :: _ =>
    let p := pgRRTR r
    let e := (epSeq s r k + 2 ^ 32 - epCount s r k) % 2 ^ 32
    let s := setF (setF s p (RRTR.EP_SEQ k) e) p (RRTR.EP_CRED_COUNT k) 0
    let s := { s with net := s.net.filter fun x => !(x.cls == .stream && !x.credit && x.stream == entStream s key && x.drt == getE s key 4 31 27 && x.dpt == getE s key 4 26 24) }
    let sent := (e + entFill s key + 2 ^ 32 - entSeq s key) % 2 ^ 32
    let s := if sent ≤ (endOf s key).sent then
        modEnd s key fun x => { x with credits := x.credits + (x.sent - sent), sent := sent }
      else s
    pumpIn 4096 s key

/-- So for every ring in a bank that has faulted (R264). -/
def resendBank (s : State) (r b : Nat) : State :=
  (List.range 128).foldl (fun s k => if ringInBank s r b k then resendRing s r k else s) s

/-- The copy has ended: the logical bank maps to the spare, which is ON; the old physical bank goes OFF and loses its
contents (steps 3 and 4). -/
def bankSwitch (s : State) (r : Nat) : State :=
  let p := pgRMEM r
  match actOf s (keySpare r) with
  | some x =>
    if mayAct s x.host && !x.held && netUp s then
      let l := fun (s : State) (kind step : Nat) => logWrite s kind 4 step x.code x.host x.sub p 0 x.detail
      let s := l (l s lkDone 2) lkIntent 3
      let s := setF (setF (setF s p RMEM.SPARE_MAP_COPYING 0) p RMEM.SPARE_MAP_LBANK x.sub) p RMEM.SPARE_MAP_USED 1
      let s := setRbankState { s with spareCopy := put 0 s.spareCopy r 0 } r x.sub 2
      let s := l (l s lkDone 3) lkIntent 4
      let s := l (clearRange s (rmemAddr r (0x20000 * x.sub)) 0x20000) lkDone 4
      pwrRelease (cmdEnd (setAct (resendBank s r x.sub) (keySpare r) none) x.host 0) p
    else s
  | none => s

/-- With the spare in use, a further failing bank is retired; a change of its power state or a polisher step on it goes
first (R169, R320). -/
def bankRetireNow (s : State) (r b code : Nat) (host : Bool) : State :=
  let p := pgRMEM r
  if !(bankUsed s r) || bitOf (getF s p RMEM.SPARE_MAP_RETIRED) b || polishing s p b || rbankState s r b == 3 then s
  else
    let s := netStep s (keyRetire r b) 5 code host b p fun s =>
      raiseEv (setF s p RMEM.SPARE_MAP_RETIRED (setBits (getF s p RMEM.SPARE_MAP_RETIRED) b b 1)) p 0x65 0
    if netUp s then cmdEnd (resendBank s r b) host 0 else s

/-! ### DMA channels (R305) -/

/-- Every response of the channel has come. -/
def chQuiet (s : State) (k : Nat) : Bool := (dmaOf s k).outR == 0 && (dmaOf s k).outW == 0

/-- Region `r` has a reserve channel that is free. -/
def reserveFree (s : State) (r : Nat) : Bool :=
  bitOf (getF s pgDRCV DRCV.DMA_RESV) r && !(bitOf (getF s pgDRCV DRCV.CH_MOVED) r)

/-- The descriptor in progress starts over with an empty staging buffer. -/
def chRestart (s : State) (k : Nat) : State :=
  let d := dmaOf s k
  if chState s k = 2 ∨ chState s k = 3 then
    setChState (setDma s k { Dma.init with desc := d.desc, elems := d.elems, creditR := d.creditR, creditW := d.creditW,
                                           startAfter := d.startAfter, resetting := d.resetting }) k 2
  else s

def chMoveNow (s : State) (r n code : Nat) (host : Bool) : State :=
  let k := 32 * r + n
  if reserveFree s r && n != 15 && chQuiet s k then
    cmdEnd (oneStep (raiseEv s (pgRDMA r) code 0) 6 code host n (pgRDMA r) fun s =>
      chRestart (orphanLocks (setF s pgDRCV DRCV.CH_MOVED (setBits (getF s pgDRCV DRCV.CH_MOVED) r r 1)) (chInit k)) k) host 0
  else s

/-- The channel halts once the descriptor in progress, ended with the fault's code, has completed. -/
def chStop (s : State) (k code : Nat) : State :=
  match chState s k with
  | 0 | 6 | 7 => setChState s k 7
  | _ => haltReq (endDesc s k code) k 1

def chWithdrawNow (s : State) (r n code : Nat) (host : Bool) : State :=
  let k := 32 * r + n
  let w := (DRCV.CH_WD (r / 2)).off
  let b := 16 * (r % 2) + n
  if !(reserveFree s r && n != 15) && chQuiet s k && !(bitOf (regAt s pgDRCV w).toNat b) then
    cmdEnd (oneStep (raiseEv s (pgRDMA r) code 0) 7 code host n (pgRDMA r) fun s =>
      chStop (orphanLocks (setF s pgDRCV ⟨w, b, b⟩ 1) (chInit k)) k code) host 0
  else s

/-! ### Router links (R306) -/

/-- The two ends of link `l`, each as the router and port that receive there. -/
def linkEnds (l : Nat) : (Nat × Nat) × (Nat × Nat) :=
  if l < 12 then let w := l / 3 * 4 + l % 3; ((w, 1), (w + 1, 3))
  else if l < 24 then ((l - 12, 2), (l - 8, 0))
  else if l < 28 then let k := l - 24; ((4 * k, 4), (4 * k + 3, 4))
  else if l < 32 then let k := l - 28; ((k, 5), (12 + k, 5))
  else let k := 16 + (l - 32) / 2; ((k, (l - 32) % 2), (attachedRegion k ((l - 32) % 2), 6))

/-- The directions of a link that are WITHDRAWN, by their receiving ends. -/
def withdrawn (s : State) (l : Nat) : List (Nat × Nat) :=
  [(linkEnds l).1, (linkEnds l).2].filter fun e => linkStat s e.1 e.2 == 3

/-- The spare group of a link's direction is in use, by its receiving end (R306). -/
def spareIn (s : State) (e : Nat × Nat) : Bool := look 0 s.recov.spareIn (8 * e.1 + e.2) == 1

def spareGroup (l : Nat) : Fld :=
  if l < 32 then ⟨DRCV.LINK_SP0.off, l, l⟩ else ⟨DRCV.LINK_SP1.off, l - 32, l - 32⟩

/-- The pattern test found one failing group of each withdrawn direction whose spare group is free: the spare takes its
place, and the direction is UP again (R306). -/
def linkRepairNow (s : State) (l code : Nat) (host : Bool) : State :=
  let out := (withdrawn s l).filter fun e => !(spareIn s e) && !(detoured s e.1 e.2)
  if out.isEmpty then s
  else
    cmdEnd (oneStep s 8 code host l pgDRCV fun s =>
      setF (out.foldl (fun s e =>
        modRecov (setLinkStat s e.1 e.2 1) fun x => { x with spareIn := put 0 x.spareIn (8 * e.1 + e.2) 1 }) s) pgDRCV (spareGroup l) 1) host 0

/-- A link that a detour from `h` to `n` would take is itself withdrawn. -/
def detourBroken (s : State) : Nat → List Nat → Bool
  | _, [] => false
  | h, v :: vs =>
    (match portToward h v with
     | some p => (match linkTo h p with | some e => linkStat s e.1 e.2 == 3 | none => false)
     | none => true) || detourBroken s v vs

/-- The link's traffic takes its detour from now on. -/
def linkDetourNow (s : State) (l code : Nat) (host : Bool) : State :=
  let ends := linkEnds l
  let s := if host then setLinkStat (setLinkStat s ends.1.1 ends.1.2 3) ends.2.1 ends.2.2 3 else s
  let out := (withdrawn s l).filter fun e => !(detoured s e.1 e.2)
  if out.isEmpty then s
  else
    let tooMany :=
      if 32 ≤ l then spokeOut s (16 + (l - 32) / 2) (1 - (l - 32) % 2)
      else detourBroken s ends.1.1 (detourPath ends.1.1 ends.2.1) || detourBroken s ends.2.1 (detourPath ends.2.1 ends.1.1)
    let s := oneStep s 9 code host l pgDRCV fun s =>
      out.foldl (fun s e => { s with detour := put 0 s.detour (8 * e.1 + e.2) 1 }) s
    cmdEnd (if tooMany then outside s pgDRCV l else s) host 0

/-! ### PLLs (R307) and cooling (R308) -/

/-- Islands that PLL `b` of a region fed and that run on RING, or on REF after an unlock in fail-static; a retired tile's
island is gated off (R302). -/
def fallen (s : State) (r b : Nat) : List Nat :=
  ((List.range 16).map fun l => 16 * r + l).filter fun t =>
    baseSrc s t == b && !(tileRetired s t) && decide (2 ≤ (if tileGated s t then (clkSwitchOf s t).src else curSrc s t))

/-- Moves those islands onto PLL `dst` by R244, but for one whose switch to RING still runs. -/
def islandsTo (s : State) (r b dst : Nat) : State :=
  (fallen s r b).foldl (fun s t => if tileGated s t then s else moveClk s t dst (steppedDiv s t (baseDiv s t))) s

def pllSince (s : State) (r b : Nat) : Nat := look 0 s.recov.pllAt (2 * r + b)

def setPllSince (s : State) (r b v : Nat) : State := modRecov s fun x => { x with pllAt := put 0 x.pllAt (2 * r + b) v }

/-- The action on a PLL ends. -/
def pllEnd (s : State) (r b : Nat) (x : Act) : State :=
  let s := logWrite (setPllSince s r b 0) lkDone 0xA 1 x.code x.host b (pgRCLK r) 0 0
  cmdEnd (setAct s (keyPll r b) none) x.host 0

/-- The islands move onto PLL `dst`, and the action ends once they all have (R307). -/
def pllTo (s : State) (r b dst : Nat) (x : Act) : State :=
  if (fallen s r b).any (tileGated s) then islandsTo s r b dst else pllEnd (islandsTo s r b dst) r b x

/-- R307: the PLL is disabled and enabled again; once it has locked, its islands move back onto it, or, after 40 µs, onto the
other PLL that was set to its multiplier. -/
def pllMoveNow (s : State) (r b code : Nat) (host : Bool) : State :=
  let p := pgRCLK r
  match actOf s (keyPll r b) with
  | none =>
    if !(pllEn s r b) || (pllLocked s r b && (fallen s r b).isEmpty) then cmdEnd s host 0
    else
      let x : Act := ⟨0xA, 1, code, host, b, p, false, 0, 0, !(netUp s)⟩
      let s := setAct (logWrite s lkIntent 0xA 1 code host b p 0 0) (keyPll r b) (some x)
      if x.held then s
      else if pllLocked s r b then pllTo s r b b x
      else setPllSince s r b (s.age + 1)
  | some x =>
    if x.held then (if netUp s then setPllSince (setAct s (keyPll r b) (some { x with held := false })) r b (s.age + 1) else s)
    else if pllLocked s r b then pllTo s r b b x
    else if pllLocked s r (1 - b) && pllMult s r (1 - b) == pllMult s r b && decide (pllSince s r b + 4000 ≤ s.age + 1) then
      pllTo s r b (1 - b) x
    else s

/-- 40 µs have passed without lock: onto the other PLL, at once when it runs at the same multiplier; an unused one is set to
that multiplier first; else the islands stay where they are, with the event 0x56 (R307). -/
def pllTimeoutNow (s : State) (r b : Nat) : State :=
  let p := pgRCLK r
  let o := 1 - b
  match actOf s (keyPll r b) with
  | some x =>
    if x.held || pllSince s r b == 0 || pllLocked s r b || decide (s.age + 1 < pllSince s r b + 4000) || !(mayAct s x.host) then s
    else if pllEn s r o && pllLocked s r o && pllMult s r o == pllMult s r b then pllTo s r b o x
    else if !(pllInUse s r o) then
      let s := setF s p (if o = 0 then RCLK.PLLA_CFG_MULT else RCLK.PLLB_CFG_MULT) (pllMult s r b)
      setPllLock (setF s p (if o = 0 then RCLK.PLLA_CFG_EN else RCLK.PLLB_CFG_EN) 1) r o 0
    else pllEnd (raiseEv s pgDRCV 0x56 (p + b * 2 ^ 16)) r b x
  | none => s

def tempOf (s : State) (r : Nat) : Int := sext 16 (getF s (pgRCLK r) RCLK.TEMP)

/-- Unpinned islands of a region; a retired tile's is gated off (R302). -/
def unpinned (s : State) (r : Nat) : List Nat :=
  ((List.range 16).map fun l => 16 * r + l).filter fun t => !(clkPinned s t) && !(tileRetired s t)

/-- A boundary, named by the lower of the two regions that share it, or by its region and side at the bezel. -/
def boundaryOf (r d : Nat) : Nat :=
  match regionBeside r d with
  | some q => if q < r then 4 * q + (d + 2) % 4 else 4 * r + d
  | none => 4 * r + d

/-- One step of the neighbour rule of boundary `k` on an island: down, or back up. -/
def coolMove (s : State) (k : Nat) (up : Bool) (t : Nat) : State :=
  let mine := look 0 s.recov.coolBy (256 * k + t)
  let all := look 0 s.coolA t
  if up && mine == 0 || !up && decide (5 ≤ steppedDiv s t (baseDiv s t)) then s
  else
    let step (n : Nat) : Nat := if up then n - 1 else n + 1
    let s' := { s with coolA := put 0 s.coolA t (step all) }
    let s' := modRecov s' fun x => { x with coolBy := put 0 x.coolBy (256 * k + t) (step mine) }
    let c := clkTarget s' t
    if clkRefused s' t c.src c.div then refuseAt s (pgRCLK (t / 16)) 0x73 0 else startClk s' t c.src c.div

/-- R308 at side `d` of region `r`. -/
def coolStepNow (s : State) (r d code : Nat) (host : Bool) : State :=
  let p := pgRCLK r
  let far := regionBeside r d
  let diff : Int := match far with
    | some q => tempOf s r - tempOf s q
    | none => tempOf s r - sext 16 (look 0 s.bezelTemp d)
  let hot : List Nat := match far with
    | some q => if diff < 0 then [q] else [r]
    | none => if diff < 0 then [] else [r]
  let gap := diff.natAbs
  let k := boundaryOf r d
  let wide := flagF s p (neighF d 2)
  let clear (s : State) : State := if gap < 480 then setF s p (neighF d 2) 0 else s
  if s.age < look 0 s.recov.coolAt k then s
  else
    let again := fun (s : State) => modRecov s fun x => { x with coolAt := put 0 x.coolAt k (s.age + 10000) }
    let can := (hot.flatMap (unpinned s)).filter fun t => decide (steppedDiv s t (baseDiv s t) < 5)
    let held := (unpinned s r ++ (match far with | some q => unpinned s q | none => [])).filter
      fun t => look 0 s.recov.coolBy (256 * k + t) != 0
    if wide && decide (480 ≤ gap) && !can.isEmpty then
      cmdEnd (again (oneStep s 0xB code host d p fun s => can.foldl (fun s t => coolMove s k false t) s)) host 0
    else if gap < 400 && !held.isEmpty then
      cmdEnd (again (oneStep (clear s) 0xB code host d p fun s => held.foldl (fun s t => coolMove s k true t) s)) host 0
    else cmdEnd (clear s) host 0

/-! ### Roles (R311 to R317) -/

def heardAt (s : State) (i : Nat) : Nat := if i = 0 then s.recov.heardA else s.recov.heardB
def faultLine (s : State) (i : Nat) : Bool := if i = 0 then s.recov.lineA else s.recov.lineB
def isDead (s : State) (i : Nat) : Bool := bitOf s.recov.dead i

/-- An assayer's heartbeat reaches the other (R312). -/
def heartbeatBy (s : State) (i : Nat) : State :=
  if (roleOf s i = 1 ∨ roleOf s i = 2) ∧ isDead s i = false then
    let s := modRecov s fun x => if i = 0 then { x with heardA := s.age } else { x with heardB := s.age }
    let q := pgDASY (1 - i)
    setF s q DASY.HB_RX ((getF s q DASY.HB_RX + 1) % 2 ^ 32)
  else s

/-- The other assayer has grounds to declare assayer `i` lost (R313). -/
def silent (s : State) (i : Nat) : Bool := faultLine s i || decide (heardAt s i + 800 ≤ s.age)

/-- A lost standby leaves the active alone; a lost active is fenced, and the standby takes over (R313, R314). With `line`
its two cores have disagreed, and it asserts its fault line (R298, R313). -/
def declareLost (s : State) (i : Nat) (line : Bool) : State :=
  let o := 1 - i
  let s := if line then modRecov s fun x => if i = 0 then { x with lineA := true } else { x with lineB := true } else s
  if !(silent s i) then s
  else if roleOf s i = 2 ∧ roleOf s o = 1 then
    raiseEv (setF (setRole (groupFault s (pgDASY i) 0) i 3) pgDRCV DRCV.STATE_MODE 1) (pgDASY i) 0x48 0
  else if roleOf s i = 1 ∧ roleOf s o = 2 then setF (setRole (groupFault s (pgDASY i) 0) i 3) (pgDASY i) DASY.ROLE_FENCED 1
  else s

/-- The standby takes over from a fenced active: the old one's locks are orphaned, the log is resolved, actions in
progress go on from their steps (R311, R314). -/
def takeOver (s : State) (i : Nat) : State :=
  let o := 1 - i
  if roleOf s i = 2 ∧ roleOf s o = 3 ∧ flagF s (pgDASY o) DASY.ROLE_FENCED then
    let s := orphanLocks s (0x230 + o)
    let s := oneStep s 0xC 0x48 false 0 (pgDASY o) fun s => setRole s i 1
    let s := setF (incF s (pgDASY i) DASY.TAKEOVERS 1) pgDRCV DRCV.STATE_MODE 1
    raiseEv s (pgDASY i) 0x48 0
  else s

/-- A write of `DASY.CTRL`: a FAILED assayer restarts with its self-test (R316). -/
def dasyCtrlWrite (s : State) (i : Nat) (v : Word) : State :=
  if !(bitOf v.toNat 0) then s
  else if roleOf s i ≠ 3 then errCount s (pgDASY i)
  else
    let s := setF (setF s (pgDASY i) DASY.ROLE_FENCED 0) (pgDASY i) DASY.ROLE_SELFOK 0
    modRecov s fun x =>
      let x := { x with testing := setBits x.testing i i 1 }
      if i = 0 then { x with lineA := false } else { x with lineB := false }

/-- The self-test of an assayer ends. It joins as standby, or, with none active, becomes active, which ends fail-static
(R316, R317, R327). -/
def selfTested (s : State) (i : Nat) (pass : Bool) : State :=
  if !(bitOf s.recov.testing i) then s
  else
    let p := pgDASY i
    let s := modRecov s fun x => { x with testing := setBits x.testing i i 0 }
    if !pass || isDead s i then raiseEv (setRole s i 3) p 0x28 0
    else
      let s := setF s p DASY.ROLE_SELFOK 1
      let s := modRecov s fun x => if i = 0 then { x with heardA := s.age } else { x with heardB := s.age }
      let s := setF s p DASY.LOG_ACK (getF s pgDRCV DRCV.LOG_HEAD)
      if (activeAssayer s).isNone then
        let s := setRole s i 1
        if failStaticOn s then setF (setF s pgDRCV DRCV.STATE_MODE 1) pgDPWR DPWR.ALERT_FAILSTATIC 0 else s
      else setF (setRole s i 2) pgDRCV DRCV.STATE_MODE 0

/-- The self-tests that run during BOOT and LOAD, or after a restart, end. With one assayer that failed, the other runs
alone. -/
def selfTests (s : State) (a b : Bool) : State :=
  let s := selfTested (selfTested s 0 a) 1 b
  if getF s pgDRCV DRCV.STATE_MODE = 0 ∧ (activeAssayer s).isSome ∧ (roleOf s 0 = 3 ∨ roleOf s 1 = 3) then
    setF s pgDRCV DRCV.STATE_MODE 1 else s

/-- Four periods of the RC oscillator have passed since the last heartbeat of an assayer that is not FAILED (R317). -/
def failStaticNow (s : State) : State :=
  let live := fun i => roleOf s i = 1 ∨ roleOf s i = 2
  let last := max (if live 0 then heardAt s 0 else 0) (if live 1 then heardAt s 1 else 0)
  let last := if live 0 ∨ live 1 then last else max (heardAt s 0) (heardAt s 1)
  if !(failStaticOn s) && s.recov.testing == 0 && decide (last + 11400 ≤ s.age) then
    let s := (List.range 2).foldl (fun s i => if roleOf s i = 1 ∨ roleOf s i = 2 then setRole s i 3 else s) s
    raiseEv (setF (setF s pgDRCV DRCV.STATE_MODE 2) pgDPWR DPWR.ALERT_FAILSTATIC 1) pgDRCV 0x49 0
  else s

/-! ### The commands -/

/-- SPARE_SWITCH. -/
def execSpareSwitch (r : RegN) (s : State) : Host.Outcome State Fault Refusal := .next (bankSwitch s r.val)

/-- PLL_RELOCK_TIMEOUT. -/
def execPllRelockTimeout (r : RegN) (b : Bool) (s : State) : Host.Outcome State Fault Refusal :=
  .next (pllTimeoutNow s r.val (b2n b))

/-- ASSAYER_HEARTBEAT: of assayer A, or B with `b`. -/
def execAssayerHeartbeat (b : Bool) (s : State) : Host.Outcome State Fault Refusal := .next (heartbeatBy s (b2n b))

/-- ASSAYER_LOST: assayer A, or B where the first part of `b` holds, is declared lost; the second says that its cores have disagreed. -/
def execAssayerLost (b : Bool × Bool) (s : State) : Host.Outcome State Fault Refusal := .next (declareLost s (b2n b.1) b.2)

/-- TAKEOVER: by assayer A, or B with `b`. -/
def execTakeover (b : Bool) (s : State) : Host.Outcome State Fault Refusal := .next (takeOver s (b2n b))

/-- ASSAYER_RESTART. -/
def execAssayerRestart (b : Bool) (s : State) : Host.Outcome State Fault Refusal :=
  .next (regCmd (pgDASY (b2n b)) DASY.CTRL.off 1 hostSrc (fun s => dasyCtrlWrite s (b2n b) 1) s)

/-- ASSAYER_SELF_TEST: whether A and B pass, as far as their tests run. -/
def execAssayerSelfTest (a b : Bool) (s : State) : Host.Outcome State Fault Refusal := .next (selfTests s a b)

/-- FAIL_STATIC. -/
def execFailStatic (s : State) : Host.Outcome State Fault Refusal := .next (failStaticNow s)

end Sys2Proof.Machine
end

