-- ==== Sys2Proof/Machine/Bezel.lean ====
section
/-! DEFINITION. The bezel: cells and their signals, pins, frames, token ports, and the cycle of a segment, with the
analog and 24 V channels as far as a cycle reaches them (R353 to R369, R371, R374, R379, R380). -/

namespace Sys2Proof.Machine
open Sys2Proof

def bezelOf (s : State) (sg : Nat) : Bezel := look Bezel.init s.bezel sg

def setBezel (s : State) (sg : Nat) (b : Bezel) : State := { s with bezel := put Bezel.init s.bezel sg b }

def modBezel (s : State) (sg : Nat) (f : Bezel → Bezel) : State := setBezel s sg (f (bezelOf s sg))

def dacOf (s : State) (k : Nat) : Dac := look Dac.init s.dacs k

def setDac (s : State) (k : Nat) (d : Dac) : State := { s with dacs := put Dac.init s.dacs k d }

/-! ### Cells (R356 to R359) -/

/-- The configuration of a cell: its table, its six sources, its initial value and whether its output is registered
(R356). -/
structure BCell where
  lut  : Nat
  ins  : List Nat
  init : Bool
  reg  : Bool
  deriving DecidableEq, Repr

/-- Configuration word `i` of cell `c` of a segment (R370). -/
def cellWord (s : State) (sg c i : Nat) : Nat :=
  (regAt s (pgDBZC (16 * sg + c / 64)) (0x40 + 32 * (c % 64) + 4 * i)).toNat

def bcell (s : State) (sg c : Nat) : BCell where
  lut := cellWord s sg c 0 + 2 ^ 32 * cellWord s sg c 1
  ins := [2, 3, 4].flatMap fun i => [bitsOf (cellWord s sg c i) 11 0, bitsOf (cellWord s sg c i) 27 16]
  init := bitOf (cellWord s sg c 5) 1
  reg := bitOf (cellWord s sg c 5) 0

/-- The cells of a segment whose output can be 1. -/
def usedCells (s : State) (sg : Nat) : List (Nat × BCell) :=
  ((List.range 1024).map fun c => (c, bcell s sg c)).filter fun x => decide (x.2.lut ≠ 0) || x.2.reg

/-- Every flip-flop at its `INIT` (R357). -/
def initMask (cs : List (Nat × BCell)) : Nat := cs.foldl (fun m x => if x.2.reg && x.2.init then m + 2 ^ x.1 else m) 0

/-- The global analog or 24 V output channel with local number `i` of a segment: south from 8, west from 0 (R353). -/
def anaCh (sg i : Nat) : Nat := if sg = 2 then 8 + i else i

/-- The key of a token port in's launch: the clasp that its tokens go to. -/
def portInKey (s : State) (j : Nat) : Option Nat := claspKey (portInEnd s j)

/-- CREDIT of a token port in (R365). -/
def portCredit (s : State) (j : Nat) : Bool := (portInKey s j).any fun k => claspRoom s k

/-- A signal of a segment by its source index, given the cell outputs (R358). -/
def bzSig (s : State) (sg cells src : Nat) : Bool :=
  let b := bezelOf s sg
  if src < 0x400 then bitOf cells src
  else if src < 0x580 then bitOf (b.pinIn.getD 5 0) (src - 0x400)
  else if 0x600 ≤ src ∧ src < 0x800 then
    let j := 8 * sg + (src - 0x600) / 64
    let i := src % 64
    match i, portShown s j with
    | 37, _ => portCredit s j
    | 36, ts => !ts.isEmpty
    | i, t :: _ => decide (i < 36) && bitOf (t.data.toNat + 2 ^ 32 * tagsOf t) i
    | _, [] => false
  else if 0x800 ≤ src ∧ src < 0x900 then
    let k := anaCh sg ((src - 0x800) / 32)
    let i := src % 32
    decide (2 ≤ sg) &&
      (if i < 16 then bitOf (getF s pgDMIF (DMIF.ADC_DATA_SAMPLE k)) i
       else if i = 16 then decide (look 0 s.adcVal k = 1)
       else decide (i = 17) && flagF s pgDMIF (DMIF.ADC_DATA_CLIP k))
  else if 0x900 ≤ src ∧ src < 0x910 then bitOf b.di (src - 0x900)
  else if 0x920 ≤ src ∧ src < 0x940 then bitOf b.rx (src - 0x920)
  else if src = 0xFF0 then b.frame
  else decide (src = 0xFF2)

/-- The table entry that a cell takes: IN0 is bit 0 of the index (R357). -/
def cellValue (s : State) (sg m : Nat) (c : BCell) : Bool :=
  bitOf c.lut (ofBits (c.ins.map (bzSig s sg m)))
where
  ofBits : List Bool → Nat
    | [] => 0
    | b :: bs => b2n b + 2 * ofBits bs

/-- The flip-flops of a segment: at `INIT` before SR_REL (R357). -/
def ffNow (s : State) (sg : Nat) (cs : List (Nat × BCell)) : Nat := if s.released then (bezelOf s sg).ff else initMask cs

/-- One pass over the cells from outputs `m`: the outputs of the cells without a register settle. -/
def settleCells (s : State) (sg : Nat) (cs : List (Nat × BCell)) (ff m : Nat) : Nat :=
  cs.foldl (fun n x => if (if x.2.reg then bitOf ff x.1 else cellValue s sg m x.2) then n + 2 ^ x.1 else n) 0

def settleRounds (s : State) (sg : Nat) (cs : List (Nat × BCell)) (ff : Nat) : Nat → Nat → Nat
  | 0, m => m
  | k + 1, m => settleRounds s sg cs ff k (settleCells s sg cs ff m)

/-- The outputs of a segment's cells in the current cycle. A path crosses at most seven cells without a register
(R359). -/
def bzCells (s : State) (sg : Nat) : Nat :=
  let cs := usedCells s sg
  settleRounds s sg cs (ffNow s sg cs) 8 0

/-- The flip-flops after a cycle. -/
def nextFf (s : State) (sg m : Nat) (cs : List (Nat × BCell)) : Nat :=
  cs.foldl (fun n x => if x.2.reg && cellValue s sg m x.2 then n + 2 ^ x.1 else n) 0

/-! ### Pins (R354, R362 to R364, R368, R379) -/

def pinMode (s : State) (sg p : Nat) : Nat := getF s (pgDBZL sg) (DBZL.PIN_CFG_MODE p)
def pinSer (s : State) (sg p : Nat) : Nat := 2 ^ getF s (pgDBZL sg) (DBZL.PIN_CFG_SER p)
def pinFramed (s : State) (sg p : Nat) : Bool := flagF s (pgDBZL sg) (DBZL.PIN_CFG_FRAMED p)
def pinSel (s : State) (sg p : Nat) : Nat := getF s (pgDBZL sg) (DBZL.PIN_CFG_SEL p)

/-- The pin takes output words: modes OUT and INOUT. -/
def pinOuts (s : State) (sg p : Nat) : Bool := decide (pinMode s sg p = 2 ∨ pinMode s sg p = 3)

/-- The pin is driven (R339, R343, R364). -/
def pinDriven (s : State) (sg m p : Nat) : Bool :=
  s.outRel && (decide (pinSer s sg p = 1) || bitOf (getF s pgDCFG DCFG.STATUS_PHDONE) 0) &&
    (match pinMode s sg p with
     | 2 | 4 => true
     | 3 => if s.released then bzSig s sg m (pinSel s sg p) else flagF s (pgDBZL sg) (DBZL.PIN_CFG_OEINIT p)
     | _ => false)

/-- Bits [8p+7:8p] of a word over pins. -/
def pinBits (w p : Nat) : Nat := w >>> (8 * p) % 256

/-- The levels of a driven pin in the current cycle, bit 0 first. -/
def drivenWord (s : State) (sg p : Nat) : Nat :=
  let b := bezelOf s sg
  if pinMode s sg p = 4 then
    let k := pinSel s sg p % 32
    if getF s pgDLPE (DLPE.PROBE_SEG k) = sg then b2n (bitOf (b.prb.getD 2 0) k) else b2n (bitOf b.prbFar k)
  else pinBits b.out p % 2 ^ pinSer s sg p

/-- The samples of pin `p` in a cycle, given the levels `ext` that stand outside (R362, R368). -/
def sampleWord (s : State) (sg m p ext : Nat) : Nat :=
  let n := pinSer s sg p
  let x := p - 1
  if pinMode s sg p = 0 ∨ pinMode s sg p = 4 then 0
  else if 40 ≤ p ∧ p % 2 = 1 ∧ pinDriven s sg m x ∧ !(flagF s (pgDBZL sg) (DBZL.XCVR_CFG_ECHO ((p - 40) / 2))) then 2 ^ n - 1
  else if 40 ≤ p ∧ p % 2 = 1 ∧ pinDriven s sg m x ∧ flagF s (pgDBZL sg) (DBZL.XCVR_CFG_HALF ((p - 40) / 2)) then
    (List.range n).foldl (fun w i => w + b2n (bitOf (drivenWord s sg x) (i * pinSer s sg x / n)) * 2 ^ i) 0
  else if pinDriven s sg m p then drivenWord s sg p
  else ext % 2 ^ n

/-- The word that an output pin loads at the end of a cycle (R363). -/
def loadWord (s : State) (sg m p : Nat) : Nat :=
  m >>> (getF s (pgDBZL sg) (DBZL.PIN_OUT_BASE p)) % 2 ^ pinSer s sg p

def setPinBits (w p v : Nat) : Nat := setBits w (8 * p + 7) (8 * p) v

/-- The output registers after a cycle: an immediate word leaves two cycles after it is loaded; a framed word is
loaded where it differs from the last (R363). -/
def pinOutputs (s : State) (sg m : Nat) (b : Bezel) : Bezel :=
  (List.range 48).foldl (fun b p =>
    if pinOuts s sg p then
      let v := loadWord s sg m p
      if pinFramed s sg p then
        (if v = b2n (bitOf b.frLast p) then b
         else { b with frLast := setBits b.frLast p p v, frFresh := setBits b.frFresh p p 1 })
      else { b with out := setPinBits b.out p (pinBits b.outNext p), outNext := setPinBits b.outNext p v }
    else b) b

/-- The output registers at OUT_REL: every pin's `INIT` (R364). -/
def pinInits (s : State) (sg : Nat) (b : Bezel) : Bezel :=
  (List.range 48).foldl (fun b p =>
    let v := getF s (pgDBZL sg) (DBZL.PIN_CFG_INIT p)
    { b with out := setPinBits b.out p v, outNext := setPinBits b.outNext p v, frLast := setBits b.frLast p p (v % 2) }) b

/-- The pins whose mode is OFF. -/
def offPins (s : State) (sg : Nat) : Nat :=
  (List.range 48).foldl (fun m p => if pinMode s sg p = 0 then m + 2 ^ p else m) 0

/-- A write of `PINp_CFG` (R369): `MODE` and `SEL` only between OFF and PROBE, on a pin that the image left OFF. -/
def pinCfgWrite (s : State) (sg p : Nat) (v : Word) : State :=
  let m := bitsOf v.toNat 31 29
  let c := bitsOf v.toNat 11 0
  let old := pinMode s sg p
  if m = old ∧ c = pinSel s sg p then s
  else if bitOf (bezelOf s sg).imgOff p && decide (m = 0 ∨ m = 4) && decide (old = 0 ∨ old = 4) then
    setF (setF s (pgDBZL sg) (DBZL.PIN_CFG_MODE p) m) (pgDBZL sg) (DBZL.PIN_CFG_SEL p) c
  else errCount s (pgDBZL sg)

/-! ### Neighbours and probes (R360, R379) -/

/-- Sixteen cell outputs from cell `c` on. -/
def cells16 (m c : Nat) : Nat := m >>> c % 65536

/-- What a segment samples from its neighbours: RXCW low, RXCC high (R360). -/
def neighbourBits (s : State) (sg : Nat) : Nat :=
  let cw := (sg + 1) % 4
  let cc := (sg + 3) % 4
  cells16 (bzCells s cw) (getF s (pgDBZL cw) DBZL.XLINK_TXCC) + 65536 * cells16 (bzCells s cc) (getF s (pgDBZL cc) DBZL.XLINK_TXCW)

/-- Each bit of two words by a free choice. -/
def pick (w a b f : Nat) : Nat := (List.range w).foldl (fun n i => n + b2n (if bitOf f i then bitOf a i else bitOf b i) * 2 ^ i) 0

/-- The probes of the current cycle (R379, R383). `own` answers for the segments whose cells are known. -/
def probeWord (s : State) : Nat :=
  let ms := (List.range 4).map fun sg => bzCells s sg
  (List.range 32).foldl (fun n k =>
    let sg := getF s pgDLPE (DLPE.PROBE_SEG k)
    if flagF s pgDLPE (DLPE.PROBE_EN k) && bzSig s sg (ms.getD sg 0) (getF s pgDLPE (DLPE.PROBE_SRC k)) then n + 2 ^ k else n) 0

/-- The probes whose signal lies in segment `sg`. -/
def probesOf (s : State) (sg : Nat) : Nat :=
  (List.range 32).foldl (fun n k => if getF s pgDLPE (DLPE.PROBE_SEG k) = sg then n + 2 ^ k else n) 0

/-- One trace sample in the clock of segment `sg`: own probes as they are, others through ASYNC clasps (R380). -/
def traceCycle (s : State) (sg now far : Nat) : State :=
  if getF s pgDLPE DLPE.TRACE_CFG_SEG = sg then
    let own := probesOf s sg
    let w := (now &&& own) ||| (far &&& (own ^^^ (2 ^ 32 - 1)))
    let md := getF s pgDLPE DLPE.TRACE_CFG_MODE
    let s' := if md = 1 ∨ (md = 0 ∧ w ≠ s.loupe.word) then traceEntry s (s.tb.toNat % 2 ^ 32 * 2 ^ 32 + w) w else s
    { s' with loupe := { s'.loupe with word := w } }
  else s

/-! ### Token ports (R365, R366) -/

/-- The token that port in `j` of a segment offers: cells `IN_BASE` to `IN_BASE` + 36. -/
def portOffer (s : State) (sg m j : Nat) : Option Tok :=
  let w := m >>> getF s (pgDBZL sg) (DBZL.PORT_CFG_IN_BASE j)
  if flagF s (pgDBZL sg) (DBZL.PORT_CFG_IN_EN j) && bitOf w 36 then some (tokOf (word w) (bitsOf w 35 32)) else none

/-- Launches the token of port in `j` toward its tile, or discards it (R365). -/
def portLaunch (s : State) (sg : Nat) (x : Launch) : State :=
  match portInKey s (8 * sg + x.port), x.credit with
  | some k, true => claspPush s k x.tok
  | _, _ => raiseOpt (incF s (pgDBZL sg) (DBZL.OVR x.port) 1) (pgDBZL sg) 0 0x6D 0

/-- Carries out what the end of the last cycle brought to port in `j`. -/
def portInAct (s : State) (j : Nat) : State :=
  let sg := j / 8
  match (bezelOf s sg).launches.find? fun x => x.port == j % 8 with
  | some x => portLaunch (modBezel s sg fun b => { b with launches := b.launches.filter fun y => y.port != j % 8 }) sg x
  | none => s

/-- Removes the head token of port out `j` when its take source was 1. -/
def portOutAct (s : State) (j : Nat) : State :=
  let sg := j / 8
  if bitOf (bezelOf s sg).takes (j % 8) then
    let s := modBezel s sg fun b => { b with takes := setBits b.takes (j % 8) (j % 8) 0 }
    { s with portOut := put [] s.portOut j (portShown s j).tail }
  else s

/-! ### Analog outputs: loads (R371) -/

/-- Segment and local number of an analog or 24 V output channel. -/
def chSeg (k : Nat) : Nat := if k < 8 then 3 else 2

/-- Latches the code of channel `k` that the end of the last cycle loaded; a load ends a HOLD or ZERO (R371, R373). -/
def dacLoad (s : State) (k : Nat) : State :=
  let sg := chSeg k
  match (bezelOf s sg).loads.find? fun x => x.1 == k with
  | some x =>
    let s := modBezel s sg fun b => { b with loads := b.loads.filter fun y => y.1 != k }
    let s := setF s pgDMIF (DMIF.DAC_CODE_CODE k) x.2
    let d := dacOf s k
    let s := setDac s k { d with waiting := some x.2, loadAt := s.age }
    if d.opened then s else setF s pgDMIF (DMIF.DAC_CFG_STALE k) 0
  | none => s

/-! ### The cycle -/

/-- Carries out what is left of the last cycle's end at ports and analog outputs. -/
def finishCycle (s : State) (sg : Nat) : State :=
  let s := (List.range 8).foldl (fun s j => portOutAct (portInAct s (8 * sg + j)) (8 * sg + j)) s
  if sg < 2 then s else (List.range 8).foldl (fun s i => dacLoad s (anaCh sg i)) s

/-- The LOAD cells of a segment's analog outputs, and the codes whose LOAD has risen (R371). -/
def loadCells (s : State) (sg m : Nat) : Nat :=
  if sg < 2 then 0
  else (List.range 8).foldl (fun n i => if bitOf m (getF s pgDMIF (DMIF.DAC_CFG_BASE (anaCh sg i)) + 16) then n + 2 ^ i else n) 0

def loadCodes (s : State) (sg m now prev : Nat) : List (Nat × Nat) :=
  (List.range 8).filterMap fun i =>
    if bitOf now i && !(bitOf prev i) then some (anaCh sg i, cells16 m (getF s pgDMIF (DMIF.DAC_CFG_BASE (anaCh sg i)))) else none

/-- Ends VALID of the analog inputs whose TAKE source is 1 (R374). -/
def adcTakes (s : State) (sg m : Nat) : State :=
  if sg < 2 then s
  else (List.range 8).foldl (fun s' i =>
    if look 0 s.adcVal (anaCh sg i) = 1 ∧ bzSig s sg m (getF s pgDMIF (DMIF.ADC_TAKE (anaCh sg i))) then
      { s' with adcVal := put 0 s'.adcVal (anaCh sg i) 0 } else s') s

/-- The filtered levels of a segment's 24 V inputs (R353). -/
def diLocal (s : State) (sg : Nat) : Nat :=
  let l := getF s pgDMIF DMIF.DI_LEVEL
  if sg = 3 then l % 65536 else if sg = 2 then l / 65536 else 0

/-- One cycle of a segment's logic clock. Before SR_REL only the input registers move (R342). -/
def bezelCycle (s : State) (sg : Nat) (ext : Nat) : State :=
  let s := finishCycle s sg
  let m := bzCells s sg
  let b := bezelOf s sg
  let samples := (List.range 48).foldl (fun w p => w + sampleWord s sg m p (pinBits ext p) * 2 ^ (8 * p)) 0
  let b1 := { b with pinIn := (samples :: b.pinIn).take 6, di := diLocal s sg }
  if s.released then
    let f := takeFree s
    let now := probeWord s
    let far := pick 32 (b.prb.getD 1 0) (b.prb.getD 2 0) (f.1 / 2 ^ 64)
    let lc := loadCells s sg m
    let rx := neighbourBits s sg
    let b2 := pinOutputs s sg m b1
    let b3 := { b2 with
      ff := nextFf s sg m (usedCells s sg)
      rx := pick 32 (b.rxHist.getD 0 0) (b.rxHist.getD 1 0) f.1
      rxHist := (rx :: b.rxHist).take 2
      prb := (now :: b.prb).take 6
      prbFar := pick 32 (b.prb.getD 3 0) (b.prb.getD 4 0) (f.1 / 2 ^ 32)
      frame := false
      launches := (List.range 8).filterMap fun j => (portOffer s sg m j).map fun t => ⟨j, t, portCredit s (8 * sg + j)⟩
      takes := (List.range 8).foldl (fun n j =>
        if !(portShown s (8 * sg + j)).isEmpty && bzSig s sg m (getF s (pgDBZL sg) (DBZL.PORT_TAKE j)) then n + 2 ^ j else n) 0
      loads := loadCodes s sg m lc b.prevLoad
      prevLoad := lc }
    setBezel (traceCycle (adcTakes f.2 sg m) sg now far) sg b3
  else setBezel s sg b1

/-! ### Frames (R361, R363) -/

/-- The least LEN × 10 × m + PHASE × 10 above time `t`. -/
def frameAfter (s : State) (sg t : Nat) : Nat :=
  let l := 10 * max 1 (getF s (pgDBZL sg) DBZL.FRAME_LEN)
  let ph := 10 * getF s (pgDBZL sg) DBZL.FRAME_PHASE
  if t < ph then ph else ph + l * ((t - ph) / l + 1)

/-- A frame of a segment starts: one, whatever number of starts the time base passed. The SYNC channels of the
segment are released with the code last loaded (R361, R372). -/
def frameStart (s : State) (sg : Nat) : State :=
  let b := bezelOf s sg
  if b.nextFrame ≠ 0 ∧ b.nextFrame ≤ s.tb.toNat then
    let s := setBezel s sg { b with frame := true, framed := true, frameAge := s.age, slotDone := 0, nextFrame := frameAfter s sg s.tb.toNat }
    let s := setF s (pgDBZL sg) DBZL.FRAME_CNT ((getF s (pgDBZL sg) DBZL.FRAME_CNT + 1) % 2 ^ 32)
    if sg < 2 then s
    else (List.range 8).foldl (fun s i =>
      let k := anaCh sg i
      let d := dacOf s k
      if flagF s pgDMIF (DMIF.DAC_CFG_SYNC k) && d.waiting.isSome then setDac s k { d with due := d.waiting, waiting := none } else s) s
  else s

/-- The slot of a framed pin (R363). -/
def framedSlot (s : State) (sg p : Nat) : State :=
  let b := bezelOf s sg
  if s.released && pinOuts s sg p && pinFramed s sg p && b.framed && !(bitOf b.slotDone p) &&
      decide (b.frameAge + getF s (pgDBZL sg) (DBZL.PIN_OUT_TICK p) ≤ s.age) then
    let b := { b with slotDone := setBits b.slotDone p p 1 }
    if bitOf b.frFresh p then
      setBezel s sg { b with out := setPinBits b.out p (b2n (bitOf b.frLast p)), frFresh := setBits b.frFresh p p 0 }
    else raiseOpt (incF (setBezel s sg b) (pgDBZL sg) DBZL.SLOT_MISS 1) (pgDBZL sg) 1 0x4C 0
  else s

/-! ### The commands -/

/-- BEZEL_CYCLE: `pins` holds the levels outside, eight samples per local pin. -/
def execBezelCycle (seg : Fin 4) (pins : BitVec 384) (s : State) : Host.Outcome State Fault Refusal :=
  .next (bezelCycle s seg.val pins.toNat)

/-- FRAME. -/
def execFrame (seg : Fin 4) (s : State) : Host.Outcome State Fault Refusal := .next (frameStart s seg.val)

/-- FRAMED_SLOT. -/
def execFramedSlot (seg : Fin 4) (pin : Fin 48) (s : State) : Host.Outcome State Fault Refusal :=
  .next (framedSlot s seg.val pin.val)

/-- TOKEN_PORT_IN. -/
def execTokenPortIn (j : Fin 32) (s : State) : Host.Outcome State Fault Refusal := .next (portInAct s j.val)

/-- TOKEN_PORT_OUT_TAKE. -/
def execTokenPortOutTake (j : Fin 32) (s : State) : Host.Outcome State Fault Refusal := .next (portOutAct s j.val)

/-- DAC_LOAD. -/
def execDacLoad (k : Fin 16) (s : State) : Host.Outcome State Fault Refusal := .next (dacLoad s k.val)

end Sys2Proof.Machine
end

