-- ==== Sys2Proof/Machine/Startup.lean ====
section
/-! DEFINITION. The disabled state of the outputs and the end of a start-up that fails (R339, R340). -/

namespace Sys2Proof.Machine
open Sys2Proof

/-- `DCFG.STATUS.STATE`: 0 BOOT, 1 WAITSRC, 2 LOAD, 3 DONEWAIT, 4 PHASES, 5 RUN, 6 FAILED, 7 HOLD (R327). -/
def loadState (s : State) : Nat := getF s pgDCFG DCFG.STATUS_STATE

def setLoadState (s : State) (v : Nat) : State := setF s pgDCFG DCFG.STATUS_STATE v

/-- CFG_MODE values (R337). -/
def loadSource (s : State) : Nat := getF s pgDCFG DCFG.STATUS_SOURCE

/-- Every user output returns to its disabled state (R339). -/
def disableOutputs (s : State) : State :=
  let s := { s with outRel := false, released := false }
  let s := (List.range 256).foldl (fun s t => if (tileOf s t).halted then s else modTile s t fun x => { x with halted := true }) s
  let s := (List.range 6).foldl (fun s n => setF s (pgZLNK n) ZLNK.STAT_STATE 0) s
  let s := (List.range 8).foldl (fun s n => setF s (pgETHP n) ETHP.STAT 0) s
  setF s pgDCFG DCFG.PINS_DONEREL 0

/-- Registers that a reset of the die leaves as they are: the identity record and, of the module power controller,
OFF_CAUSE and the phases shed (R347, R460, R480). -/
def keptReg (k : Nat) : Bool :=
  decide (0xC14 ≤ k ∧ k ≤ 0xC19) || k == 0x1C18 || decide (0x1C40 ≤ k ∧ k < 0x1C5D)

/-- nRESET or a low PWR_GOOD resets the die (R430, R474). Host memory, the flash and the module's power lie outside it;
a flash command in progress is lost. -/
def deviceReset (s : State) : State :=
  { State.reset with
    pending := s.pending
    free := s.free
    hostMem := s.hostMem
    regs := (s.regs.filter fun x => keptReg x.1).foldl (fun m x => put 0 m x.1 x.2)
      (resetRegs.filter fun x => !(keptReg x.1))
    flash := { s.flash with run := none, calRun := none }
    host := { HostPort.init with perst := s.host.perst }
    recov := { Recov.init with dead := s.recov.dead }
    power := { s.power with waves := [], calm := 0, govNext := 0, full := none, hot := 0, hotSince := [], plateHot := false,
                            supplyOut := false, offAt := 0 } }

/-- A failure in LOAD, DONEWAIT or PHASES (R340): `ofs` and `sect` name where. -/
def loadFailed (s : State) (code ofs sect : Nat) : State :=
  let s := setF (setLoadState (disableOutputs s) 6) pgDCFG DCFG.STATUS_CODE code
  let s := setF (setF s pgDCFG DCFG.ERR_OFS ofs) pgDCFG DCFG.ERR_SECT sect
  setF s pgDCFG DCFG.PINS_ERR 1

def noOfs : Nat := 0xFFFFFFFF
def noSect : Nat := 0x1FF

end Sys2Proof.Machine
end

