-- ==== Sys2Proof/Machine/Zilaek.lean ====
section
/-! DEFINITION. Zilaek and bridge links from the receiving side, link training, strands, device IDs and time transport
(R387 to R413, R293, R404). -/

namespace Sys2Proof.Machine
open Sys2Proof

/-! ### The link header and the checks of a frame (R391 to R395) -/

structure LinkHdr where
  typ  : Nat
  cls  : Nat
  nrh  : Nat
  len  : Nat
  seq  : Nat
  ack  : Nat
  cred : Nat
  deriving DecidableEq, Repr

def linkHdr (w : BitVec 64) : LinkHdr :=
  let n := w.toNat
  ⟨bitsOf n 63 60, bitsOf n 59 58, bitsOf n 57 55, bitsOf n 54 50, bitsOf n 49 40, bitsOf n 39 30, bitsOf n 27 16⟩

def wordAt (ws : List (BitVec 64)) (i : Nat) : Nat := (ws.getD i 0).toNat

/-- Flits of the packet in a DATA frame: two for REQ WRITE (R392). -/
def flitsOf (ws : List (BitVec 64)) (nrh : Nat) : Nat :=
  let h := wordAt ws (1 + nrh)
  if bitsOf h 63 62 = 0 ∧ bitsOf h 24 21 = 1 then 2 else 1

def baseLen (ws : List (BitVec 64)) (h : LinkHdr) : Nat :=
  match h.typ with
  | 1 => 2 + 9 * flitsOf ws h.nrh
  | 4 => 5
  | 5 => 3
  | 6 => 4
  | 7 => 10
  | _ => 2

/-- The packet in a DATA frame agrees with its class, `MF` and `CNT` (R395 check 4). -/
def packetOk (ws : List (BitVec 64)) (h : LinkHdr) : Bool :=
  let f := wordAt ws (1 + h.nrh)
  let c := bitsOf f 63 62
  decide (c = h.cls) &&
    (if c = 2 then (if bitOf f 24 then decide (bitsOf f 28 25 = 0) else decide (1 ≤ bitsOf f 28 25) && decide (bitsOf f 28 25 ≤ 14))
     else (bitOf f 20 == (flitsOf ws h.nrh == 2)) && (flitsOf ws h.nrh == 1 || !(bitOf (wordAt ws (10 + h.nrh)) 20)))

/-- Checks 4 and 5 of R395: 0, or the code. -/
def formatCode (ws : List (BitVec 64)) : Nat :=
  let h := linkHdr (ws.headD 0)
  if 8 ≤ h.typ ∨ h.len ≠ baseLen ws h + h.nrh ∨ ws.length ≠ h.len then 0x34
  else if 5 ≤ h.nrh then 0x3E
  else if h.typ = 1 then (if h.nrh = 0 ∨ !(packetOk ws h) then 0x34 else 0)
  else if h.nrh ≤ (if h.typ = 6 then 1 else 0) then 0 else 0x34

/-- Check 2 of R395. -/
def trailerOk (ws : List (BitVec 64)) : Bool :=
  (ws.getLast?.map BitVec.toNat) == some (crc32c (wordBytes ws.dropLast) * 2 ^ 32) && decide (2 ≤ ws.length)

/-! ### Acknowledgement, credits and resends (R393, R394) -/

/-- Takes the acknowledgement and the credits that a header returns. -/
def lineAck (s : State) (n ack cred : Nat) : State :=
  let x := lineOf s n
  let un := match x.unacked.findIdx? fun u => u.1 == ack with
    | some i => x.unacked.drop (i + 1)
    | none => x.unacked
  let used := x.used.zipIdx.map fun u => u.1 - bitsOf cred (3 * u.2 + 2) (3 * u.2)
  pumpLine 256 (setLine s n { x with unacked := un, used := used }) n

def countResend (s : State) (n : Nat) : State :=
  if n < 8 then incF s (pgZLNK n) ZLNK.RESEND 1 else incF s pgDSTR (DSTR.BR_RESEND (n - 8)) 1

/-- Sends every frame not yet acknowledged again, in order. -/
def resendAll (s : State) (n : Nat) : State :=
  (lineOf s n).unacked.foldl (fun s u => countResend (putFrame s n u.1 u.2) n) s

def plainFrame (typ : Nat) (body : List (BitVec 64)) : Frame := ⟨typ, 0, 0, body⟩

/-! ### Answers and forwarding (R395, R397, R398) -/

/-- The header of a frame's innermost routing header's source: who sent it. -/
def originOf (ws : List (BitVec 64)) (nrh : Nat) : Nat := rhSrc (ws.getD nrh 0)

/-- An answer to a far device's request. -/
def answerFar (s : State) (eng dev : Nat) (k : Pkt) (code : Nat) (d : List Byte) : State :=
  (sendData s eng dev { blankPkt with cls := .rsp, src := k.src, tag := k.tag, write := k.write, code := code, data := d }).1

/-- The packet that a DATA frame carries. -/
def framePkt (ws : List (BitVec 64)) (nrh : Nat) : Pkt := pktOfWords ((ws.drop (1 + nrh)).dropLast)

/-- A frame dropped by line `n`'s port: a REQ is answered with the code. -/
def dropFrame (s : State) (n code : Nat) (ws : List (BitVec 64)) : State :=
  let h := linkHdr (ws.headD 0)
  let k := framePkt ws h.nrh
  let s := raiseEv s (linePage s n) code 0
  if h.typ = 1 ∧ k.cls = .req ∧ 0 < h.nrh then answerFar s (lineEngine s n) (originOf ws h.nrh) k code [] else s

/-! ### Delivery (R398) -/

/-- The link's page counts and reports a refused access that a far device's request made here (R20). -/
def farRefused (s : State) (eng a code : Nat) : State :=
  if 0x10 ≤ code ∧ code < 0x20 then refuseAt s (pgZLNK eng) code (a % 2 ^ 32) else s

/-- A REQ of a far device at the window and at the serving link's interface; `none` when no tag is free. -/
def remoteReq (s : State) (eng dev : Nat) (k : Pkt) : Option State :=
  let src := 0x221 + eng
  let lo := getF s pgDSTR DSTR.RWIN_BASE
  let hi := getF s pgDSTR DSTR.RWIN_LIMIT
  let b := k.addr % 2 ^ 48 / 65536
  let c := if b < lo ∨ hi < b then 0x19 else firstCode (interfaceCode k.addr) (if routeRefused s src k.addr then 0x33 else 0)
  if c ≠ 0 then some (farRefused (answerFar s eng dev k c []) eng k.addr c)
  else sendReq s src k.vc k.write k.addr k.nbytes k.be k.data k.poison (.remote eng dev (256 * k.src + k.tag))

def modStrand (s : State) (f : Strand → Strand) : State := { s with strand := f s.strand }

/-- Serves far requests that waited for a tag. -/
def drainRemote : Nat → State → Nat → State
  | 0, s, _ => s
  | fuel + 1, s, eng =>
    match look [] s.strand.remote eng with
    | [] => s
    | (dev, k) :: rest =>
      match remoteReq s eng dev k with
      | some s => drainRemote fuel (modStrand s fun y => { y with remote := put [] y.remote eng rest }) eng
      | none => s

/-- The answer from inside to a far device's request: it goes to its source device. -/
def remoteDone (s : State) (eng dev key a : Nat) (write : Bool) (code : Nat) (d : List Byte) : State :=
  drainRemote 64 (answerFar (farRefused s eng a code) eng dev { blankPkt with src := key / 256, tag := key % 256, write := write } code d) eng

/-- A response from a far device: to the remote channel whose tag it carries. -/
def remoteRsp (s : State) (k : Pkt) : State :=
  let i := 256 * k.src + k.tag
  match look none s.txns i with
  | some t =>
    let f := takeFree { s with txns := put none s.txns i none }
    let s := countTxn f.2 k.src t.write t.n (f.1 % 2 ^ 32)
    let s := match t.purpose with
      | .dmaRead ch off first => readDone s ch off (!first) k.code (spanOf k.data (t.addr % 64) t.n)
      | .dmaWrite ch unit off => writeDone s ch unit off k.code t.n
      | _ => s
    drainRemote 64 s (k.src - 0x221)
  | none => s

/-- An inbound stream packet at its entry (R399, R401). -/
def lineStream (s : State) (eng dev : Nat) (k : Pkt) : State :=
  let es := (List.range 64).map (zilKey eng)
  let r := (entIf (zilKey eng 0)).1
  if k.credit then
    match es.find? fun e => entEn s e && entOutbound s e && getE s e 0x10 31 0 == dev * 2 ^ 14 + k.stream with
    | some key => outCredited s key k.seq
    | none => noEndpoint s r
  else
    match es.find? fun e => entEn s e && !(entOutbound s e) && entStream s e == k.stream with
    | some key =>
      let s := setE s key 0x10 17 0 dev
      let s := receiveData s r key (fun s t => entAccept s key t) k
      let g := (endOf s key).gathered
      pumpEnt (lineCredit (modEnd s key fun e => { e with gathered := 0 }) key g) key
    | none => noEndpoint s r

def deliverFar (s : State) (n dev : Nat) (k : Pkt) : State :=
  let eng := lineEngine s n
  match k.cls with
  | .req =>
    (match remoteReq s eng dev k with
     | some s => s
     | none => modStrand s fun y => { y with remote := put [] y.remote eng (look [] y.remote eng ++ [(dev, k)]) })
  | .rsp => remoteRsp s k
  | .stream => lineStream s eng dev k
  | .svc => svcIn s dev k

/-- `receive` of R397. -/
def dataIn (s : State) (n : Nat) (ws : List (BitVec 64)) : State :=
  let h := linkHdr (ws.headD 0)
  let rhs := (ws.drop 1).take h.nrh
  let flits := (ws.drop (1 + h.nrh)).dropLast
  let miss (c : Nat) : State := dropFrame (incF s (linePage s n) ZLNK.ROUTE_MISS 1) n c ws
  let rest := if isOwn s (rhDst (rhs.headD 0)) then rhs.drop 1 else rhs
  match rest with
  | [] => deliverFar s n (rhSrc (rhs.headD 0)) (pktOfWords flits)
  | r :: more =>
    if rhTtl r = 0 then miss 0x3F
    else
      let r' := rhWord (rhDst r) (rhSrc r) (rhTtl r - 1)
      match forwardGo s 5 (rhDst r') ⟨1, h.cls, rest.length, r' :: more ++ flits⟩ with
      | .inl (m, f) => sendFrame s m f
      | .inr c => miss c

/-! ### Joining (R405 to R410) -/

def idMode (s : State) : Nat := getF s pgDSTR DSTR.ID_CFG_MODE

def ownSerial (s : State) : Nat := getF s pgDCAL DCAL.ID_SERIAL_LO + getF s pgDCAL DCAL.ID_SERIAL_HI * 2 ^ 32

/-- UP member links. -/
def memberLines (s : State) : List Nat :=
  (List.range 6).filter fun n => decide (getF s (pgZLNK n) ZLNK.CFG_MODE = 1) && lineState s n == 2

def joinFrame (jt id head arg serial : Nat) (rhs : List (BitVec 64)) : Frame :=
  ⟨6, 0, rhs.length, rhs ++ [w64 (jt * 2 ^ 60 + id % 2 ^ 18 * 2 ^ 42 + head % 2 ^ 18 * 2 ^ 24 + arg % 256 * 2 ^ 16), w64 serial]⟩

def headId (s : State) : Nat := ownId s / 64 * 64

/-- Head of its strand, or root (R405). -/
def isHead (s : State) : Bool := (idMode s == 1 || idMode s == 2) && ownId s != noId && ownId s % 64 == 0

/-- Packets that waited for an ID go out (R17). -/
def releaseHeld (s : State) : State :=
  (List.range 6).foldl (fun s n =>
    let l := look [] s.zsend n
    l.foldl (fun s x => (sendData s n x.1 x.2).1) { s with zsend := put [] s.zsend n [] }) s

/-- The device takes an ID. -/
def takeId (s : State) (id : Nat) : State :=
  releaseHeld (setF (setF (setF s pgDSTR DSTR.ID id) pgDSTR DSTR.JOIN_STAT_STATE 2) pgDSTR DSTR.JOIN_STAT_CODE 0)

/-- Sends a join frame on every member link but `n`. -/
def flood (s : State) (n : Nat) (f : Frame) : State :=
  ((memberLines s).filter fun m => m != n).foldl (fun s m => sendFrame s m f) s

/-- The number a requester gets: the one it already holds, else the lowest free one (log 52). -/
def freeNumber (granted : SMap Nat) (serial first last : Nat) (busy : Nat → Bool) : Option Nat :=
  match granted.find? fun g => g.2 == serial + 1 with
  | some g => some g.1
  | none => (List.range (last + 1)).find? fun m => decide (first ≤ m) && look 0 granted m == 0 && !(busy m)

def setMember (s : State) (m link hops : Nat) : State :=
  setF (setF (setF s pgDSTR (DSTR.MEMBER_VALID m) 1) pgDSTR (DSTR.MEMBER_LINK m) link) pgDSTR (DSTR.MEMBER_HOPS m) (min 255 hops)

/-- The head grants a member number, or refuses (R407, R408). -/
def grantMember (s : State) (n serial : Nat) : State :=
  let last := if ownId s / 64 = 4095 then 62 else 63
  match freeNumber s.strand.members serial 1 last (fun m => flagF s pgDSTR (DSTR.MEMBER_VALID m)) with
  | some m =>
    let id := headId s + m
    let fresh := look 0 s.strand.members m == 0
    let s := modStrand s fun y => { y with members := put 0 y.members m (serial + 1) }
    let s := sendFrame s n (joinFrame 3 id (headId s) 0 serial [])
    if fresh then flood (if n < 8 then setMember s m n 1 else s) 64 (joinFrame 5 id (headId s) 1 serial []) else s
  | none => sendFrame s n (joinFrame 4 noId (headId s) 0x6A serial [])

/-- The root grants a strand number, or refuses. -/
def grantStrand (s : State) (n serial : Nat) : State :=
  match freeNumber s.strand.strands serial 1 4095 (fun _ => false) with
  | some m =>
    sendFrame (modStrand s fun y => { y with strands := put 0 y.strands m (serial + 1) }) n (joinFrame 3 (64 * m) 0 0 serial [])
  | none => sendFrame s n (joinFrame 4 noId 0 0x6A serial [])

/-- Keeps a request that is forwarded, for at most 16; `none` when there is no place (R407). -/
def keepReq (s : State) (serial n : Nat) : Option State :=
  if s.strand.reqs.any fun q => q.serial == serial then some s
  else if s.strand.reqs.length < 16 then some (modStrand s fun y => { y with reqs := y.reqs ++ [⟨serial, n, s.age⟩] })
  else none

/-- A routed join frame that line `n` cannot send on is dropped there (R397). -/
def joinMiss (s : State) (n c : Nat) : State := raiseEv (incF s (linePage s n) ZLNK.ROUTE_MISS 1) (linePage s n) c 0

/-- Sends a routed join frame by its routing header. -/
def routeJoin (s : State) (n : Nat) (r : BitVec 64) (f : Frame) : State :=
  match wayTo s (rhDst r) with
  | .line m => sendFrame s m f
  | .push _ => joinMiss s n 0x3E
  | .drop => joinMiss s n 0x3F

/-- Forwards a routed join frame by its routing header, or drops it (R397). -/
def forwardJoin (s : State) (n : Nat) (r : BitVec 64) (f : BitVec 64 → Frame) : State :=
  if rhTtl r = 0 then joinMiss s n 0x3F
  else routeJoin s n r (f (rhWord (rhDst r) (rhSrc r) (rhTtl r - 1)))

def reqIn (s : State) (n : Nat) (rhs : List (BitVec 64)) (arg serial : Nat) : State :=
  if ownId s = noId then s
  else if arg = 1 then
    match rhs with
    | r :: _ =>
      if isOwn s (rhDst r) then (if idMode s = 1 then grantStrand s n serial else s)
      else (match keepReq s serial n with
        | some s => forwardJoin s n r fun r' => joinFrame 2 noId 0 1 serial [r']
        | none => s)
    | [] => s
  else if isHead s then grantMember s n serial
  else if flagF s pgDSTR (DSTR.MEMBER_VALID 0) then
    (match keepReq s serial n with
     | some s => sendFrame s (getF s pgDSTR (DSTR.MEMBER_LINK 0)) (joinFrame 2 noId 0 0 serial [])
     | none => s)
  else s

/-- A GRANT or REFUSE that names another device's serial number returns by the port its request came by. -/
def returnJoin (s : State) (serial : Nat) (f : Frame) : State :=
  match s.strand.reqs.find? fun q => q.serial == serial with
  | some q => sendFrame s q.line f
  | none => s

/-- HELLO names an ID that is already held: the later link is restricted (R409). -/
def restrict (s : State) (n : Nat) : State :=
  let s := setLine s n { lineOf s n with only := true }
  raiseEv (setF s pgDSTR DSTR.JOIN_STAT_CODE 0x57) pgDSTR 0x57 0

def helloIn (s : State) (n id : Nat) : State :=
  let s := if n < 8 then setF s (pgZLNK n) ZLNK.PEER id else setF s pgDSTR (DSTR.BR_STAT_PEER (n - 8)) id
  if id = noId then s
  else if id = ownId s then restrict s n
  else
    let m := id % 64
    let l := getF s pgDSTR (DSTR.MEMBER_LINK m)
    if id / 64 = ownId s / 64 ∧ flagF s pgDSTR (DSTR.MEMBER_VALID m) ∧ l ≠ n then
      restrict s (if (lineOf s n).upAt < (lineOf s l).upAt then l else n)
    else s

/-- An ANNOUNCE: the lowest hop count sets the route, and what is new goes on (R407, log 52). -/
def announceIn (s : State) (n id head hops serial : Nat) : State :=
  let m := id % 64
  if id / 64 ≠ ownId s / 64 ∨ id = ownId s ∨ 8 ≤ n then s
  else
    let known := flagF s pgDSTR (DSTR.MEMBER_VALID m)
    if known ∧ getF s pgDSTR (DSTR.MEMBER_HOPS m) ≤ hops then s
    else flood (setMember s m n hops) n (joinFrame 5 id head (min 255 (hops + 1)) serial [])

/-- A MOVE points the route of an ID at the link it came by, and goes on (R410). -/
def moveIn (s : State) (n id head serial : Nat) : State :=
  let m := id % 64
  if id / 64 ≠ ownId s / 64 ∨ 8 ≤ n ∨ head = ownId s then s
  else if flagF s pgDSTR (DSTR.MEMBER_VALID m) ∧ getF s pgDSTR (DSTR.MEMBER_LINK m) = n then s
  else
    let s := setF (setF s pgDSTR (DSTR.MEMBER_VALID m) 1) pgDSTR (DSTR.MEMBER_LINK m) n
    flood s n (joinFrame 6 id head 0 serial [])

def joinIn (s : State) (n : Nat) (ws : List (BitVec 64)) : State :=
  let h := linkHdr (ws.headD 0)
  let rhs := (ws.drop 1).take h.nrh
  let w := wordAt ws (1 + h.nrh)
  let serial := wordAt ws (2 + h.nrh)
  let id := bitsOf w 59 42
  let head := bitsOf w 41 24
  let arg := bitsOf w 23 16
  match bitsOf w 63 60 with
  | 1 => helloIn s n id
  | 2 => reqIn s n rhs arg serial
  | 3 =>
    if serial = ownSerial s ∧ ownId s = noId then takeId s id
    else returnJoin s serial (joinFrame 3 id head arg serial [])
  | 4 =>
    if serial = ownSerial s ∧ ownId s = noId then
      raiseEv (setF (setF s pgDSTR DSTR.JOIN_STAT_STATE 3) pgDSTR DSTR.JOIN_STAT_CODE arg) pgDSTR arg 0
    else returnJoin s serial (joinFrame 4 id head arg serial [])
  | 5 => announceIn s n id head arg serial
  | 6 => moveIn s n id head serial
  | _ => s

/-- The device's own REQ (R407): for a member number on an UP member link, for a strand number toward the root. -/
def ownReq (s : State) (n : Nat) : State :=
  if ownId s ≠ noId ∨ getF s pgDSTR DSTR.JOIN_STAT_STATE = 3 then s
  else if idMode s = 3 ∧ (memberLines s).contains n then
    sendFrame (setF s pgDSTR DSTR.JOIN_STAT_STATE 1) n (joinFrame 2 noId 0 0 (ownSerial s) [])
  else if idMode s = 2 ∧ flagF s pgDSTR DSTR.ID_CFG_SREQ then
    let r := rhWord 0 noId 63
    routeJoin (setF s pgDSTR DSTR.JOIN_STAT_STATE 1) n r (joinFrame 2 noId 0 1 (ownSerial s) [r])
  else s

/-! ### Time (R411 to R413) -/

/-- A difference of two 64-bit times as a signed number. -/
def timeDiff (a b : Nat) : Int := sext 64 ((a + 2 ^ 64 - b % 2 ^ 64) % 2 ^ 64)

def satWord (x : Int) : Nat := (max (-(2 ^ 31)) (min (2 ^ 31 - 1) x) % 2 ^ 32).toNat

/-- A LINK-mode device acts on a new offset (R413). -/
def timeSteer (s : State) (o : Int) : State :=
  let a := o.natAbs
  let s :=
    if 1000 ≤ o then { s with tbStep := s.tbStep + a }
    else if a < 10 then setF s pgDCLK DCLK.TB_SLEW_EN 0
    else
      let s := setF (setF s pgDCLK DCLK.TB_SLEW_EN 1) pgDCLK DCLK.TB_SLEW_DIR (if o < 0 then 1 else 0)
      { setF s pgDCLK DCLK.TB_SLEW_PERIOD (max 100 (min 1048575 (10 ^ 7 / a))) with ticks := 0 }
  let g := if a < 10 then min 16 (s.strand.good + 1) else 0
  setF (modStrand s fun y => { y with good := g }) pgDSTR DSTR.TIME_STAT_LOCKED (b2n (g == 16))

/-- A TIME frame received: offset, delay, and steering by the followed link (R412). A frame whose sender has had none
yet gives no offset, and which way the half of an odd sum rounds is a free value (log 53). -/
def timeIn (s : State) (n : Nat) (ws : List (BitVec 64)) : State :=
  let t3 := wordAt ws 1
  let t1 := wordAt ws 2
  let t2 := wordAt ws 3
  let t4 := s.tb.toNat
  let s := setLine s n { lineOf s n with gotT3 := t3, gotAt := t4 }
  if t1 = 0 ∧ t2 = 0 then s
  else
    let x := takeFree s
    let s := x.2
    let o := (timeDiff t2 t1 - timeDiff t4 t3 + (x.1 % 2 : Nat)) / 2
    let d := (timeDiff t2 t1 + timeDiff t4 t3 + (x.1 / 2 % 2 : Nat)) / 2
    let s := setF (setF s pgDSTR DSTR.TIME_OFS (satWord o)) pgDSTR DSTR.TIME_DLY (min (2 ^ 32 - 1) d.toNat)
    if getF s pgDSTR DSTR.TIME_CFG_SRC = 1 ∧ getF s pgDSTR DSTR.TIME_STAT_USING = n ∧ !(flagF s pgDSTR DSTR.TIME_STAT_HOLD) then
      timeSteer s o
    else s

/-- Sends a TIME frame on an UP member link. -/
def timeOut (s : State) (n : Nat) : State :=
  if (memberLines s).contains n then
    let x := lineOf s n
    sendFrame s n (plainFrame 4 [w64 s.tb.toNat, w64 x.gotT3, w64 x.gotAt])
  else s

/-- The followed link is DOWN: `ALT`, or hold (R413). -/
def timeLost (s : State) : State :=
  let u := getF s pgDSTR DSTR.TIME_STAT_USING
  if getF s pgDSTR DSTR.TIME_CFG_SRC = 1 ∧ !(flagF s pgDSTR DSTR.TIME_STAT_HOLD) ∧ lineState s u ≠ 2 then
    let s :=
      if flagF s pgDSTR DSTR.TIME_CFG_ALTEN ∧ u ≠ getF s pgDSTR DSTR.TIME_CFG_ALT then
        setF s pgDSTR DSTR.TIME_STAT_USING (getF s pgDSTR DSTR.TIME_CFG_ALT)
      else setF (setF s pgDSTR DSTR.TIME_STAT_HOLD 1) pgDCLK DCLK.TB_SLEW_EN 0
    raiseEv s pgDSTR 0x4E 0
  else s

/-- A write of `TIME_CFG` (R411, R426). -/
def timeCfgWrite (s : State) (v : Word) : State :=
  let s := setRegAt s pgDSTR DSTR.TIME_CFG_SRC.off (v &&& word 0xFF8003FF)
  let link := decide (bitsOf v.toNat 31 30 = 1)
  let s := setF s pgDCLK DCLK.TB_SLEW_XPORT (b2n link)
  if link then setF s pgDSTR DSTR.TIME_STAT_USING (bitsOf v.toNat 29 27) else s

/-! ### Up and down (R387 to R390, R402, R404) -/

/-- The width code and group of a set of good lanes, from width code `c` on: the widest, then the lowest (R387). -/
def widthOf (good : Nat) : Nat → Nat → Option (Nat × Nat)
  | 0, _ => none
  | fuel + 1, c =>
    if 3 < c then none
    else
      let w := 8 / 2 ^ c
      match (List.range (8 / w)).find? fun g => decide (bitsOf good (w * g + w - 1) (w * g) = 2 ^ w - 1) with
      | some g => some (c, g)
      | none => widthOf good fuel (c + 1)

/-- The line by which a packet to a device leaves. -/
def lineTo (s : State) (dev : Nat) : Option Nat :=
  match forwardGo s 5 dev ⟨1, 0, 0, []⟩ with
  | .inl (m, _) => some m
  | .inr _ => none

/-- The OUTBOUND Zilaek entries that a line serves. -/
def outEntries (s : State) (n : Nat) : List Nat :=
  (List.range 384).filterMap fun i =>
    let key := 2048 + i
    if entEn s key && entOutbound s key && lineTo s (getE s key 0x10 31 14) == some n then some key else none

/-- A line is UP: entries that it serves have to resend, and it is followed again if it is the time link. -/
def lineGoesUp (s : State) (n : Nat) : State :=
  let s := modStrand s fun y => { y with resend := y.resend ++ (outEntries s n).filter fun k => !(y.resend.contains k) }
  let s := if getF s pgDSTR DSTR.JOIN_STAT_STATE = 3 then setF s pgDSTR DSTR.JOIN_STAT_STATE 1 else s
  if n < 8 ∧ getF s pgDSTR DSTR.TIME_CFG_SRC = 1 ∧ getF s pgDSTR DSTR.TIME_CFG_LINK = n then
    setF (setF s pgDSTR DSTR.TIME_STAT_USING n) pgDSTR DSTR.TIME_STAT_HOLD 0
  else s

/-- The device waits for its image on ZK0 (R337). -/
def loadLink (s : State) (n : Nat) : Bool :=
  decide (n = 0) && decide (loadSource s = 5) && (decide (loadState s = 1) || decide (loadState s = 2))

/-- An outstanding request of a remote channel that line `n` carried. -/
def carriedBy (s : State) (n : Nat) (t : Txn) : Bool :=
  let far (ch : Nat) (sideA : Bool) : Bool :=
    isFar s ch sideA && lineTo s (getF s (chPage ch) (ZLNK.RDEV_DEV (ch % 32))) == some n
  match t.purpose with
  | .dmaRead ch _ first => far ch (!first)
  | .dmaWrite ch _ _ => far ch true
  | _ => false

/-- Every request that line `n` carried completes with 0x4D (R402). -/
def failCarried (s : State) (n : Nat) : State :=
  (s.txns.filter fun x => x.2.any (carriedBy s n)).foldl (fun s x =>
    match x.2 with
    | some t =>
      let s := { s with txns := put none s.txns x.1 none }
      (match t.purpose with
       | .dmaRead ch off first => readDone s ch off (!first) 0x4D []
       | .dmaWrite ch unit off => writeDone s ch unit off 0x4D t.n
       | _ => s)
    | none => s) s

/-- A line goes DOWN: frames are discarded, requests fail, a neighbour's load ends (R390, R402, R404). -/
def lineDown (s : State) (n : Nat) : State :=
  let s := setLine (setLineState s n 4) n Line.init
  let s := if n < 8 then raiseEv (incF s (pgZLNK n) ZLNK.DOWNS 1) (pgZLNK n) 0x4D 0 else raiseEv s pgDSTR 0x4D 0
  let s := failCarried s n
  let ch := 32 * (17 + n)
  if n < 8 ∧ isCfgTx s ch ∧ chState s ch = 2 then endDesc s ch 0x4D else s

/-- Training ends: `md` and `mw` are the far end's `MODE` and `MAXW`, `good` the lanes that are good at both ends. -/
def linkTrain (s : State) (n md mw good : Nat) : State :=
  let p := pgZLNK n
  let st := lineState s n
  if loadLink s n then
    (if bitOf good 0 ∧ st ≠ 5 then
       setF (setF (setLineState (setLine s n { Line.init with good := 1, upAt := s.age }) n 5) p ZLNK.STAT_WIDTH 3) p ZLNK.STAT_GROUP 0
     else s)
  else if getF s p ZLNK.CFG_MODE = 0 ∨ !(st == 1 || st == 3) then s
  else
    let ok := good &&& (255 - getF s p ZLNK.STAT_LANEBAD)
    match (if md = getF s p ZLNK.CFG_MODE then widthOf ok 4 (max mw (getF s p ZLNK.CFG_MAXW)) else none) with
    | none => if st = 3 then lineDown s n else setLineState s n 4
    | some (c, g) =>
      let s := setF (setF (setLineState s n 2) p ZLNK.STAT_WIDTH c) p ZLNK.STAT_GROUP g
      if st = 3 then resendAll (setLine s n { lineOf s n with good := good }) n
      else lineGoesUp (setLine s n { Line.init with good := good, upAt := s.age, hello := md == 1 }) n

/-- A link goes DOWN; on the link that brings an image the load ends (R337). -/
def linkDown (s : State) (n : Nat) : State :=
  if loadLink s n then (if lineState s n = 5 then loadFailed (lineDown s n) 0x7B noOfs noSect else s)
  else if lineUp s n || lineState s n == 3 then lineDown s n else s

/-- A lane of an UP link is faulty: the link goes on at the largest width without it (R388). -/
def laneFault (s : State) (n l : Nat) : State :=
  let p := pgZLNK n
  if lineState s n = 2 ∧ !(bitOf (getF s p ZLNK.STAT_LANEBAD) l) then
    let s := setF s p ZLNK.STAT_LANEBAD (setBits (getF s p ZLNK.STAT_LANEBAD) l l 1)
    let s := groupFault (noteLog (raiseEv (incF s p ZLNK.RETRAINS 1) p 0x2A 0) 0x2A p) p l
    match widthOf ((lineOf s n).good &&& (255 - getF s p ZLNK.STAT_LANEBAD)) 4 (getF s p ZLNK.STAT_WIDTH) with
    | some (c, g) => resendAll (setF (setF s p ZLNK.STAT_WIDTH c) p ZLNK.STAT_GROUP g) n
    | none => lineDown s n
  else s

/-- `CTRL.RETRAIN`, or a DOWN link's next try. -/
def retrain (s : State) (n : Nat) : State :=
  if lineState s n = 2 then setLineState (incF s (pgZLNK n) ZLNK.RETRAINS 1) n 3
  else if lineState s n = 4 then setLineState s n 1
  else s

def clrLane (s : State) (n : Nat) : State := retrain (setF s (pgZLNK n) ZLNK.STAT_LANEBAD 0) n

/-- The write-only and read-write bits of `ZLNK.CTRL` (R404, R424). -/
def zlnkCtrlWrite (s : State) (n : Nat) (v : Word) : State :=
  let s := setF s (pgZLNK n) ZLNK.CTRL_CFGTX (bitsOf v.toNat 2 2)
  if bitOf v.toNat 1 then clrLane s n else if bitOf v.toNat 0 then retrain s n else s

/-- An OUTBOUND entry resends from `ACKED` on the credit that its tokens hold (R402, log 54). -/
def outResend (s : State) (n e : Nat) : State :=
  let key := zilKey n e
  if s.strand.resend.contains key && entEn s key && entOutbound s key &&
      (lineTo s (getE s key 0x10 31 14)).any (lineUp s) then
    let s := modStrand s fun y => { y with resend := y.resend.filter fun k => k != key }
    pumpLineOut 4096 (modEnd s key fun x => { x with credits := x.credits + x.sent, sent := 0 }) key
  else s

/-- CONFIG bytes of a neighbour's load (R337, R404). -/
def configIn (s : State) (n : Nat) (ws : List (BitVec 64)) : State :=
  if loadLink s n then { s with loadBuf := s.loadBuf ++ wordBytes ((ws.drop 1).take 8) } else s

/-! ### A frame arrives -/

/-- What a checked frame does. -/
def frameIn (s : State) (n : Nat) (ws : List (BitVec 64)) : State :=
  match (linkHdr (ws.headD 0)).typ with
  | 1 => dataIn s n ws
  | 3 => resendAll s n
  | 4 => timeIn s n ws
  | 5 => if n = getF s pgDACW DACW.PAIR_CFG_LINK then heartBeat s else s
  | 6 => joinIn s n ws
  | 7 => configIn s n ws
  | _ => s

/-- A line takes frames of a type in its state (R337, R404, R409). -/
def lineTakes (s : State) (n typ : Nat) : Bool :=
  lineUp s n && (!(lineOf s n).only || typ == 2 || typ == 3 || typ == 6 || decide (8 ≤ typ)) &&
    (lineState s n != 5 || typ == 2 || typ == 3 || typ == 7)

/-- Checks 4 and 5, then the frame's meaning. -/
def checkedIn (s : State) (n : Nat) (ws : List (BitVec 64)) : State :=
  let c := formatCode ws
  if c ≠ 0 then dropFrame (incF s (linePage s n) ZLNK.FMT_ERR 1) n c ws else frameIn s n ws

/-- A frame whose blocks pass arrives on line `n`: its words from link header to trailer (R393 to R395). -/
def lineReceive (s : State) (n : Nat) (ws : List (BitVec 64)) : State :=
  let h := linkHdr (ws.headD 0)
  if h.typ = 0 ∨ !(trailerOk ws) ∨ !(lineTakes s n h.typ) then s
  else
    let s := lineAck s n h.ack h.cred
    if numbered h.typ then
      let x := lineOf s n
      let d := (h.seq + 1024 - x.rxSeq) % 1024
      if d = 0 then
        let c := if h.typ = 1 then h.cls else 3
        checkedIn (setLine s n { x with rxSeq := (x.rxSeq + 1) % 1024, nacked := false, owed := bump x.owed c 1 }) n ws
      else if d < 512 ∧ !x.nacked then sendFrame (setLine s n { x with nacked := true }) n (plainFrame 3 [])
      else s
    else checkedIn s n ws

/-- A frame named as one of type `typ`; a reserved type passes to the checks. -/
def receiveAs (typ : Nat) (s : State) (n : Nat) (ws : List (BitVec 64)) : State :=
  let t := (linkHdr (ws.headD 0)).typ
  if t = typ ∨ 8 ≤ t then lineReceive s n ws else s

/-- A JOIN frame of one JTYPE. -/
def receiveJoin (jt : Nat) (s : State) (n : Nat) (ws : List (BitVec 64)) : State :=
  let h := linkHdr (ws.headD 0)
  if h.typ = 6 ∧ bitsOf (wordAt ws (1 + h.nrh)) 63 60 = jt then lineReceive s n ws else s

/-! ### Paired mode (R293, R410) -/

/-- No heartbeat has come for 20 µs: the partner is lost, and this device answers for its ID. -/
def pairLost (s : State) : State :=
  if pairOn s ∧ !(flagF s pgDACW DACW.PAIR_STAT_LOST) ∧ s.strand.paired.heardAt + 2000 ≤ s.age then
    let id := getF s pgDACW DACW.PAIR_CFG_PARTNER
    let s := setF (setF s pgDACW DACW.PAIR_STAT_UP 0) pgDACW DACW.PAIR_STAT_LOST 1
    let s := raiseEv s pgDACW 0x3C 0
    let s := setF (setF s pgDSTR DSTR.ALIAS_ID id) pgDSTR DSTR.ALIAS_VALID 1
    flood s 64 (joinFrame 6 id (ownId s) 0 (ownSerial s) [])
  else s

/-! ### The commands -/

/-- LINK_TRAIN. -/
def execLinkTrain (n : Fin 6) (md mw : BitVec 2) (good : BitVec 8) (s : State) : Host.Outcome State Fault Refusal :=
  .next (linkTrain s n.val md.toNat mw.toNat good.toNat)

/-- LANE_FAULT. -/
def execLaneFault (n : Fin 6) (lane : Fin 8) (s : State) : Host.Outcome State Fault Refusal := .next (laneFault s n.val lane.val)

/-- LINK_DOWN. -/
def execLinkDown (n : Fin 6) (s : State) : Host.Outcome State Fault Refusal := .next (linkDown s n.val)

/-- LINK_RETRY: a DOWN link trains again. -/
def execLinkRetry (n : Fin 6) (s : State) : Host.Outcome State Fault Refusal :=
  .next (if lineState s n.val = 4 then setLineState s n.val 1 else s)

/-- IDLE: a fill word changes nothing (R392). -/
def execIdle (_ : Fin 6) (s : State) : Host.Outcome State Fault Refusal := .next s

/-- DATA. -/
def execData (n : Fin 6) (f : List (BitVec 64)) (s : State) : Host.Outcome State Fault Refusal := .next (receiveAs 1 s n.val f)

/-- CTRL: sent when no words are given, else received. -/
def execCtrl (n : Fin 6) (f : List (BitVec 64)) (s : State) : Host.Outcome State Fault Refusal :=
  .next (if f.isEmpty then sendFrame s n.val (plainFrame 2 []) else receiveAs 2 s n.val f)

/-- NACK. -/
def execNack (n : Fin 6) (f : List (BitVec 64)) (s : State) : Host.Outcome State Fault Refusal := .next (receiveAs 3 s n.val f)

/-- FRAME_RESEND_TIMEOUT. -/
def execFrameResendTimeout (n : Fin 6) (s : State) : Host.Outcome State Fault Refusal :=
  .next (if lineUp s n.val then resendAll s n.val else s)

/-- TIME: sent when no words are given, else received. -/
def execTime (n : Fin 6) (f : List (BitVec 64)) (s : State) : Host.Outcome State Fault Refusal :=
  .next (if f.isEmpty then timeOut s n.val else receiveAs 4 s n.val f)

/-- TIME_LOST. -/
def execTimeLost (s : State) : Host.Outcome State Fault Refusal := .next (timeLost s)

/-- HELLO: sent once after a member link came UP when no words are given, else received. -/
def execHello (n : Fin 6) (f : List (BitVec 64)) (s : State) : Host.Outcome State Fault Refusal :=
  .next (if f.isEmpty then
    (if (lineOf s n.val).hello && lineState s n.val == 2 then
       sendFrame (setLine s n.val { lineOf s n.val with hello := false }) n.val (joinFrame 1 (ownId s) (headId s) 0 (ownSerial s) [])
     else s)
  else receiveJoin 1 s n.val f)

/-- REQ: the device's own when no words are given, else received. -/
def execReq (n : Fin 6) (f : List (BitVec 64)) (s : State) : Host.Outcome State Fault Refusal :=
  .next (if f.isEmpty then ownReq s n.val else receiveJoin 2 s n.val f)

/-- GRANT. -/
def execGrant (n : Fin 6) (f : List (BitVec 64)) (s : State) : Host.Outcome State Fault Refusal := .next (receiveJoin 3 s n.val f)

/-- REFUSE. -/
def execRefuse (n : Fin 6) (f : List (BitVec 64)) (s : State) : Host.Outcome State Fault Refusal := .next (receiveJoin 4 s n.val f)

/-- ANNOUNCE: the device's own when no words are given, else received. -/
def execAnnounce (n : Fin 6) (f : List (BitVec 64)) (s : State) : Host.Outcome State Fault Refusal :=
  .next (if f.isEmpty then
    (if ownId s ≠ noId ∧ idMode s ≠ 3 ∧ (memberLines s).contains n.val then
       sendFrame s n.val (joinFrame 5 (ownId s) (headId s) 1 (ownSerial s) []) else s)
  else receiveJoin 5 s n.val f)

/-- MOVE. -/
def execMove (n : Fin 6) (f : List (BitVec 64)) (s : State) : Host.Outcome State Fault Refusal := .next (receiveJoin 6 s n.val f)

/-- CONFIG. -/
def execConfig (n : Fin 6) (f : List (BitVec 64)) (s : State) : Host.Outcome State Fault Refusal := .next (receiveAs 7 s n.val f)

/-- CFGTX. -/
def execCfgtx (n : Fin 6) (v : Bool) (s : State) : Host.Outcome State Fault Refusal :=
  .next (regCmd (pgZLNK n.val) ZLNK.CTRL_CFGTX.off (word (4 * b2n v)) hostSrc (fun s => zlnkCtrlWrite s n.val (word (4 * b2n v))) s)

/-- CLRLANE: the other bits of `CTRL` stay as they are. -/
def execClrlane (n : Fin 6) (s : State) : Host.Outcome State Fault Refusal :=
  let v := word (4 * getF s (pgZLNK n.val) ZLNK.CTRL_CFGTX + 2)
  .next (regCmd (pgZLNK n.val) ZLNK.CTRL_CFGTX.off v hostSrc (fun s => zlnkCtrlWrite s n.val v) s)

/-- RETRAIN. -/
def execRetrain (n : Fin 6) (s : State) : Host.Outcome State Fault Refusal :=
  let v := word (4 * getF s (pgZLNK n.val) ZLNK.CTRL_CFGTX + 1)
  .next (regCmd (pgZLNK n.val) ZLNK.CTRL_CFGTX.off v hostSrc (fun s => zlnkCtrlWrite s n.val v) s)

/-- OUTBOUND_RESEND. -/
def execOutboundResend (n : Fin 6) (e : Fin 64) (s : State) : Host.Outcome State Fault Refusal := .next (outResend s n.val e.val)

/-- A write of `DSTR.CTRL` (R398, R408, R426). -/
def dstrCtrlWrite (s : State) (v : Word) : State :=
  let s := if bitOf v.toNat 1 then flushRoutes s else s
  if bitOf v.toNat 0 ∧ getF s pgDSTR DSTR.JOIN_STAT_STATE = 3 then setF s pgDSTR DSTR.JOIN_STAT_STATE 1 else s

/-- RTFLUSH. -/
def execRtflush (s : State) : Host.Outcome State Fault Refusal := .next (regCmd pgDSTR 8 2 hostSrc (fun s => dstrCtrlWrite s 2) s)

/-- REJOIN. -/
def execRejoin (s : State) : Host.Outcome State Fault Refusal := .next (regCmd pgDSTR 8 1 hostSrc (fun s => dstrCtrlWrite s 1) s)

/-- A write of `FREE_CMD`: a strand number at the root, a member number at the head (R407). -/
def freeCmdWrite (s : State) (v : Word) : State :=
  let num := bitsOf v.toNat 11 0
  match bitsOf v.toNat 31 30 with
  | 1 => if idMode s = 1 then modStrand s fun y => { y with strands := put 0 y.strands num 0 } else s
  | 2 =>
    if isHead s ∧ 1 ≤ num ∧ num < 64 then
      setRegAt (modStrand s fun y => { y with members := put 0 y.members num 0 }) pgDSTR (DSTR.MEMBER_VALID num).off 0
    else s
  | _ => s

/-- FREE_STRAND. -/
def execFreeStrand (num : BitVec 12) (s : State) : Host.Outcome State Fault Refusal :=
  let v := word (2 ^ 30 + num.toNat)
  .next (regCmd pgDSTR DSTR.FREE_CMD_CMD.off v hostSrc (fun s => freeCmdWrite s v) s)

/-- FREE_MEMBER. -/
def execFreeMember (num : BitVec 12) (s : State) : Host.Outcome State Fault Refusal :=
  let v := word (2 ^ 31 + num.toNat)
  .next (regCmd pgDSTR DSTR.FREE_CMD_CMD.off v hostSrc (fun s => freeCmdWrite s v) s)

/-- JOIN_REQUEST_EXPIRY: the n-th request kept is forgotten 10 ms after it came. -/
def execJoinRequestExpiry (n : Fin 16) (s : State) : Host.Outcome State Fault Refusal :=
  .next (match s.strand.reqs[n.val]? with
    | some q => if q.at_ + 1000000 ≤ s.age then modStrand s fun y => { y with reqs := y.reqs.eraseIdx n.val } else s
    | none => s)

end Sys2Proof.Machine
end

