-- ==== Sys2Proof/Machine/Ether.lean ====
section
/-! DEFINITION. Ethernet ports and bridge links (R415 to R423). -/

namespace Sys2Proof.Machine
open Sys2Proof

/-- `ETHP.STAT.STATE`: 0 IDLE, 1 DOWN, 2 UP, 3 WITHDRAWN. -/
def portState (s : State) (n : Nat) : Nat := getF s (pgETHP n) ETHP.STAT

/-! ### Bridge links (R417, R422) -/

def brEn (s : State) (b : Nat) : Bool := flagF s pgDSTR (DSTR.BR_CTL_EN b)
def brPort (s : State) (b : Nat) : Nat := getF s pgDSTR (DSTR.BR_CTL_PORT b)

/-- The 64-bit words of a payload. -/
def wordsOf : Nat → List Byte → List (BitVec 64)
  | 0, _ => []
  | n + 1, bs => if bs.isEmpty then [] else w64 (ofBytes (bs.take 8)) :: wordsOf n (bs.drop 8)

/-- The Zilaek frames of a datagram by their `LEN` values; `none` when these do not sum to the payload, or a frame
fails check 4 or 5 of R395. -/
def splitFrames : Nat → List (BitVec 64) → Option (List (List (BitVec 64)))
  | 0, ws => if ws.isEmpty then some [] else none
  | fuel + 1, ws =>
    match ws with
    | [] => some []
    | w :: _ =>
      let h := linkHdr w
      let n := if h.typ = 0 then 1 else h.len
      let f := ws.take n
      if n = 0 ∨ ws.length < n ∨ (h.typ ≠ 0 ∧ formatCode f ≠ 0) then none
      else (splitFrames fuel (ws.drop n)).map fun fs => f :: fs

/-- A datagram's payload for bridge link `b`: a valid one keeps or brings the link UP (log 55). -/
def bridgeDatagram (s : State) (b : Nat) (pl : List Byte) : State :=
  let p := pgETHP (brPort s b)
  if !(brEn s b) then s
  else
    match (if pl.length % 8 = 0 then splitFrames 1200 (wordsOf 1200 pl) else none) with
    | none => raiseEv (incF s p ETHP.RX_LEN 1) p 0x34 0
    | some fs =>
      let n := 8 + b
      let s := if lineState s n = 2 then s else lineGoesUp (setLineState (setLine s n { Line.init with upAt := s.age }) n 2) n
      fs.foldl (fun s f => lineReceive s n f) s

def bridgeDown (s : State) (b : Nat) : State := if lineState s (8 + b) = 2 then lineDown s (8 + b) else s

/-! ### Receiving (R416 to R419) -/

/-- A frame stream's tokens (R419). -/
def packBytes : Nat → List Byte → List Word
  | 0, _ => []
  | n + 1, bs => if bs.isEmpty then [] else word (ofBytes (bs.take 4)) :: packBytes n (bs.drop 4)

def frameToks (reason ts : Nat) (b : List Byte) : List Tok :=
  let ws := packBytes 2400 b
  let head : List Tok :=
    [⟨word (reason * 2 ^ 28 + b.length % 65536), false, true, false, false⟩, Tok.plain (word ts), Tok.plain (word (ts / 2 ^ 32))]
  head ++ ws.zipIdx.map fun x => ⟨x.1, decide (x.2 + 1 = ws.length), false, false, false⟩

/-- An INBOUND frame entry takes a whole frame, or discards it (R13, R416). -/
def storeFrame (s : State) (n e reason : Nat) (b : List Byte) : State :=
  let key := ethKey n e
  let p := pgETHP n
  let f := timeAt s p 0
  let ts := (f.1 + 2 ^ 64 - getF s p ETHP.TS_ADJ_RXLAT) % 2 ^ 64
  let toks := frameToks reason ts b
  if entEn s key && !(entOutbound s key) && decide (toks.length ≤ entRoom s key) then
    pumpIn 4096 (toks.foldl (fun s t => entAccept s key t) f.2) key
  else raiseOpt (incF s p ETHP.RX_OVR 1) p 0 0x6D 0

/-- The port's exception stream; a frame for which none is enabled is dropped and counted (R416). -/
def exceptionFrame (s : State) (n reason : Nat) (b : List Byte) : State :=
  match (List.range 32).find? fun e => entEn s (ethKey n e) && !(entOutbound s (ethKey n e)) && flagF s (pgETHP n) (ETHP.EP_CTL_EXC e) with
  | some e => storeFrame (if reason = 1 ∨ reason = 2 then incF s (pgETHP n) ETHP.RX_DEPTH 1 else s) n e reason b
  | none => incF s (pgETHP n) ETHP.RX_DEPTH 1

/-- A rule matches (R418). -/
def ruleMatches (s : State) (n i : Nat) (b : List Byte) (w : Walk) : Bool :=
  let p := pgETHP n
  let vid := getF s p (ETHP.RULE0_VID i)
  let et := getF s p (ETHP.RULE1_ETYPE i)
  let ud := getF s p (ETHP.RULE1_UDPDST i)
  flagF s p (ETHP.RULE0_EN i) &&
    (decide (vid = 0xFFF) || (match w.vid with | some v => v == vid | none => vid == 0)) &&
    (et == 0 || et == w.etype) &&
    (ud == 0 || (match w.udp with | some (pos, _) => beAt b (pos + 2) 2 == ud | none => false))

/-- The address filter (R415). -/
def addressOk (s : State) (n : Nat) (b : List Byte) : Bool :=
  flagF s (pgETHP n) ETHP.CFG_PROMISC || decide ((b.headD 0).toNat % 2 = 1) || b.take 6 == portMac s n

/-- What the rules do with a frame (R418). -/
def classify (s : State) (n : Nat) (b : List Byte) (w : Walk) : State :=
  let p := pgETHP n
  match (List.range 32).find? fun i => ruleMatches s n i b w with
  | none => exceptionFrame s n 3 b
  | some i =>
    let t := getF s p (ETHP.RULE0_TARGET i)
    match getF s p (ETHP.RULE0_ACT i) with
    | 1 => storeFrame s n t 0 b
    | 2 => bridgeDatagram s (t % 16) (udpPayload b w)
    | _ => s

/-- A received frame with its FCS. -/
def ethReceive (s : State) (n : Nat) (f : List Byte) : State :=
  let p := pgETHP n
  let b := f.take (f.length - 4)
  if portState s n ≠ 2 then s
  else if f.length < 5 ∨ f.drop (f.length - 4) ≠ fcsOf b then incF s p ETHP.RX_FCS 1
  else if !(addressOk s n b) ∨ f.length < 64 then s
  else if getF s p ETHP.CFG_MAXLEN < f.length then incF s p ETHP.RX_BIG 1
  else if beAt b 12 2 = 0x8808 then incF s p ETHP.RX_DROP 1
  else
    let s := incF s p ETHP.RX_FRAMES 1
    let w := walk b
    match w.why with
    | .tags => exceptionFrame s n 2 b
    | .depth => exceptionFrame s n 1 b
    | _ => if lengthsBad b w then raiseEv (incF s p ETHP.RX_LEN 1) p 0x34 0 else classify s n b w

/-! ### The gate schedule (R421) -/

def gateOf (s : State) (n : Nat) : Gate := look Gate.init s.gates n

def setGate (s : State) (n : Nat) (g : Gate) : State := { s with gates := put Gate.init s.gates n g }

/-- Entries 0 to `LAST` as the registers hold them. -/
def gclEntries (s : State) (n : Nat) : List (Nat × Nat) :=
  (List.range (getF s (pgETHP n) ETHP.GCL_CTL_LAST + 1)).map fun e => (getF s (pgETHP n) (ETHP.GCL0 e), getF s (pgETHP n) (ETHP.GCL1 e))

def gclBase (s : State) (n : Nat) : Nat := getF s (pgETHP n) ETHP.GCL_BASE_LO + getF s (pgETHP n) ETHP.GCL_BASE_HI * 2 ^ 32

/-- The first cycle start at or after time `t`. -/
def cycleFrom (s : State) (n t : Nat) : Nat :=
  let b := gclBase s n
  let c := max 1 (getF s (pgETHP n) ETHP.GCL_CYCLE)
  if t ≤ b then b else b + (t - b + c - 1) / c * c

/-- A cycle starts, with a swap that waited for it. -/
def gateStart (s : State) (n : Nat) : State :=
  let g := gateOf s n
  let at_ := if g.going then g.next else cycleFrom s n 0
  let now := s.tb.toNat
  if flagF s (pgETHP n) ETHP.GCL_CTL_EN ∧ at_ ≤ now then
    let pend := flagF s (pgETHP n) ETHP.GCL_CTL_PEND
    let es := if pend then g.swap else if g.active.isEmpty then gclEntries s n else g.active
    let start := if cycleFrom s n now = now then now else cycleFrom s n now - max 1 (getF s (pgETHP n) ETHP.GCL_CYCLE)
    let s := setGate s n ⟨es, [], 0, start + (es.headD (0, 0)).2, cycleFrom s n (now + 1), true⟩
    setF s (pgETHP n) ETHP.GCL_CTL_PEND 0
  else s

/-- An entry's interval ends and the next acts; the last holds until the cycle ends. -/
def gateNext (s : State) (n : Nat) : State :=
  let g := gateOf s n
  if g.going ∧ g.idx + 1 < g.active.length ∧ g.ends ≤ s.tb.toNat ∧ g.ends < g.next then
    setGate s n { g with idx := g.idx + 1, ends := g.ends + (g.active.getD (g.idx + 1) (0, 0)).2 }
  else s

/-- When gate `q` closes, seen from entry `i` that ends at `e` in a cycle that ends at `c`: the end of the last of the
entries in a row, through the next cycle, that hold it open. -/
def closesAt (es : List (Nat × Nat)) (q len : Nat) : Nat → Nat → Nat → Nat → Nat
  | 0, _, e, _ => e
  | fuel + 1, i, e, c =>
    if !(bitOf (es.getD i (0, 0)).1 q) then 0
    else
      let last := decide (es.length ≤ i + 1) || decide (c ≤ e)
      let j := if last then 0 else i + 1
      let start := if last then c else e
      if bitOf (es.getD j (0, 0)).1 q then
        closesAt es q len fuel j (start + (es.getD j (0, 0)).2) (if last then c + len else c)
      else start

/-- Preamble, FCS and inter-frame gap included, in ns (R415, R421). -/
def sendTime (s : State) (n bytes : Nat) : Nat :=
  let k := bytes + 24
  if flagF s (pgETHP n) ETHP.CFG_SPEED then (k * 32 + 99) / 100 else (k * 8 + 9) / 10

/-- A frame of queue `q` may start. -/
def mayStart (s : State) (n q bytes : Nat) : Bool :=
  let g := gateOf s n
  !(flagF s (pgETHP n) ETHP.GCL_CTL_EN) || !g.going ||
    decide (s.tb.toNat + sendTime s n bytes ≤ closesAt g.active q (max 1 (getF s (pgETHP n) ETHP.GCL_CYCLE)) 130 g.idx g.ends g.next)

/-- A write of `SWAP`: the entries written since take effect at the next cycle start. -/
def gclSwap (s : State) (n : Nat) : State :=
  let es := gclEntries s n
  if es.any fun e => decide (e.2 < 100) then errCount s (pgETHP n)
  else setF (setGate s n { gateOf s n with swap := es }) (pgETHP n) ETHP.GCL_CTL_PEND 1

/-- A write of `GCL_CTL`. -/
def gclCtlWrite (s : State) (n : Nat) (v : Word) : State :=
  let p := pgETHP n
  let s := setF (setF s p ETHP.GCL_CTL_EN (bitsOf v.toNat 31 31)) p ETHP.GCL_CTL_LAST (bitsOf v.toNat 5 0)
  if bitOf v.toNat 30 then gclSwap s n else s

/-! ### Transmitting (R419 to R421) -/

/-- The IEEE 1588 format: 48-bit seconds, 32-bit nanoseconds. -/
def ptpTime (t : Nat) : List Byte := beBytes 6 (t / 10 ^ 9) ++ beBytes 4 (t % 10 ^ 9)

/-- The frame that leaves, with its one-step timestamp and its FCS. -/
def sentFrame (f : EthOut) (time : Nat) : List Byte :=
  let b :=
    if f.tsMode = 2 then fixUdp ((f.bytes.take f.offset ++ ptpTime time ++ f.bytes.drop (f.offset + 10)).take f.bytes.length)
    else f.bytes
  b ++ fcsOf b

/-- Two-step: the egress time enters the FIFO of 16. -/
def pushTs (s : State) (n : Nat) (f : EthOut) (time : Nat) : State :=
  if f.tsMode ≠ 1 then s
  else
    let l := look [] s.tsFifo n
    if l.length < 16 then { s with tsFifo := put [] s.tsFifo n (l ++ [⟨f.stream, f.seq, time⟩]) }
    else incF s (pgETHP n) ETHP.TS_OVR 1

/-- Sends the frame of the highest queue that may start. -/
def ethTransmit (s : State) (n : Nat) : State :=
  let ready := fun q => match ethQueue s n q with
    | f :: _ => mayStart s n q f.bytes.length
    | [] => false
  if portState s n ≠ 2 then s
  else
    match [7, 6, 5, 4, 3, 2, 1, 0].find? ready with
    | none => s
    | some q =>
      match ethQueue s n q with
      | [] => s
      | f :: rest =>
        let x := timeAt { s with ethQ := put [] s.ethQ (8 * n + q) rest } (pgETHP n) 0
        let time := (x.1 + getF s (pgETHP n) ETHP.TS_ADJ_TXLAT) % 2 ^ 64
        let s := pushTs x.2 n f time
        let s := incF { s with ethSent := put [] s.ethSent n (sentFrame f time) } (pgETHP n) ETHP.TX_FRAMES 1
        let s := if f.entry < 32 then setF s (pgETHP n) (ETHP.EP_LASTEMIT f.entry) (f.seq + (f.bytes.length + 3) / 4) else s
        (List.range 32).foldl (fun s e =>
          if entEn s (ethKey n e) && entOutbound s (ethKey n e) then pumpEnt s (ethKey n e) else s) s

/-- A read of `TS_ID`: removes the oldest entry and latches its other fields. -/
def tsPop (s : State) (n : Nat) : Word × State :=
  match look [] s.tsFifo n with
  | [] => (0, s)
  | t :: rest =>
    let p := pgETHP n
    let s := { s with tsFifo := put [] s.tsFifo n rest }
    let s := setF (setF (setF s p ETHP.TS_SEQ t.seq) p ETHP.TS_LO (t.time % 2 ^ 32)) p ETHP.TS_HI (t.time / 2 ^ 32)
    (word (2 ^ 31 + t.stream), setF s p ETHP.TS_ID_STREAM t.stream)

/-! ### Port states (R423) -/

def portDown (s : State) (n : Nat) : State :=
  if portState s n = 2 then raiseEv (setF s (pgETHP n) ETHP.STAT 1) (pgETHP n) 0x4D 0 else s

/-- Block lock after training, or after DOWN. -/
def portUp (s : State) (n : Nat) : State :=
  if s.outRel ∧ (portState s n = 0 ∨ portState s n = 1) then setF s (pgETHP n) ETHP.STAT 2 else s

/-- The active assayer withdraws a faulty port (R299, R423). The recovery log has no number for that action: it is logged as a
NOTE (log 90). -/
def portFault (s : State) (n : Nat) : State :=
  let s := if portState s n = 3 then s else raiseEv s (pgETHP n) 0x2B 0
  if portState s n = 3 ∨ (activeAssayer s).isNone then s
  else
    let s := groupFault (noteLog s 0x2B (pgETHP n)) (pgETHP n) 0
    let s := setF s (pgETHP n) ETHP.STAT 3
    let s := (List.range 32).foldl (fun s e => setE s (ethKey n e) 0 31 31 0) s
    (List.range 16).foldl (fun s b => if brEn s b ∧ brPort s b = n then bridgeDown s b else s) s

/-! ### The commands -/

/-- ETH_RECEIVE: a frame with its FCS. -/
def execEthReceive (n : Fin 8) (f : List Byte) (s : State) : Host.Outcome State Fault Refusal := .next (ethReceive s n.val f)

/-- ETH_TRANSMIT. -/
def execEthTransmit (n : Fin 8) (s : State) : Host.Outcome State Fault Refusal := .next (ethTransmit s n.val)

/-- GATE_CYCLE_START. -/
def execGateCycleStart (n : Fin 8) (s : State) : Host.Outcome State Fault Refusal := .next (gateStart s n.val)

/-- GATE_INTERVAL_END. -/
def execGateIntervalEnd (n : Fin 8) (s : State) : Host.Outcome State Fault Refusal := .next (gateNext s n.val)

/-- SWAP: the other fields of `GCL_CTL` stay as they are. -/
def execSwap (n : Fin 8) (s : State) : Host.Outcome State Fault Refusal :=
  let v := regAt s (pgETHP n.val) ETHP.GCL_CTL_EN.off ||| word (2 ^ 30)
  .next (regCmd (pgETHP n.val) ETHP.GCL_CTL_EN.off v hostSrc (fun s => gclSwap s n.val) s)

/-- TS_ID. -/
def execTsId (n : Fin 8) (s : State) : Host.Outcome State Fault Refusal :=
  let x := tsPop s n.val
  .next (setRead x.2 (toBytes 4 x.1.toNat))

/-- PORT_FAULT. -/
def execPortFault (n : Fin 8) (s : State) : Host.Outcome State Fault Refusal := .next (portFault s n.val)

/-- PORT_DOWN. -/
def execPortDown (n : Fin 8) (s : State) : Host.Outcome State Fault Refusal := .next (portDown s n.val)

/-- PORT_UP. -/
def execPortUp (n : Fin 8) (s : State) : Host.Outcome State Fault Refusal := .next (portUp s n.val)

/-- BRIDGE_DATAGRAM: the UDP payload of a datagram for bridge link `b`. -/
def execBridgeDatagram (b : Fin 16) (f : List Byte) (s : State) : Host.Outcome State Fault Refusal :=
  .next (bridgeDatagram s b.val f)

/-- BRIDGE_RESEND_TIMEOUT. -/
def execBridgeResendTimeout (b : Fin 16) (s : State) : Host.Outcome State Fault Refusal :=
  .next (if brEn s b.val then resendAll s (8 + b.val) else s)

/-- BRIDGE_IDLE_CTRL: an idle bridge sends CTRL whether it is UP or not (log 55). -/
def execBridgeIdleCtrl (b : Fin 16) (s : State) : Host.Outcome State Fault Refusal :=
  .next (if brEn s b.val && s.outRel then putFrame s (8 + b.val) 0 (plainFrame 2 []) else s)

/-- BRIDGE_DOWN. -/
def execBridgeDown (b : Fin 16) (s : State) : Host.Outcome State Fault Refusal := .next (bridgeDown s b.val)

end Sys2Proof.Machine
end

