-- ==== Sys2Proof/Machine/Host.lean ====
section
/-! DEFINITION. The PCIe endpoint: link, personalities, resets, BAR accesses, MSI-X vectors, host rings, and the module
memory's fill and scrub (R428 to R451). -/

namespace Sys2Proof.Machine
open Sys2Proof

def modHost (s : State) (f : HostPort → HostPort) : State := { s with host := f s.host }

def hostUp (s : State) : Bool := getF s pgHPCI HPCI.LINK_STATE == 2

/-- The FULL personality is presented on a link that is up (R429). -/
def hostFull (s : State) : Bool := hostUp s && flagF s pgHPCI HPCI.LINK_PERS

/-! ### Refusals and completions (R428, R435) -/

/-- The detail of a record that an address's code carries (R501). -/
def addrDetail (code a : Nat) : Nat :=
  if (0x10 ≤ code ∧ code ≤ 0x19) ∨ (0x21 ≤ code ∧ code ≤ 0x23) then a % 2 ^ 32 else 0

/-- A refused or faulted host access (R435). -/
def barFault (s : State) (bar2 : Bool) (a code : Nat) : State :=
  let s := setF (setF s pgHPCI HPCI.LAST_ERR_CODE code) pgHPCI HPCI.LAST_ERR_BAR (b2n bar2)
  let s := setF (setF s pgHPCI HPCI.ERR_ADDR_LO a) pgHPCI HPCI.ERR_ADDR_HI (a / 2 ^ 32)
  refuseAt s pgHPCI code (addrDetail code a)

def complete (s : State) (c : HostCpl) : State := modHost s fun h => { h with cpl := some c }

/-- A request that the endpoint does not support: Unsupported Request, reported by AER (bit 20 of its status). -/
def unsupported (s : State) (a : Nat) : State :=
  modHost (complete s ⟨a, true, false, []⟩) fun h => { h with aerUncorr := h.aerUncorr ||| 2 ^ 20 }

/-! ### Issue in order (R434) -/

/-- The destination interfaces of the host writes that await their WACK. -/
def barWritesOut (s : State) : List (Option (Nat × Nat)) :=
  s.txns.filterMap fun x =>
    match x.2 with
    | some t => if t.purpose = .barWrite then some (destOf (placeOf t.addr)) else none
    | none => none

/-- The code with which a host access is refused before it is sent; alias 0b11 whatever the address (R433). -/
def barCode (s : State) (q : BarReq) : Nat :=
  if aliasOf q.addr = 3 then 0x11
  else firstCode (interfaceCode q.addr) (if routeRefused s hostSrc q.addr then 0x33 else 0)

/-- Issues one access, or `none` while it has to wait. -/
def barIssue (s : State) (q : BarReq) : Option State :=
  let c := barCode s q
  if c ≠ 0 then
    some (let s := barFault s q.bar2 q.addr c
          if q.write then s else complete s ⟨q.addr, false, false, List.replicate q.nbytes 0⟩)
  else if q.write then
    (if (barWritesOut s).all fun d => d == destOf (placeOf q.addr) then
       sendReq s hostSrc false true q.addr q.nbytes q.be q.data q.poison .barWrite
     else none)
  else if (barWritesOut s).isEmpty then sendReq s hostSrc false false q.addr q.nbytes q.be [] false (.barRead q.addr)
  else none

/-- Issues waiting accesses as far as their order allows. -/
def barDrain : Nat → State → State
  | 0, s => s
  | fuel + 1, s =>
    match s.host.queue with
    | [] => s
    | q :: rest =>
      match barIssue s q with
      | some s => barDrain fuel (modHost s fun h => { h with queue := rest })
      | none => s

def barPump (s : State) : State := barDrain s.host.queue.length s

/-- An address of a BAR: BAR2 reaches memory, BAR0 the pages. -/
def viaBar2 (a : Nat) : Bool := decide (a % 2 ^ 44 < 0x1200000000)

/-- The answer to a host read (R435). -/
def barReadDone (s : State) (a n code : Nat) (d : List Byte) : State :=
  let ep := decide (code = 0x22 ∨ code = 0x23 ∨ code = 0x25)
  let s := if code ≠ 0 then barFault s (viaBar2 a) a code else s
  barPump (complete s ⟨a, false, ep, if code = 0 ∨ ep then d else List.replicate n 0⟩)

/-- The answer to a host write. -/
def barWriteDone (s : State) (a code : Nat) : State :=
  barPump (if code ≠ 0 then barFault s (viaBar2 a) a code else s)

/-! ### BAR windows (R429, R432, R433) -/

/-- The device address of an offset of BAR0 (`false`) or BAR2. -/
def barAddr (bar2 : Bool) (o : Nat) : Nat :=
  if bar2 then
    (if bitOf o 35 then 0x1000000000 + bitsOf o 32 0 + bitsOf o 34 33 * 2 ^ 44 else bitsOf o 34 0)
  else 0x1200000000 + o % 2 ^ 24

/-- Offsets of BAR0 that respond in the CONFIG personality (R429, R442). -/
def configReach (o : Nat) : Bool :=
  let p := o % 2 ^ 24 / 4096
  p == pgDCFG || p == pgDCAL || (p == pgHPCI && decide (o % 4096 < 0x80))

/-- A 32-bit word of BAR4: the MSI-X table and the pending bits. -/
def bar4Word (s : State) (o : Nat) : Word :=
  let i := o / 4
  if i < 2048 then
    (if i % 4 = 3 then word (1 - look 0 s.host.unmasked (i / 4)) else look 0 s.host.table i)
  else if i < 2064 then
    word ((List.range 32).foldl (fun n b => n + look 0 s.vecPend (32 * (i - 2048) + b) * 2 ^ b) 0)
  else 0

/-- A write of enabled bytes of one word of BAR4: the table alone takes it. -/
def bar4Write (s : State) (o : Nat) (d : Word) (be : Nat) : State :=
  let i := o / 4
  if 2048 ≤ i ∨ be = 0 then s
  else
    let w := mergeWord (bar4Word s o) d be 0
    modHost s fun h =>
      if i % 4 = 3 then { h with unmasked := put 0 h.unmasked (i / 4) (1 - w.toNat % 2) }
      else { h with table := put 0 h.table i w }

def pushBar (s : State) (q : BarReq) : State := barPump (modHost s fun h => { h with queue := h.queue ++ [q] })

/-- A host write within one 64-byte block: byte enables and data by block offset. -/
def barWrite (s : State) (bar o be : Nat) (d : List Byte) (poison : Bool) : State :=
  if !hostUp s then s
  else if bar = 0 then
    (if flagF s pgHPCI HPCI.LINK_PERS || configReach o then
       pushBar s ⟨true, false, barAddr false o, 0, be, d, poison⟩ else s)
  else if !hostFull s then unsupported s o
  else if bar = 1 then pushBar s ⟨true, true, barAddr true o, 0, be, d, poison⟩
  else (List.range 16).foldl (fun s i =>
    bar4Write s (o % 0x4000 / 64 * 64 + 4 * i) (blockWord d (4 * i)) ((be >>> (4 * i)) % 16)) s

/-- A host read of `n` bytes; a command reads within one 64-byte block. -/
def barRead (s : State) (bar o n : Nat) : State :=
  let n := min n (64 - o % 64)
  if !hostUp s then s
  else if bar = 0 then
    (if flagF s pgHPCI HPCI.LINK_PERS || configReach o then
       pushBar s ⟨false, false, barAddr false o, n, 0, [], false⟩
     else complete s ⟨barAddr false o, false, false, List.replicate n 0⟩)
  else if !hostFull s then unsupported s o
  else if bar = 1 then pushBar s ⟨false, true, barAddr true o, n, 0, [], false⟩
  else
    let bytes := ((List.range 16).map fun i => toBytes 4 (bar4Word s (o % 0x4000 / 64 * 64 + 4 * i)).toNat).flatten
    complete s ⟨o, false, false, spanOf bytes (o % 64) n⟩

/-! ### Link and resets (R429 to R431) -/

/-- Enabled host ring entries wait until the host rings them (R430). -/
def stallRings (s : State) : State :=
  (List.range 64).foldl (fun s k =>
    if entEn s (hostKey k) then modEnd s (hostKey k) fun e => { e with stall := true } else s) s

/-- A function reset (R430). -/
def functionReset (s : State) : State :=
  let s := (List.range 32).foldl (fun s n => resetCh s (512 + n) false) s
  let s := (List.range 33).foldl (fun s i => orphanLocks s (0x200 + i)) s
  stallRings (modHost s fun h =>
    { h with queue := h.queue.filter fun q => !q.write, table := [], unmasked := [] })

/-- The link goes down, for `t` ticks at least. -/
def pcieDown (s : State) (t : Nat) : State :=
  let s := if hostUp s then raiseEv (incF s pgHPCI HPCI.DOWNS 1) pgHPCI 0x4D 0 else s
  let s := setF (setF (setF s pgHPCI HPCI.LINK_STATE 0) pgHPCI HPCI.LINK_WIDTH 0) pgHPCI HPCI.LINK_SPEED 0
  functionReset (modHost s fun h => { h with dark := s.age + t, hold := if t = 0 then h.hold else s.age + t })

/-- The widest of 1, 2, 4 and 8 lanes, at most 2^`w`, that leaves out the faulty lanes. -/
def pcieWidth (bad : Nat) : Nat → Option Nat
  | 0 => if bitOf bad 0 then none else some 1
  | w + 1 => if bad % 2 ^ (2 ^ (w + 1)) = 0 then some (2 ^ (w + 1)) else pcieWidth bad w

/-- The endpoint trains with the personality that holds (R429). -/
def pcieTrain (s : State) (w sp : Nat) : State :=
  if getF s pgHPCI HPCI.LINK_STATE = 0 ∧ s.host.perst = false ∧ s.host.dark ≤ s.age ∧
      (loadState s = 5 ∨ s.host.hold ≤ s.age) then
    match pcieWidth (getF s pgHPCI HPCI.LINK_LANEBAD) w with
    | some n =>
      let s := setF (setF s pgHPCI HPCI.LINK_WIDTH n) pgHPCI HPCI.LINK_SPEED (sp + 1)
      setF (setF s pgHPCI HPCI.LINK_STATE 2) pgHPCI HPCI.LINK_PERS (b2n (loadState s == 5))
    | none => s
  else s

/-- The state has changed the personality: 2 ms down (R429). -/
def personality (s : State) : State :=
  if hostUp s ∧ getF s pgHPCI HPCI.LINK_PERS ≠ b2n (loadState s == 5) then pcieDown s 200000 else s

/-- PCIE_PERST_n falls or rises (R430). -/
def perstPin (s : State) (low : Bool) : State :=
  let s := modHost s fun h => { h with perst := low }
  if low then pcieDown s 0 else modHost s fun h => { h with hold := 0 }

/-- A lane shows receiver errors; more than 16 make it faulty (R431). -/
def pcieLane (s : State) (lane errs : Nat) : State :=
  let s := incF s pgHPCI HPCI.RX_ERR errs
  if hostUp s ∧ 16 < errs ∧ lane < getF s pgHPCI HPCI.LINK_WIDTH then
    let s := setF s pgHPCI ⟨HPCI.LINK_LANEBAD.off, lane, lane⟩ 1
    let s := raiseEv (modHost s fun h => { h with aerCorr := h.aerCorr ||| 1 }) pgHPCI 0x2A 0
    match pcieWidth (getF s pgHPCI HPCI.LINK_LANEBAD) 3 with
    | some n => setF s pgHPCI HPCI.LINK_WIDTH (min n (getF s pgHPCI HPCI.LINK_WIDTH))
    | none => pcieDown s 0
  else s

/-! ### Vectors (R436, R437) -/

/-- A pending vector sends its message: a write of its table data at its table address. -/
def msixSend (s : State) (v : Nat) : State :=
  if hostFull s ∧ look 0 s.vecPend v = 1 ∧ look 0 s.host.unmasked v = 1 ∧ look 0 s.host.imod v ≤ s.age then
    let a := (look 0 s.host.table (4 * v)).toNat / 4 * 4 + (look 0 s.host.table (4 * v + 1)).toNat * 2 ^ 32
    let s := setHostBytes s a (toBytes 4 (look 0 s.host.table (4 * v + 2)).toNat)
    modHost { s with vecPend := put 0 s.vecPend v 0 } fun h =>
      { h with imod := put 0 h.imod v (s.age + 100 * getF s pgHPCI HPCI.IMOD) }
  else s

/-- A write of `HPCI.SWVEC` (R436, R442). -/
def swvecWrite (s : State) (v : Word) : State :=
  let n := v.toNat % 512
  if 399 < n then errCount s pgHPCI else raiseVector s (112 + n)

/-! ### Host ring indices (R440, R441) -/

/-- A write of `HIDX` of ring entry `k`. -/
def hidxWrite (s : State) (k : Nat) (v : Word) : State :=
  let key := hostKey k
  let new := v.toNat % 65536
  let old := getE s key 0x18 15 0
  let dev := getE s key 0x14 15 0
  if entOutbound s key then
    let n := (new + 65536 - old) % 65536
    if n ≤ (dev + 65536 - old) % 65536 then
      let s := modEnd (setE s key 0x18 15 0 new) key fun e => { e with stall := false }
      if entEn s key then entReturn (modEnd s key fun e => { e with gathered := e.gathered + n }) key else s
    else errCount s pgHPCI
  else if (new + 65536 - dev) % 65536 ≤ entSize s key then
    whenReleased (fun s => hostPull s key) (modEnd (setE s key 0x18 15 0 new) key fun e => { e with stall := false })
  else errCount s pgHPCI

def hidxCmd (k : Nat) (out : Bool) (v : Word) (s : State) : State :=
  if entOutbound s (hostKey k) = out then
    regCmd pgHPCI (0x818 + 0x20 * k) v hostSrc (fun s => hidxWrite s k v) s
  else s

/-! ### Module memory (R448, R449) -/

/-- The background fill has written every block: what nothing has written reads as 0 before and after. -/
def fillMemory (s : State) : State := if loadState s = 5 then setF s pgMEMC MEMC.STAT_INIT_DONE 1 else s

/-- The patrol scrub reads its next 64-byte block; single-bit errors are scheduled for write-back. -/
def scrubBlock (s : State) : State :=
  if flagF s pgMEMC MEMC.SCRUB_EN then
    let b := getF s pgMEMC MEMC.SCRUB_POS
    let s := (List.range 8).foldl (fun s i => let a := 64 * b + 8 * i; eccNote s (.lpddr a) a a) s
    setF s pgMEMC MEMC.SCRUB_POS ((b + 1) % 2 ^ 29)
  else s

/-! ### Commands -/

/-- BAR_WRITE: BAR0, BAR2 or BAR4 by `bar`; `ep` says that the TLP arrived poisoned. -/
def execBarWrite (bar : Fin 3) (a : BitVec 48) (be : BitVec 64) (d : List Byte) (ep : Bool) (s : State) :
    Host.Outcome State Fault Refusal := .next (barWrite s bar.val a.toNat be.toNat d ep)

/-- BAR_READ. -/
def execBarRead (bar : Fin 3) (a : BitVec 48) (n : Nat) (s : State) : Host.Outcome State Fault Refusal :=
  .next (barRead s bar.val a.toNat n)

/-- UNSUPPORTED_REQUEST. -/
def execUnsupportedRequest (s : State) : Host.Outcome State Fault Refusal := .next (if hostUp s then unsupported s 0 else s)

/-- PERSONALITY_RETRAIN. -/
def execPersonalityRetrain (s : State) : Host.Outcome State Fault Refusal := .next (personality s)

/-- PCIE_PERST: the level of PCIE_PERST_n. -/
def execPciePerst (low : Bool) (s : State) : Host.Outcome State Fault Refusal := .next (perstPin s low)

/-- HOT_RESET: a hot reset, or a link-down (`down`). A hot reset also takes the link to Detect, uncounted (log 56). -/
def execHotReset (down : Bool) (s : State) : Host.Outcome State Fault Refusal :=
  .next (if hostUp s then
    (if down then pcieDown s 0 else functionReset (setF s pgHPCI HPCI.LINK_STATE 0)) else s)

/-- FUNCTION_LEVEL_RESET. -/
def execFunctionLevelReset (s : State) : Host.Outcome State Fault Refusal := .next (if hostUp s then functionReset s else s)

/-- PCIE_LANE_FAULT: `errs` receiver errors of a lane within 1 ms. -/
def execPcieLaneFault (lane : Fin 8) (errs : BitVec 16) (s : State) : Host.Outcome State Fault Refusal :=
  .next (pcieLane s lane.val errs.toNat)

/-- PCIE_LINK_TRAIN: with a host that offers 2^`w` lanes at rate `sp` + 1. -/
def execPcieLinkTrain (w : Fin 4) (sp : Fin 4) (s : State) : Host.Outcome State Fault Refusal := .next (pcieTrain s w.val sp.val)

/-- MSIX_MESSAGE. -/
def execMsixMessage (vec : BitVec 9) (s : State) : Host.Outcome State Fault Refusal := .next (msixSend s vec.toNat)

/-- SWVEC. -/
def execSwvec (v : Word) (s : State) : Host.Outcome State Fault Refusal := .next (regCmd pgHPCI HPCI.SWVEC.off v hostSrc (fun s => swvecWrite s v) s)

/-- HIDX_INBOUND. -/
def execHidxInbound (k : Fin 64) (v : Word) (s : State) : Host.Outcome State Fault Refusal := .next (hidxCmd k.val false v s)

/-- HIDX_OUTBOUND. -/
def execHidxOutbound (k : Fin 64) (v : Word) (s : State) : Host.Outcome State Fault Refusal := .next (hidxCmd k.val true v s)

/-- HOST_RING_WRITE. -/
def execHostRingWrite (k : Fin 64) (s : State) : Host.Outcome State Fault Refusal :=
  .next (if hostFull s then whenReleased (fun s => hostRingWrite s (hostKey k.val)) s else s)

/-- BACKGROUND_FILL. -/
def execBackgroundFill (s : State) : Host.Outcome State Fault Refusal := .next (fillMemory s)

/-- SCRUB. -/
def execScrub (s : State) : Host.Outcome State Fault Refusal := .next (whenReleased scrubBlock s)

end Sys2Proof.Machine
end

