-- ==== Sys2Proof/Machine/Events.lean ====
section
/-! DEFINITION. The event queue, the event ring and forced events (R486 to R499). -/

namespace Sys2Proof.Machine
open Sys2Proof

/-- Takes the oldest record off the queue. A slot that frees takes the count of the records lost first (R497). -/
def popEvent (s : State) : State :=
  let s := { s with evq := s.evq.tail }
  if 0 < s.evLost then
    let n := s.evLost
    raiseEv { s with evLost := 0 } pgDEVT 0x50 n
  else s

/-- Slots of the event ring (R499). -/
def evRingSize (s : State) : Nat :=
  let n := getF s pgDEVT DEVT.RING_CFG_LOG2SZ
  2 ^ (if 6 ≤ n ∧ n ≤ 15 then n else 6)

/-- Ring address bits [47:0]. -/
def evRingBase (s : State) : Nat := getF s pgDEVT DEVT.RING_LO * 4096 + getF s pgDEVT DEVT.RING_HI * 2 ^ 32

def evRingFull (s : State) : Bool :=
  decide (evRingSize s ≤ (getF s pgDEVT DEVT.WIDX + 65536 - getF s pgDEVT DEVT.RIDX) % 65536)

def recBytes (e : EvRec) : List Byte :=
  toBytes 4 e.w0.toNat ++ toBytes 4 e.w1.toNat ++ toBytes 4 e.w2.toNat ++ toBytes 4 e.w3.toNat

/-- Writes bytes within one block of device memory under ID 0x233; answers the code (R20, R496). -/
def unitWrite (s : State) (a : Nat) (bs : List Byte) : State × Nat :=
  let c := firstCode (interfaceCode a) (if routeRefused s 0x233 a then 0x33 else 0)
  if c ≠ 0 then (s, c)
  else blockWrite (countDirect s 0x233 true bs.length) (.of 0x233) a (spanBe (a % 64) bs.length) (spanData (a % 64) bs) false 0

/-- A ring write that failed (R496): the ring stops, and a record with the code follows those that wait. -/
def evRingFail (s : State) (a code : Nat) : State :=
  raiseEv (errCount (setF s pgDEVT DEVT.RING_CFG_EN 0) pgDEVT) pgDEVT code (addrDetail code a)

/-- The index has been written: the record leaves the queue (R496). -/
def evAdvance (s : State) : State :=
  popEvent (setF s pgDEVT DEVT.WIDX ((getF s pgDEVT DEVT.WIDX + 1) % 65536))

/-- Moves the oldest record and then the index into the ring (R496). -/
def ringWrite (s : State) : State :=
  match s.evq with
  | [] => s
  | e :: _ =>
    if flagF s pgDEVT DEVT.RING_CFG_EN && !(evRingFull s) then
      let b := evRingBase s
      let n := evRingSize s
      let w := getF s pgDEVT DEVT.WIDX
      let idx := toBytes 4 ((w + 1) % 65536)
      if bitOf b 47 then
        (if hostFull s then
           let h := b % 2 ^ 47
           raiseVector (evAdvance (setHostBytes (setHostBytes s (h + 16 * (w % n)) (recBytes e)) (h + 16 * n) idx)) 0
         else s)
      else
        let x := unitWrite s (b + 16 * (w % n)) (recBytes e)
        if x.2 ≠ 0 then evRingFail x.1 (b + 16 * (w % n)) x.2
        else
          let y := unitWrite x.1 (b + 16 * n) idx
          if y.2 ≠ 0 then evRingFail y.1 (b + 16 * n) y.2 else evAdvance y.1
    else s

/-- A write of `QPOP` (R499). -/
def qpopWrite (s : State) : State :=
  if flagF s pgDEVT DEVT.RING_CFG_EN || s.evq.isEmpty then errCount s pgDEVT else popEvent s

/-- A write of `RIDX` (R498): refused when it would stand ahead of `WIDX`. -/
def ridxWrite (s : State) (v : Word) : State :=
  let new := v.toNat % 65536
  let old := getF s pgDEVT DEVT.RIDX
  if (new + 65536 - old) % 65536 ≤ (getF s pgDEVT DEVT.WIDX + 65536 - old) % 65536 then setF s pgDEVT DEVT.RIDX new
  else errCount s pgDEVT

/-- A write of `RING_CFG` (R498): while EN = 1 only EN applies. -/
def ringCfgWrite (s : State) (v : Word) : State :=
  let size := bitsOf v.toNat 4 0
  let s :=
    if flagF s pgDEVT DEVT.RING_CFG_EN then
      (if size = getF s pgDEVT DEVT.RING_CFG_LOG2SZ then s else errCount s pgDEVT)
    else setF s pgDEVT DEVT.RING_CFG_LOG2SZ size
  setF s pgDEVT DEVT.RING_CFG_EN (bitsOf v.toNat 31 31)

/-- A write of `RING_LO` or `RING_HI` (R498). -/
def ringAddrWrite (s : State) (f : Fld) (v : Word) : State :=
  if flagF s pgDEVT DEVT.RING_CFG_EN then errCount s pgDEVT else setF s pgDEVT f (bitsOf v.toNat f.hi f.lo)

/-- A write of `EVT_FORCE` on stored page `p` of block `b` (R488): bits in ascending order. -/
def evtForceWrite (s : State) (p : Nat) (b : Blk) (v : Word) : State :=
  (List.range 32).foldl (fun s i =>
    if bitOf v.toNat i && bitOf (pendMask b) i then raiseCause s p i 0 0xFFFFFFFF else s) s

/-! ### Commands -/

/-- EVENT_RING_WRITE. -/
def execEventRingWrite (s : State) : Host.Outcome State Fault Refusal := .next (if dieReset s then s else ringWrite s)

/-- QPOP. -/
def execQpop (s : State) : Host.Outcome State Fault Refusal := .next (regCmd pgDEVT DEVT.QPOP.off 0 hostSrc (fun s => qpopWrite s) s)

/-- RIDX. -/
def execRidx (v : Word) (s : State) : Host.Outcome State Fault Refusal := .next (regCmd pgDEVT DEVT.RIDX.off v hostSrc (fun s => ridxWrite s v) s)

/-- RING_CFG. -/
def execRingCfg (v : Word) (s : State) : Host.Outcome State Fault Refusal := .next (regCmd pgDEVT DEVT.RING_CFG_EN.off v hostSrc (fun s => ringCfgWrite s v) s)

end Sys2Proof.Machine
end

