-- ==== Sys2Proof/Machine/Flash.lean ====
section
/-! DEFINITION. The on-die flash and the calibration records (R328, R329, R345, R346, R350, R351). -/

namespace Sys2Proof.Machine
open Sys2Proof

def modFlash (s : State) (f : Flash → Flash) : State := { s with flash := f s.flash }

def flashByte (s : State) (a : Nat) : Byte := look 0xFF s.flash.bytes a

/-- The bytes of the flash from `a` on. -/
def flashBytes (s : State) (a n : Nat) : List Byte := (List.range n).map fun i => flashByte s (a + i)

def flashWord (s : State) (a : Nat) : Word := word (ofBytes (flashBytes s a 4))

/-- Erases of block `b` so far. -/
def flashWear (s : State) (b : Nat) : Nat := look 0 s.flash.wear b

/-- A block is erased: its bytes read 0xFF, its pages may be programmed, its count rises. -/
def eraseBlock (s : State) (b : Nat) : State :=
  modFlash s fun f => { f with
    bytes := f.bytes.filter fun x => decide (x.1 / 65536 ≠ b)
    pages := f.pages.filter fun x => decide (x.1 / 256 ≠ b)
    wear := put 0 f.wear b (look 0 f.wear b + 1) }

/-- Programs a 256-byte page. -/
def programPage (s : State) (p : Nat) (bs : List Byte) : State :=
  modFlash s fun f => { f with
    bytes := (List.range 256).foldl (fun m i => put 0xFF m (256 * p + i) (bs.getD i 0xFF)) f.bytes
    pages := put 0 f.pages p 1 }

def flashBusy (s : State) : Bool := flagF s pgDCFG DCFG.FL_STAT_BUSY

/-- The bytes of `FL_BUF`. -/
def flBuf (s : State) : List Byte :=
  ((List.range 64).map fun i => toBytes 4 (regAt s pgDCFG (DCFG.FL_BUF i).off).toNat).flatten

/-- The refusal of a command at a flash address: 0 when it runs (R329). A program outside the image slots is refused as
an erase there (log 61). -/
def flashRefusal (s : State) (cmd a : Nat) : Nat :=
  if cmd = 3 then 0
  else if 496 ≤ a / 65536 then 0x18
  else if cmd = 1 then (if 100000 ≤ flashWear s (a / 65536) then 0x6B else 0)
  else if look 0 s.flash.pages (a / 256) = 1 then 0x7F else 0

/-- A flash command starts. -/
def flashStart (s : State) (cmd arg : Nat) : State :=
  setF (modFlash s fun f => { f with run := some (cmd, arg), buf := if cmd = 2 then flBuf s else [] })
    pgDCFG DCFG.FL_STAT_BUSY 1

/-- A write of `FL_CMD`. -/
def flCmdWrite (s : State) (v : Word) : State :=
  let cmd := bitsOf v.toNat 1 0
  let a := getF s pgDCFG DCFG.FL_ADDR
  if bitsOf v.toNat 31 16 ≠ 0x10AD ∨ flashBusy s then errCount s pgDCFG
  else if loadState s < 5 ∨ cmd = 0 then s
  else if flashRefusal s cmd a ≠ 0 then setF s pgDCFG DCFG.FL_STAT_CODE (flashRefusal s cmd a)
  else flashStart s cmd (if cmd = 1 then a / 65536 else a / 256)

/-- The block of the boot selection. -/
def bootBlock : Nat := 0x1F3

/-- A write of `BOOT_SEL`. -/
def bootSelWrite (s : State) (v : Word) : State :=
  if flashBusy s then errCount s pgDCFG
  else if 100000 ≤ flashWear s bootBlock then setF s pgDCFG DCFG.FL_STAT_CODE 0x6B
  else flashStart s 4 (bitsOf v.toNat 0 0)

/-! ### Calibration (R345, R346) -/

/-- Address of calibration block `b`. -/
def calAddr (b : Nat) : Nat := 0x1F10000 + 0x10000 * b

/-- The 512 data bytes that the calibration registers hold. -/
def calBytes (s : State) : List Byte :=
  ((List.range 128).map fun i => toBytes 4 (regAt s pgDCAL (0x80 + 4 * i)).toNat).flatten

def calHead (seq : Nat) : List Byte := toBytes 4 0x4C414343 ++ toBytes 4 seq ++ toBytes 4 0x200

/-- The calibration block holds a valid record. -/
def calValid (s : State) (b : Nat) : Bool :=
  let a := calAddr b
  let seq := (flashWord s (a + 4)).toNat
  flashBytes s a 12 == calHead seq &&
    (flashWord s (a + 12)).toNat == crc32c (calHead seq ++ flashBytes s (a + 16) 512)

def calSeq (s : State) (b : Nat) : Nat := (flashWord s (calAddr b + 4)).toNat

/-- The block of the record that a BOOT uses. -/
def calChoice (s : State) : Option Nat :=
  if calValid s 0 && (!(calValid s 1) || decide (calSeq s 1 ≤ calSeq s 0)) then some 0
  else if calValid s 1 then some 1 else none

/-- `CAL_STAT` for the record in force. -/
def calStat (s : State) : State :=
  match s.load.calBlock with
  | some b =>
    setF (setF (setF s pgDCAL DCAL.CAL_STAT_SEQ (calSeq s b)) pgDCAL DCAL.CAL_STAT_DEFAULT 0) pgDCAL DCAL.CAL_STAT_FACTORY
      (b2n (calSeq s b == 0))
  | none => setF (setF (setF s pgDCAL DCAL.CAL_STAT_SEQ 0) pgDCAL DCAL.CAL_STAT_DEFAULT 1) pgDCAL DCAL.CAL_STAT_FACTORY 0

/-- The working values become those of the record in force, or the nominal ones. -/
def calLoad (s : State) : State :=
  (List.range 128).foldl (fun s i =>
    setRegAt s pgDCAL (0x80 + 4 * i)
      (match s.load.calBlock with
       | some b => flashWord s (calAddr b + 16 + 4 * i)
       | none => look 0 resetRegs (pgDCAL * 1024 + 0x20 + i))) s

/-- The identity registers show the identity record (R347, R351). -/
def identityLoad (s : State) : State :=
  (List.range 6).foldl (fun s i => setRegAt s pgDCAL (DCAL.ID_SERIAL_LO.off + 4 * i) (flashWord s (identityAt + 4 * i))) s

/-- The BOOT chooses the record and applies it, and shows the identity record. -/
def calBoot (s : State) : State :=
  identityLoad (calLoad (calStat { s with load := { s.load with calBlock := calChoice s } }))

/-- Programs bytes from a page boundary on. -/
def programPages : Nat → State → Nat → List Byte → State
  | 0, s, _, _ => s
  | n + 1, s, p, bs => programPages n (programPage s p (bs.take 256)) (p + 1) (bs.drop 256)

/-- COMMIT: the other block is made ready and programmed; the old record's block is erased when the command ends. -/
def calCommit (s : State) : State :=
  let b := match s.load.calBlock with | some k => 1 - k | none => 0
  let seq := match s.load.calBlock with | some k => calSeq s k + 1 | none => 1
  let used := s.flash.pages.any fun x => decide (x.1 / 256 = calAddr b / 65536)
  if used && decide (100000 ≤ flashWear s (calAddr b / 65536)) then setF s pgDCAL DCAL.CAL_RESULT 0x6B
  else
    let s := if used then eraseBlock s (calAddr b / 65536) else s
    let body := calBytes s
    let s := programPages 3 s (calAddr b / 256) (calHead seq ++ toBytes 4 (crc32c (calHead seq ++ body)) ++ body)
    setF (modFlash s fun f => { f with calRun := some b }) pgDCAL DCAL.CAL_STAT_BUSY 1

/-- A write of `CAL_CMD`. -/
def calCmdWrite (s : State) (v : Word) : State :=
  if bitsOf v.toNat 31 16 ≠ 0xCA1B ∨ flagF s pgDCAL DCAL.CAL_STAT_BUSY then errCount s pgDCAL
  else
    match bitsOf v.toNat 1 0 with
    | 1 => calCommit s
    | 2 => setF (calLoad s) pgDCAL DCAL.CAL_RESULT 0
    | _ => s

/-- The COMMIT in progress ends: the block of the record that was in force is erased. -/
def calDone (s : State) (b : Nat) : State :=
  let old := s.load.calBlock
  let worn := old.any fun k => decide (100000 ≤ flashWear s (calAddr k / 65536))
  let s := match old with | some k => (if worn then s else eraseBlock s (calAddr k / 65536)) | none => s
  let s := { modFlash s fun f => { f with calRun := none } with load := { s.load with calBlock := some b } }
  setF (setF (calStat s) pgDCAL DCAL.CAL_STAT_BUSY 0) pgDCAL DCAL.CAL_RESULT (if worn then 0x6B else 0)

/-- The flash command in progress ends; with none, a COMMIT does. -/
def flashDone (s : State) : State :=
  match s.flash.run with
  | some (cmd, arg) =>
    let buf := s.flash.buf
    let s := setF (setF (modFlash s fun f => { f with run := none, buf := [] }) pgDCFG DCFG.FL_STAT_BUSY 0) pgDCFG DCFG.FL_STAT_CODE 0
    (match cmd with
     | 1 => eraseBlock s arg
     | 2 => programPage s arg buf
     | 3 => (List.range 64).foldl (fun s i => setRegAt s pgDCFG (DCFG.FL_BUF i).off (flashWord s (256 * arg + 4 * i))) s
     | _ => setF (modFlash (eraseBlock s bootBlock) fun f => { f with slot := arg }) pgDCFG DCFG.BOOT_SEL arg)
  | none =>
    match s.flash.calRun with
    | some b => calDone s b
    | none => s

/-! ### The commands -/

/-- `v` with its `CMD` bits [1:0] replaced: the command that a row names. -/
def withCmd (v : Word) (c : Nat) : Word := word (setBits v.toNat 1 0 c)

/-- FLASH_ERASE. -/
def execFlashErase (v : Word) (s : State) : Host.Outcome State Fault Refusal :=
  .next (regCmd pgDCFG DCFG.FL_CMD_CMD.off (withCmd v 1) hostSrc (fun s => flCmdWrite s (withCmd v 1)) s)

/-- FLASH_PROGRAM. -/
def execFlashProgram (v : Word) (s : State) : Host.Outcome State Fault Refusal :=
  .next (regCmd pgDCFG DCFG.FL_CMD_CMD.off (withCmd v 2) hostSrc (fun s => flCmdWrite s (withCmd v 2)) s)

/-- FLASH_READ. -/
def execFlashRead (v : Word) (s : State) : Host.Outcome State Fault Refusal :=
  .next (regCmd pgDCFG DCFG.FL_CMD_CMD.off (withCmd v 3) hostSrc (fun s => flCmdWrite s (withCmd v 3)) s)

/-- FLASH_DONE. -/
def execFlashDone (s : State) : Host.Outcome State Fault Refusal := .next (flashDone s)

/-- BOOT_SEL. -/
def execBootSel (v : Word) (s : State) : Host.Outcome State Fault Refusal :=
  .next (regCmd pgDCFG DCFG.BOOT_SEL.off v hostSrc (fun s => bootSelWrite s v) s)

/-- COMMIT. -/
def execCommit (v : Word) (s : State) : Host.Outcome State Fault Refusal :=
  .next (regCmd pgDCAL DCAL.CAL_CMD_CMD.off (withCmd v 1) hostSrc (fun s => calCmdWrite s (withCmd v 1)) s)

/-- RELOAD. -/
def execReload (v : Word) (s : State) : Host.Outcome State Fault Refusal :=
  .next (regCmd pgDCAL DCAL.CAL_CMD_CMD.off (withCmd v 2) hostSrc (fun s => calCmdWrite s (withCmd v 2)) s)

end Sys2Proof.Machine
end

