-- ==== Sys2Proof/Machine/Checks.lean ====
section
/-! DEFINITION. The checks of an image after its hallmark (R336): single fields, rules that join fields, slot maps. -/

namespace Sys2Proof.Machine
open Sys2Proof

/-- The section that holds a page: 0 device, 1 to 16 regions, 17 to 272 tiles. -/
def sectOf (p : Nat) : Nat := if p < 0x200 then 0 else if p < 0x400 then 1 + (p - 0x200) / 8 % 16 else 17 + (p - 0x400) / 4

def emptyTile (s : State) (t : Nat) : Bool := look 0 s.load.empty t == 1

def within (lo hi n : Nat) : Bool := decide (lo ≤ n) && decide (n ≤ hi)

/-! ### Single fields (0x79) -/

/-- The bank states that the image gives a page name no transition (R160). -/
def statesOk (s : State) (p n : Nat) : Bool :=
  (List.range n).all fun b => bitsOf (look 0 s.load.pwr p) (2 * b + 1) (2 * b) != 3

/-- A source of R358 that segment `sg` has. -/
def srcOk (sg v : Nat) : Bool :=
  decide (v < 0x580) || (within 0x600 0x7FF v && decide (v % 64 ≤ 37)) ||
  (decide (2 ≤ sg) && ((within 0x800 0x8FF v && decide (v % 32 ≤ 17)) || within 0x900 0x90F v)) ||
  within 0x920 0x93F v || within 0xFF0 0xFF2 v

/-- Offset and test of every single-field rule of a page. -/
def singles (s : State) (p : Nat) : Blk → Nat → List (Nat × Bool)
  | .dstr, _ =>
    [(0x40, decide (getF s p DSTR.ID_CFG_MODE ≠ 0 ∨ getF s p DSTR.ID_CFG_ID ≠ 0x3FFFF)),
     (0x60, decide (getF s p DSTR.TIME_CFG_SRC ≠ 3) && within 1 1000 (getF s p DSTR.TIME_CFG_TPERIOD))]
  | .dacw, _ =>
    [(0x40, within 10 100000 (getF s p DACW.EPOCH_CFG)), (0x50, decide (getF s p DACW.PAIR_CFG_LINK ≤ 5))]
  | .dpwr, _ =>
    [(0x4C, within 20 125 (getF s p DPWR.GOV_CFG_CAP) && within 85 110 (getF s p DPWR.GOV_CFG_TLIM))]
  | .dbzl, sg =>
    [(0x40, within 1 4 (getF s p DBZL.CLK_FREQ)), (0x44, decide (1 ≤ getF s p DBZL.FRAME_LEN))] ++
    (List.range 8).flatMap (fun j =>
      [(0x100 + 8 * j, decide (4 ≤ getF s p (DBZL.PORT_CFG_OUT_DLY j))), (0x104 + 8 * j, srcOk sg (getF s p (DBZL.PORT_TAKE j)))]) ++
    (List.range 48).map (fun n =>
      (0x200 + 8 * n, decide (getF s p (DBZL.PIN_CFG_MODE n) ≤ 4) && decide (getF s p (DBZL.PIN_CFG_PULL n) ≠ 3) &&
        (decide (getF s p (DBZL.PIN_CFG_MODE n) ≠ 3) || srcOk sg (getF s p (DBZL.PIN_CFG_SEL n)))))
  | .dbzc, i =>
    (List.range 64).flatMap fun c =>
      let o := 0x40 + 32 * c
      let used := decide (regAt s p o ≠ 0 ∨ regAt s p (o + 4) ≠ 0) || bitOf (regAt s p (o + 20)).toNat 0
      [2, 3, 4].map fun k =>
        let w := (regAt s p (o + 4 * k)).toNat
        (o + 4 * k, !used || (srcOk (i / 16) (bitsOf w 11 0) && srcOk (i / 16) (bitsOf w 27 16)))
  | .dmif, _ =>
    (0x44, decide (100 ≤ getF s p DMIF.ADC_CFG_PERIOD)) ::
    ((List.range 16).flatMap fun k =>
      let sg := if k < 8 then 3 else 2
      [(0x180 + 4 * k, srcOk sg (getF s p (DMIF.ADC_TAKE k))), (0x280 + 4 * k, srcOk sg (getF s p (DMIF.DO_CFG_SRC k)))])
  | .zlnk, _ => [(0x40, decide (getF s p ZLNK.CFG_MODE ≠ 3))]
  | .ethp, _ =>
    [(0x40, decide (getF s p ETHP.CFG_FEC ≤ (if flagF s p ETHP.CFG_SPEED then 2 else 1)) &&
        within 64 9216 (getF s p ETHP.CFG_MAXLEN)),
     (0x60, decide (1000 ≤ getF s p ETHP.GCL_CYCLE))]
  | .rmem, _ => [(0x40, statesOk s p 16)]
  | .rlane, r =>
    (List.range 16).map fun l =>
      ((RLANE.LANE_CFG_N0 l).off, (List.range 8).all fun k =>
        let v := laneSetting s (16 * r + l) k
        decide (v ≤ 1) || decide (8 ≤ v))
  | .rclk, _ =>
    let pll (b : Bool) (en mult : Fld) : Nat × Bool :=
      (if b then 0x44 else 0x40, !(flagF s p en) || within 4 24 (getF s p mult))
    [pll false RCLK.PLLA_CFG_EN RCLK.PLLA_CFG_MULT, pll true RCLK.PLLB_CFG_EN RCLK.PLLB_CFG_MULT,
     (0x48, within 600 900 (getF s p RCLK.RAIL_SET) && decide (getF s p RCLK.RAIL_SET % 10 = 0))] ++
    (List.range 16).flatMap (fun n =>
      let modes := (List.range 8).map fun i => bitsOf (getF s p (RCLK.LLCFG_MODE n)) (2 * i + 1) (2 * i)
      [(0x80 + 4 * n, decide (getF s p (RCLK.TILE_CLK_DIV n) ≤ 5)),
       (0xC0 + 4 * n, modes.all (fun m => decide (m ≤ 1)) && (!(modes.contains 1) || decide (4 ≤ getF s p (RCLK.LLCFG_DLY n))))])
  | .rrtr, r =>
    if 16 ≤ r then []
    else (List.range 128).map fun k =>
      (0x800 + 16 * k, decide (getF s p (RRTR.EP_CTL_MODE k) = 0) ||
        decide (getF s p (RRTR.EP_CTL_MODE k) = (if k % 8 < 4 then 1 else 2)))
  | .rjnl, _ => [(0x44, decide (getF s p RJNL.JSIZE = 2048 * popCount 16 (getF s p RJNL.JBANKS)))]
  | .tseq, _ =>
    [(0xC, decide (getF s p TSEQ.STATUS_WPOS ≤ 11) && within 1 11 (getF s p TSEQ.STATUS_RESIDENT) &&
        decide (getF s p TSEQ.STATUS_SPILLED ≤ 64)),
     (0x48, within 1 8192 (getF s p TSEQ.PROG_CFG_LEN))]
  | .tfct, _ => [(0x48, within 1 256 (getF s p TFCT.STORE_CFG))]
  | .tbnk, _ => [(0x40, statesOk s p 8)]
  | _, _ => []

/-! ### Rules that join fields (0x7A) -/

/-- Switches set to PASS behind a lane output, and whether a launch feeds them: an output set to XBAR or a bezel token
port in; a run that does not end counts as one (R57). -/
def passRun (s : State) : Nat → Nat → Nat → Nat → Nat × Bool
  | 0, _, _, n => (n, true)
  | fuel + 1, pos, k, n =>
    let v := laneSetting s pos k
    if v < 8 then (n, v == 1)
    else
      let i := v - 8
      match neighbour pos (i / 2) with
      | none => (n + 1, laneDriven s pos i)
      | some m => passRun s fuel m (2 * ((i / 2 + 2) % 4) + i % 2) (n + 1)

/-- The lane rules of R57 for the outputs of one position. -/
def lanesOk (s : State) (pos : Nat) : Bool :=
  (List.range 8).all fun k =>
    let v := laneSetting s pos k
    let leads := (neighbour pos (k / 2)).isSome || (k % 2 == 0 && (bezelPortAt pos (k / 2)).isSome)
    (v == 0 || leads) &&
    (v < 8 || (decide ((v - 8) / 2 ≠ k / 2) && (List.range 8).all (fun j => j == k || laneSetting s pos j != v) &&
      !(decide (3 < (passRun s 130 pos k 0).1) && (passRun s 130 pos k 0).2)))

/-- The program area keeps R88: within the banks, and clear of the facet store and the spill area. -/
def programOk (s : State) (p : Nat) : Bool :=
  let b := getF s p TSEQ.PROG_CFG_BASE
  let e := b + getF s p TSEQ.PROG_CFG_LEN
  let n := 20 * getF s (p + 1) TFCT.STORE_CFG
  decide (e ≤ frameAddr 0) && (List.range 4).all fun k => decide (e ≤ 8192 * k) || decide (8192 * k + n ≤ b)

/-- Repeat state (R110, R140). -/
def repeatsOk (s : State) (p : Nat) : Bool :=
  let valid := (List.range 4).map fun n => flagF s p (TSEQ.REPB_VALID n)
  (valid.dropWhile id).all (fun b => !b) &&
  (List.range 3).all fun n => !(flagF s p (TSEQ.REPB_VALID (n + 1))) ||
    (decide (getF s p (TSEQ.REPA_END (n + 1)) ≤ getF s p (TSEQ.REPA_END n)) &&
     decide (getF s p (TSEQ.REPA_START n) ≤ getF s p (TSEQ.REPA_START (n + 1))))

/-- Cells without a register that are used (R359). -/
def combCells (s : State) (sg : Nat) : List (Nat × BCell) := (usedCells s sg).filter fun x => !x.2.reg

/-- Those of a set of cells that read one of the set. -/
def deeper (cs : List (Nat × BCell)) (d : List Nat) : List Nat :=
  (cs.filter fun x => x.2.ins.any fun i => d.contains i).map fun x => x.1

def deepest (cs : List (Nat × BCell)) : Nat → List Nat
  | 0 => cs.map fun x => x.1
  | k + 1 => deeper cs (deepest cs k)

/-- Paths without a register keep the limit of R359; a loop never does. -/
def pathsOk (s : State) (sg : Nat) : Bool :=
  (deepest (combCells s sg) (([7, 7, 3, 2, 1] : List Nat).getD (getF s (pgDBZL sg) DBZL.CLK_FREQ) 1)).isEmpty

/-- The rules of a segment (R354, R355, R359, R361, R363, R364, R368, R372). -/
def segmentOk (s : State) (sg : Nat) : Bool :=
  let p := pgDBZL sg
  let len := getF s p DBZL.FRAME_LEN
  let f := getF s p DBZL.CLK_FREQ
  let fits (b n : Nat) : Bool := decide (b + n ≤ 1024)
  pathsOk s sg && decide (getF s p DBZL.FRAME_PHASE < len) && fits (getF s p DBZL.XLINK_TXCW) 16 &&
  fits (getF s p DBZL.XLINK_TXCC) 16 &&
  (List.range 8).all (fun j =>
    let pl := portTile (8 * sg + j)
    (!(flagF s p (DBZL.PORT_CFG_IN_EN j)) || fits (getF s p (DBZL.PORT_CFG_IN_BASE j)) 37) &&
    (!(flagF s p (DBZL.PORT_CFG_OUT_EN j)) || decide (laneSetting s pl.1 pl.2 ≠ 0))) &&
  (List.range 48).all (fun n =>
    (decide (getF s p (DBZL.PIN_CFG_MODE n) = 0) || decide (f * 100 * pinSer s sg n ≤ (if f = 3 then 600 else 800))) &&
    (!(pinOuts s sg n) || fits (getF s p (DBZL.PIN_OUT_BASE n)) (pinSer s sg n)) &&
    (!(pinFramed s sg n) || (decide (pinSer s sg n = 1) && decide (getF s p (DBZL.PIN_OUT_TICK n) < len))) &&
    (!(flagF s p (DBZL.PIN_CFG_LVDS n)) || decide (n % 2 = 1) || decide (getF s p (DBZL.PIN_CFG_MODE (n + 1)) = 0))) &&
  (List.range 4).all (fun t =>
    !(flagF s p (DBZL.XCVR_CFG_HALF t)) || decide (getF s p (DBZL.PIN_CFG_MODE (40 + 2 * t)) = 3)) &&
  (decide (sg < 2) || (List.range 8).all fun i =>
    let k := anaCh sg i
    fits (getF s pgDMIF (DMIF.DAC_CFG_BASE k)) 17 && (!(flagF s pgDMIF (DMIF.DAC_CFG_SYNC k)) || decide (250 ≤ len)))

/-- A tile clock that the image sets is lockable once its PLL has locked (R243). -/
def setLockable (s : State) (t : Nat) : Bool :=
  decide (baseSrc s t ≠ 2) && decide (srcMHz s (t / 16) (baseSrc s t) % (100 * divOf (baseDiv s t)) = 0)

/-- The lockstep pairs of a region (R289). -/
def pairsOk (s : State) (r : Nat) : Bool :=
  (List.range 2).all fun n =>
    let p := pgRJNL r
    let a := getF s p (RJNL.LSTEP_FIRST n)
    let b := getF s p (RJNL.LSTEP_SECOND n)
    !(flagF s p (RJNL.LSTEP_EN n)) ||
      (decide (a ≠ b) && isProt s (16 * r + a) && isProt s (16 * r + b) && !(redund s && (a == 15 || b == 15)) &&
       decide (baseSrc s (16 * r + a) = baseSrc s (16 * r + b)) && decide (baseDiv s (16 * r + a) = baseDiv s (16 * r + b)) &&
       setLockable s (16 * r + a))

/-- Every in-endpoint is protected as its tile is (R265). -/
def protOk (s : State) (r : Nat) : Bool :=
  (List.range 128).all fun k =>
    decide (k % 8 < 4) ||
    (flagF s (pgRRTR r) (RRTR.EP_CTL_PROT k) == isProt s (16 * r + k / 8))

/-- Port entries: one binding per stream and direction, rings in place (R229, R399, R400, R442), and no protected entry
that feeds an unprotected tile (R265). -/
def entryOk (s : State) (key : Nat) : Bool :=
  !(entEn s key) ||
    (!(entBound s key) && !(entRingBad s key) &&
     (entOutbound s key || !(entProt s key) || decide (16 ≤ getE s key 4 31 27) ||
      (List.range 128).all fun k =>
        let r := getE s key 4 31 27
        decide (k % 8 < 4) || !(epEn s r k) || decide (getF s (pgRRTR r) (RRTR.EP_CTL_STREAM k) ≠ entStream s key) ||
        isProt s (16 * r + k / 8)))

/-- The rules of a page. -/
def ruleOk (s : State) (p : Nat) : Blk → Nat → Bool
  | .dacw, _ =>
    decide (locketEnd s ≤ 0x800000000) &&
    (!(flagF s p DACW.PAIR_CFG_EN) ||
      (decide (getF s pgDSTR DSTR.ID_CFG_MODE = 0) &&
       decide (getF s pgDSTR DSTR.ID_CFG_ID / 64 = getF s p DACW.PAIR_CFG_PARTNER / 64)))
  | .dbzl, sg => segmentOk s sg
  | .dmif, _ => decide (getF s p DMIF.ADC_CFG_PHASE < getF s p DMIF.ADC_CFG_PERIOD)
  | .zlnk, n => (List.range 64).all fun e => entryOk s (zilKey n e)
  | .ethp, n => (List.range 32).all fun e => entryOk s (ethKey n e)
  | .hpci, _ => (List.range 64).all fun k => entryOk s (hostKey k)
  | .rlane, r => (List.range 16).all fun l => lanesOk s (16 * r + l)
  | .rclk, r =>
    (List.range 4).all (fun d =>
      match regionBeside r d with
      | some q =>
        decide (getF s p RCLK.RAIL_SET ≤ getF s (pgRCLK q) RCLK.RAIL_SET + 300) &&
        decide (getF s (pgRCLK q) RCLK.RAIL_SET ≤ getF s p RCLK.RAIL_SET + 300)
      | none => true) &&
    (List.range 16).all (fun l =>
      emptyTile s (16 * r + l) || clkFits s r (baseSrc s (16 * r + l)) (baseDiv s (16 * r + l)) (getF s p RCLK.RAIL_SET))
  | .rrtr, r =>
    decide (16 ≤ r) || (protOk s r && (List.range 128).all fun k => !(epEn s r k) || (!(epBound s r k) && !(epRingBad s r k)))
  | .rjnl, r => decide (popCount 16 (getF s p RJNL.JBANKS) ≤ 12) && pairsOk s r
  | .tseq, _ => programOk s p && repeatsOk s p
  | _, _ => true

/-- A failure: its code, image offset and section. -/
structure Failure where
  code : Nat
  ofs  : Nat
  sect : Nat
  deriving DecidableEq, Repr

/-- Pages that are checked: every page but those of empty tiles (R334). -/
def checkedPages (s : State) : List (Nat × Blk × Nat) :=
  allPages.filterMap fun p =>
    if 0x400 ≤ p && emptyTile s ((p - 0x400) / 4) then none else (blkOf p).map fun b => (p, b.1, b.2)

/-- The first single field that fails. Its record's offset is known when a record set it. -/
def singleFailure (s : State) : Option Failure :=
  (checkedPages s).findSome? fun x =>
    ((singles s x.1 x.2.1 x.2.2).find? fun y => !y.2).map fun y =>
      ⟨0x79, (match look 0 s.load.recAt (1024 * x.1 + y.1 / 4) with | 0 => noOfs | o => o), sectOf x.1⟩

/-- The first rule that fails; spare sections have to be empty with redundancy enabled (R334). -/
def ruleFailure (s : State) : Option Failure :=
  match (List.range 16).find? fun r => redund s && !(emptyTile s (16 * r + 15)) with
  | some r => some ⟨0x7A, noOfs, 17 + 16 * r + 15⟩
  | none => ((checkedPages s).find? fun x => !(ruleOk s x.1 x.2.1 x.2.2)).map fun x => ⟨0x7A, noOfs, sectOf x.1⟩

/-! ### Slot maps (R63, R336) -/

/-- Fills slots `n` and up of a tile from the sets that its slot map names; answers the code that paging would
record. -/
def loadSlots : Nat → State → Nat → Nat → Nat × State
  | 0, s, _, _ => (0, s)
  | fuel + 1, s, t, n =>
    let set := (look 0 (tileOf s t).slotSet n).toNat
    if getF s (pgTFCT t) TFCT.STORE_CFG ≤ set then (0x72, s)
    else
      let r := readSet s t (BitVec.ofNat 8 set)
      if r.1.code ≠ 0 then (r.1.code.toNat, r.2)
      else if !(setValid r.2 t fun w => r.1.words.getD w 0) then (0x72, r.2)
      else loadSlots fuel (modTile r.2 t fun x => fillSlot x (BitVec.ofNat 8 set) n r.1.words) t (n + 1)

/-- Fills the slots of every tile that is not empty. -/
def loadAllSlots : List Nat → State → Option Failure × State
  | [], s => (none, s)
  | t :: ts, s =>
    if emptyTile s t then loadAllSlots ts s
    else
      let r := loadSlots 16 s t 0
      if r.1 = 0 then loadAllSlots ts r.2 else (some ⟨r.1, noOfs, 17 + t⟩, r.2)

end Sys2Proof.Machine
end

