-- ==== Sys2Proof/Machine/Image.lean ====
section
/-! DEFINITION. The image: header, sections, records, hallmark (R330 to R335). -/

namespace Sys2Proof.Machine
open Sys2Proof

/-! ### The header (R330, R331) -/

/-- `n` bytes at offset `o` of a byte string, as a number. -/
def fieldAt (bs : List Byte) (o n : Nat) : Nat := ofBytes ((bs.drop o).take n)

/-- `PHASES` names each code once, and WR_EN after CLK_LOCK. -/
def phasesOk (w : Nat) : Bool :=
  let p := (List.range 4).map fun k => bitsOf w (2 * k + 1) (2 * k)
  decide (w < 256) && [0, 1, 2, 3].all (fun c => p.contains c) && decide (p.idxOf 0 < p.idxOf 3)

/-- The rules of the header's fields in order: offset, whether it holds, code. -/
def headerRules (h : List Byte) : List (Nat × Bool × Nat) :=
  [(0x00, fieldAt h 0 4 == 0x36394E4C, 0x70), (0x04, fieldAt h 4 2 == 1, 0x70), (0x06, fieldAt h 6 2 == 0x100, 0x70),
   (0x08, within 0x110 0xF80000 (fieldAt h 8 4), 0x76), (0x0C, fieldAt h 0xC 4 == 0x9640, 0x70),
   (0x18, decide (fieldAt h 0x18 4 < 4), 0x70), (0x1C, phasesOk (fieldAt h 0x1C 4), 0x71),
   (0x20, decide (fieldAt h 0x20 4 < 65536), 0x70), (0x24, fieldAt h 0x24 4 == 273, 0x70),
   (0x28, fieldAt h 0x28 88 == 0, 0x70), (0xE8, fieldAt h 0xE8 20 == 0, 0x70),
   (0xFC, fieldAt h 0xFC 4 == crc32c (h.take 0xFC), 0x70)]

/-- The first rule of the header that fails. -/
def headerFailure (h : List Byte) : Option Failure :=
  ((headerRules h).find? fun x => !x.2.1).map fun x => ⟨x.2.2, x.1, noSect⟩

/-- What a header that passes leaves. -/
def takeHeader (s : State) (h : List Byte) : State :=
  let s := setF (setF s pgDCFG DCFG.IMG_ID (fieldAt h 0x10 4)) pgDCFG DCFG.IMG_VER (fieldAt h 0x14 4)
  { s with load := { s.load with
      passed := true, flags := fieldAt h 0x18 4, phases := fieldAt h 0x1C 4, doneWait := fieldAt h 0x20 4, len := fieldAt h 8 4 } }

/-! ### Records (R333) -/

/-- The bits of a register that a REG record may set: fields whose reset is "image" or whose access is RW. -/
def imgMask (b : Blk) (inst o : Nat) : Nat :=
  match rowAt b inst o with
  | some r => r.img
  | none => if o = HDR.EVT_EN.off ∨ o = HDR.SCRATCH.off then 0xFFFFFFFF else 0

/-- Register offsets that hold the bank states of a page (R160). -/
def isPwrState (b : Blk) (o : Nat) : Bool := decide ((b = .tbnk ∨ b = .rmem) ∧ o = 0x40)

/-- One word of a REG record at offset `o` of page `p`; bank states wait for the hallmark (R338). Answers 0 or the
code. -/
def regInit (s : State) (p o : Nat) (w : Word) (src : Nat) : Nat × State :=
  match blkOf p with
  | none => (0x78, s)
  | some (b, inst) =>
    if 0x1000 ≤ o then (0x78, s)
    else
      let m := imgMask b inst o
      if w &&& ~~~(word m) ≠ 0 then (0x79, s)
      else
        let s := { s with load := { s.load with recAt := put 0 s.load.recAt (1024 * p + o / 4) src } }
        if isPwrState b o then (0, { s with load := { s.load with pwr := put 0 s.load.pwr p w.toNat } })
        else (0, setRegAt s p o ((regAt s p o &&& ~~~(word m)) ||| w))

/-- Carries a step over a list until one answers a code. -/
def eachOk {α : Type} (f : State → α → Nat × State) : List α → State → Nat × State
  | [], s => (0, s)
  | x :: xs, s =>
    let r := f s x
    if r.1 = 0 then eachOk f xs r.2 else r

/-- Storage address of memory word `w` of a section's unit, if the unit has it. -/
def imgWord (s : State) (kind idx w : Nat) : Option Nat :=
  match kind with
  | 1 => some (4 * w)
  | 2 => if w < 0x80000 then some (rmemStore s idx (4 * w)) else none
  | _ => if w < 65536 then some (bankAddr idx w) else none

/-- One word of a MEM or FILL record. -/
def memInit (kind idx w : Nat) (s : State) (v : Word) : Nat × State :=
  match imgWord s kind idx w with
  | some a => (0, setWord (if isTileAddr a then setDirty s idx w else s) a v)
  | none => (0x78, s)

/-- One word of a CELL record. O and Q start not valid, whatever bit 4 of their tag items says (R63). -/
def cellInit (t target : Nat) (s : State) (x : Word × Nat) : Nat × State :=
  let cell := bitsOf target 15 12
  let level := bitsOf target 9 8
  let item := bitsOf target 4 0 + x.2
  let c := look Cell.init (tileOf s t).cells cell
  if target / 65536 ≠ 0 ∨ bitsOf target 11 10 ≠ 0 ∨ bitsOf target 7 5 ≠ 0 ∨ (winItem (tileOf s t) cell level item).isNone then (0x78, s)
  else
    let c := match item with
      | 0x14 => { c with o := { c.o with tok := { c.o.tok with data := x.1 } } }
      | 0x15 => { c with o := { setOut c.o.tok.data x.1 with valid := false } }
      | 0x16 => { c with q := { c.q with tok := { c.q.tok with data := x.1 } } }
      | 0x17 => { c with q := { setOut c.q.tok.data x.1 with valid := false } }
      | _ => winSet c level item x.1
    (0, modTile s t fun y => { y with cells := put Cell.init y.cells cell c })

/-- The tokens of a QUEUE record. -/
def pairToks : List Word → List Tok
  | d :: g :: ws => tokOf d (g.toNat % 16) :: pairToks ws
  | _ => []

/-- Data words that a record carries. -/
def recWords (rt count : Nat) : Nat := if rt = 3 then 1 else if rt = 5 then 2 * count else count

/-- A record other than SAMEAS: `kind` is 1 device, 2 region, 3 tile. -/
def takeRecord (s : State) (kind idx rt count target : Nat) (ws : List Word) (src : Nat) : Nat × State :=
  if rt = 1 then
    let unit := bitsOf target 27 16
    let p := if kind = 1 then unit else if kind = 2 then pgRCTL idx + unit else pgTSEQ idx + unit
    let top := if kind = 1 then 0x200 else if kind = 2 then 8 else 4
    if top ≤ unit ∨ bitsOf target 31 28 ≠ 0 ∨ bitsOf target 15 12 ≠ 0 ∨ target % 4 ≠ 0 then (0x78, s)
    else eachOk (fun s x => regInit s p (bitsOf target 11 0 + 4 * x.2) x.1 src) ws.zipIdx s
  else if rt = 2 then eachOk (fun s x => memInit kind idx (target + x.2) s x.1) ws.zipIdx s
  else if rt = 3 then eachOk (fun s i => memInit kind idx (target + i) s (ws.headD 0)) (List.range count) s
  else if kind ≠ 3 then (0x78, s)
  else if rt = 4 then eachOk (cellInit idx target) ws.zipIdx s
  else if rt = 5 then
    if 16 < target ∨ queueDepth target < count then (0x78, s)
    else if ws.zipIdx.any fun x => x.2 % 2 == 1 && decide (16 ≤ x.1.toNat) then (0x79, s)
    else (0, modTile s idx fun x => setQueue x target (pairToks ws))
  else if rt = 6 then
    if target ≠ 0 ∨ count ≠ 4 then (0x78, s)
    else eachOk (fun s x => regInit s (pgTFCT idx) (0x50 + 4 * x.2) x.1 src) ws.zipIdx s
  else (0x78, s)

/-- How far a section or an image has been read: bytes are missing, a failure, or done with the bytes left over. -/
inductive Got where
  | wait
  | bad (f : Failure) (s : State)
  | ok (s : State) (rest : List Byte)

/-- The 32-bit words of a byte string, by count. -/
def imgWords (bs : List Byte) (n : Nat) : List Word := (List.range n).map fun i => word (fieldAt bs (4 * i) 4)

/-- Reads the records of a section whose body has `left` bytes still to come; `ofs` is the image offset, `fixed` the
offset of the SAMEAS record on whose behalf a copied body is read (R334). -/
def readRecords : Nat → State → Nat → Nat → Nat → Bool → Nat → Option Nat → Nat → List Byte → Got
  | 0, s, _, _, sect, _, ofs, _, _, _ => .bad ⟨0x78, ofs, sect⟩ s
  | fuel + 1, s, kind, idx, sect, first, ofs, fixed, left, bs =>
    let src := fixed.getD ofs
    if left = 0 then .ok s bs
    else if left < 8 then .bad ⟨0x78, src, sect⟩ s
    else if bs.length < 8 then .wait
    else
      let w0 := fieldAt bs 0 4
      let target := fieldAt bs 4 4
      let rt := w0 / 2 ^ 24
      let count := w0 % 2 ^ 24
      if rt = 7 then
        if kind ≠ 3 ∨ first = false ∨ idx ≤ target ∨ count ≠ 0 then .bad ⟨0x78, src, sect⟩ s
        else
          let body := look [] s.load.secs target
          match readRecords fuel s 3 idx sect true src (some src) body.length body with
          | .ok s _ => readRecords fuel s kind idx sect false (ofs + 8) fixed (left - 8) (bs.drop 8)
          | r => r
      else
        let n := 4 * recWords rt count
        if rt = 0 ∨ 7 < rt ∨ left < 8 + n then .bad ⟨0x78, src, sect⟩ s
        else if bs.length < 8 + n then .wait
        else
          let r := takeRecord s kind idx rt count target (imgWords (bs.drop 8) (n / 4)) src
          if r.1 ≠ 0 then .bad ⟨r.1, src, sect⟩ r.2
          else readRecords fuel r.2 kind idx sect false (ofs + 8 + n) fixed (left - 8 - n) (bs.drop (8 + n))

/-- `TYPE` and `INDEX` of section `n`. -/
def sectUnit (n : Nat) : Nat × Nat := if n = 0 then (1, 0) else if n < 17 then (2, n - 1) else (3, n - 17)

/-- A tile's section is kept for SAMEAS and for a restart; one without records leaves its tile empty. -/
def keepSection (s : State) (t : Nat) (body : List Byte) : State :=
  { s with load := { s.load with secs := put [] s.load.secs t body, empty := put 0 s.load.empty t (b2n body.isEmpty) } }

/-- Reads sections `n` and up (R332). -/
def readSections : Nat → State → Nat → Nat → List Byte → Got
  | 0, s, _, _, bs => .ok s bs
  | fuel + 1, s, n, ofs, bs =>
    if bs.length < 8 then .wait
    else
      let u := sectUnit n
      let len := fieldAt bs 4 4
      if fieldAt bs 0 4 ≠ u.1 * 2 ^ 28 + u.2 ∨ len % 4 ≠ 0 ∨ s.load.len < ofs + 8 + len + 16 then .bad ⟨0x78, ofs, n⟩ s
      else
        match readRecords (s.load.len + 600) s u.1 u.2 n true (ofs + 8) none len (bs.drop 8) with
        | .ok s' rest =>
          readSections fuel (if u.1 = 3 then keepSection s' u.2 ((bs.drop 8).take len) else s') (n + 1) (ofs + 8 + len) rest
        | r => r

/-- Checks the hallmark of an image whose first bytes are `bs` (R335). -/
def hallmarkFailure (bs : List Byte) (len : Nat) : Option Failure :=
  let e := len - 16
  if fieldAt bs e 4 ≠ 0x4C4C4148 ∨ fieldAt bs (e + 4) 4 ≠ e ∨ fieldAt bs (e + 12) 4 ≠ 0 then some ⟨0x76, e, noSect⟩
  else if fieldAt bs (e + 8) 4 ≠ crc32c (bs.take e) then some ⟨0x77, e, noSect⟩
  else none

/-- Reads sections and hallmark of an image that has passed its header. -/
def readImage (s : State) (bs : List Byte) : Got :=
  match readSections 273 s 0 256 (bs.drop 256) with
  | .ok s' rest =>
    let at_ := bs.length - rest.length
    if at_ ≠ s.load.len - 16 then .bad ⟨0x78, at_, noSect⟩ s'
    else if bs.length < s.load.len then .wait
    else
      match hallmarkFailure bs s.load.len with
      | some f => .bad f s'
      | none => .ok s' []
  | r => r

end Sys2Proof.Machine
end

