-- ==== Sys2Proof/Machine/Mif.lean ====
section
/-! DEFINITION. The machine interface: analog outputs and inputs, 24 V inputs and outputs (R371 to R378). -/

namespace Sys2Proof.Machine
open Sys2Proof

/-! ### Calibration (R371, R377) -/

/-- The larger of −32,768 and the smaller of 32,767 and `x`. -/
def clamp16 (x : Int) : Int := max (-32768) (min 32767 x)

/-- c' before clamping. -/
def calRaw (c : Int) (gain ofs : Nat) : Int := shiftScale (c * (gain % 65536 : Nat)) (-15) .conv + sext 16 ofs

/-- c' = clamp(conv(c × G / 32,768) + O). -/
def calibrate (c : Int) (gain ofs : Nat) : Int := clamp16 (calRaw c gain ofs)

def half16 (x : Int) : Nat := (x % 65536).toNat

/-- The ranges of R377, by register: `off` is the byte offset in `DCAL`. -/
def calInRange (s : State) (off v : Nat) : Bool :=
  let at_ := fun n => (regAt s pgDCAL (0x240 + 4 * n)).toNat % 65536
  if (0x100 ≤ off ∧ off < 0x140) ∨ (0x180 ≤ off ∧ off < 0x1C0) then decide (29491 ≤ v ∧ v ≤ 36044)
  else if (0x140 ≤ off ∧ off < 0x180) ∨ (0x1C0 ≤ off ∧ off < 0x200) then
    decide (v < 65536) && decide (-1024 ≤ sext 16 v) && decide (sext 16 v ≤ 1023)
  else
    let n := (off - 0x240) / 4
    decide (v < 65536) &&
      (if n < 2 then decide (-2000 ≤ sext 16 v) && decide (sext 16 v ≤ 2000)
       else if n < 6 then
         decide (1000 ≤ v ∧ v ≤ 30000) && (if n % 2 = 0 then decide (at_ (n + 1) < v) else decide (v < at_ (n - 1)))
       else if n = 6 then decide (600 ≤ v ∧ v ≤ 1500) else decide (v = 0))

/-- A write of a calibration value of R377. -/
def calWrite (s : State) (off : Nat) (v : Word) : State :=
  if calInRange s off v.toNat then setRegAt s pgDCAL off v else errCount s pgDCAL

/-! ### Analog outputs (R371 to R373) -/

/-- Converts a code on channel `k`. -/
def dacConvert (s : State) (k c : Nat) : State :=
  let v := half16 (calibrate (sext 16 c) (getF s pgDCAL (DCAL.DAC_GAIN k)) (getF s pgDCAL (DCAL.DAC_OFS k)))
  let s := setF s pgDMIF (DMIF.DAC_CODE_CORR k) v
  setDac s k { dacOf s k with level := v, nextAt := s.age + 250 }

/-- An immediate channel converts its waiting code, at least 2.5 µs after the update before; the SYNC channels of a
segment that their frame start has released move together (R371, R372). -/
def dacUpdate (s : State) (k : Nat) : State :=
  if flagF s pgDMIF (DMIF.DAC_CFG_SYNC k) then
    (if (dacOf s k).due.isSome then
       (List.range 8).foldl (fun s i =>
         let j := anaCh (chSeg k) i
         match (dacOf s j).due with
         | some c => dacConvert (setDac s j { dacOf s j with due := none }) j c
         | none => s) s
     else s)
  else
    match (dacOf s k).waiting with
    | some c => if (dacOf s k).nextAt ≤ s.age then dacConvert (setDac s k { dacOf s k with waiting := none }) k c else s
    | none => s

/-- The disconnect switch of a channel is closed (R339, R373). -/
def dacClosed (s : State) (k : Nat) : Bool := s.outRel && flagF s pgDMIF (DMIF.DAC_CFG_CONN k) && !(dacOf s k).opened

/-- The watchdog of a connected channel (R373). Detail 0 (R501). -/
def dacStale (s : State) (k : Nat) : State :=
  let lim := getF s pgDMIF DMIF.DAC_WD
  if dacClosed s k && decide (lim ≠ 0) && !(flagF s pgDMIF (DMIF.DAC_CFG_STALE k)) &&
      decide ((dacOf s k).loadAt + 100 * lim ≤ s.age) then
    let s := setF s pgDMIF (DMIF.DAC_CFG_STALE k) 1
    let safe := getF s pgDMIF (DMIF.DAC_CFG_SAFE k)
    let s :=
      if safe = 0 then s
      else if safe = 1 then dacConvert s k 0
      else setDac s k { dacOf s k with opened := true }
    raiseEv s pgDMIF 0x4B 0
  else s

/-- A write of `CONN` (R373). The watchdog's time counts anew from a write that closes the switch (log 41). -/
def connWrite (s : State) (k : Nat) (v : Bool) : State :=
  let was := dacClosed s k
  let s := setF s pgDMIF (DMIF.DAC_CFG_CONN k) (b2n v)
  if v then
    let s := if (dacOf s k).opened then setF (setDac s k { dacOf s k with opened := false }) pgDMIF (DMIF.DAC_CFG_STALE k) 0 else s
    if was then s else setDac s k { dacOf s k with loadAt := s.age }
  else s

/-- A write of `DACk_CFG`. -/
def dacCfgWrite (s : State) (k : Nat) (v : Word) : State :=
  connWrite (setF s pgDMIF (DMIF.DAC_CFG_SAFE k) (bitsOf v.toNat 30 29)) k (bitOf v.toNat 31)

/-- Every channel at code 0 as OUT_REL leaves it (R373). -/
def dacRelease (s : State) : State :=
  (List.range 16).foldl (fun s k =>
    setDac s k { Dac.init with
      level := half16 (calibrate 0 (getF s pgDCAL (DCAL.DAC_GAIN k)) (getF s pgDCAL (DCAL.DAC_OFS k))), loadAt := s.age }) s

/-! ### Analog inputs (R374) -/

/-- The least PERIOD × 10 × m + PHASE × 10 above time `t`. -/
def adcAfter (s : State) (t : Nat) : Nat :=
  let l := 10 * max 1 (getF s pgDMIF DMIF.ADC_CFG_PERIOD)
  let ph := 10 * getF s pgDMIF DMIF.ADC_CFG_PHASE
  if t < ph then ph else ph + l * ((t - ph) / l + 1)

/-- A corrected sample as `ADCk_DATA` shows it. -/
def adcWord (s : State) (k : Nat) (raw : Int) : Nat :=
  let g := getF s pgDCAL (DCAL.ADC_GAIN k)
  let o := getF s pgDCAL (DCAL.ADC_OFS k)
  let clip := decide (raw = -32768 ∨ raw = 32767) || decide (calRaw raw g o ≠ calibrate raw g o)
  65536 * b2n clip + half16 (calibrate raw g o)

/-- All inputs sample: `raw` lists the sixteen raw samples. -/
def adcSample (s : State) (raw : List Word) : State :=
  if s.adcNext ≠ 0 ∧ s.adcNext ≤ s.tb.toNat then
    let s := { s with adcNext := adcAfter s s.tb.toNat }
    (List.range 16).foldl (fun s k =>
      { s with adcFly := put [] s.adcFly k (look [] s.adcFly k ++ [(s.age, adcWord s k (sext 16 (raw.getD k 0).toNat))]) }) s
  else s

/-- The oldest sample of a channel is delivered 700 ns after its instant, or discarded. -/
def adcDeliver (s : State) (k : Nat) : State :=
  match look [] s.adcFly k with
  | (a, v) :: rest =>
    if a + 70 ≤ s.age then
      let s := { s with adcFly := put [] s.adcFly k rest }
      if look 0 s.adcVal k = 1 then raiseOpt (incF s pgDMIF DMIF.ADC_OVR 1) pgDMIF 0 0x6D 0
      else { setRegAt s pgDMIF (DMIF.ADC_DATA_SAMPLE k).off (word v) with adcVal := put 0 s.adcVal k 1 }
    else s
  | [] => s

/-! ### 24 V inputs and outputs (R375, R376) -/

/-- The filtered level of input `i` changes; with `EDGE_EN` the change enters the FIFO of 64. -/
def diChange (s : State) (i : Nat) (lvl : Bool) : State :=
  let f : Fld := ⟨DMIF.DI_LEVEL.off, i, i⟩
  if flagF s pgDMIF f = lvl then s
  else
    let s := setF s pgDMIF f (b2n lvl)
    if flagF s pgDMIF (DMIF.DI_CFG_EDGE_EN i) then
      (if s.diQ.length < 64 then { s with diQ := s.diQ ++ [⟨i, lvl, s.tb.toNat⟩] }
       else raiseOpt (incF s pgDMIF DMIF.DI_OVR 1) pgDMIF 0 0x6D 0)
    else s

/-- A read of `DI_EVT`: removes the oldest edge and latches its time. -/
def diPop (s : State) : Word × State :=
  match s.diQ with
  | [] => (0, s)
  | e :: rest =>
    (word (2 ^ 31 + 256 * b2n e.rise + e.input),
     setRegAt (setRegAt { s with diQ := rest } pgDMIF DMIF.DI_TLO.off (word e.time)) pgDMIF DMIF.DI_THI.off (word (e.time / 2 ^ 32)))

/-- A 24 V output is on (R339, R376). -/
def doOn (s : State) (i : Nat) : Bool :=
  s.outRel && flagF s pgDMIF (DMIF.DO_CFG_EN i) && !(bitOf (getF s pgDMIF DMIF.DO_FAULT) i) &&
    flagF s pgDMIF DMIF.MIF_STAT && bzSig s (chSeg i) (bzCells s (chSeg i)) (getF s pgDMIF (DMIF.DO_CFG_SRC i))

/-- A current above `DO_ILIM` turns an output off. -/
def doOverload (s : State) (i : Nat) : State :=
  if doOn s i then raiseEv (setF s pgDMIF ⟨DMIF.DO_FAULT.off, i, i⟩ 1) pgDMIF 0x6E i else s

/-- The field supply is low for 1 ms. -/
def fieldLow (s : State) : State :=
  if flagF s pgDMIF DMIF.MIF_STAT then raiseEv (setF s pgDMIF DMIF.MIF_STAT 0) pgDMIF 0x6E 0xFF else s

/-- The field supply has been back for 1 ms. -/
def fieldRestored (s : State) : State := setF s pgDMIF DMIF.MIF_STAT 1

/-- A write of `DO_FAULT`: each 1 clears its bit. -/
def doFaultClear (s : State) (v : Word) : State :=
  setRegAt s pgDMIF DMIF.DO_FAULT.off (regAt s pgDMIF DMIF.DO_FAULT.off &&& ~~~v)

/-! ### The commands -/

/-- DAC_UPDATE. -/
def execDacUpdate (k : Fin 16) (s : State) : Host.Outcome State Fault Refusal := .next (dacUpdate s k.val)

/-- ANALOG_STALE. -/
def execAnalogStale (k : Fin 16) (s : State) : Host.Outcome State Fault Refusal := .next (dacStale s k.val)

/-- CONN. -/
def execConn (k : Fin 16) (v : Bool) (s : State) : Host.Outcome State Fault Refusal := 
  .next (regCmd pgDMIF (DMIF.DAC_CFG_CONN k.val).off (word (setBits (regAt s pgDMIF (DMIF.DAC_CFG_CONN k.val).off).toNat 31 31 (b2n v))) hostSrc
    (fun s => connWrite s k.val v) s)

/-- ADC_SAMPLE. -/
def execAdcSample (raw : List Word) (s : State) : Host.Outcome State Fault Refusal := .next (adcSample s raw)

/-- ADC_DELIVER. -/
def execAdcDeliver (k : Fin 16) (s : State) : Host.Outcome State Fault Refusal := .next (adcDeliver s k.val)

/-- DI_CHANGE. -/
def execDiChange (i : Fin 32) (lvl : Bool) (s : State) : Host.Outcome State Fault Refusal := .next (diChange s i.val lvl)

/-- DI_EVT. -/
def execDiEvt (s : State) : Host.Outcome State Fault Refusal :=
  let x := diPop s
  .next (setRead x.2 (toBytes 4 x.1.toNat))

/-- OUTPUT_OVERLOAD. -/
def execOutputOverload (i : Fin 16) (s : State) : Host.Outcome State Fault Refusal := .next (doOverload s i.val)

/-- FIELD_LOW. -/
def execFieldLow (s : State) : Host.Outcome State Fault Refusal := .next (fieldLow s)

/-- FIELD_RESTORED. -/
def execFieldRestored (s : State) : Host.Outcome State Fault Refusal := .next (fieldRestored s)

/-- DO_FAULT_CLEAR. -/
def execDoFaultClear (v : Word) (s : State) : Host.Outcome State Fault Refusal := .next (regCmd pgDMIF DMIF.DO_FAULT.off v hostSrc (fun s => doFaultClear s v) s)

end Sys2Proof.Machine
end

