-- ==== Sys2Proof/Machine/Load.lean ====
section
/-! DEFINITION. Loading an image and the start-up phases (R327, R337 to R344, R348 to R350). The phase WR_EN, which
carries out the writes that wait for it, is in `Release`. -/

namespace Sys2Proof.Machine
open Sys2Proof

def modLoad (s : State) (f : LoadE → LoadE) : State := { s with load := f s.load }

/-! ### BOOT and WAITSRC -/

/-- What the boot ROM leaves: the network PLL locked, both memory halves trained, the rails at 800 mV, the calibration
applied; HOLD, or WAITSRC for a source (R327, R337, R448). -/
def bootFrom (s : State) (src : Nat) : State :=
  let s := setF (setF s pgDCLK DCLK.NET_PLL 1) pgMEMC MEMC.STAT_TRAINED 1
  let s := (List.range 16).foldl (fun s r => setF s (pgRCLK r) RCLK.RAIL_MEAS 800) s
  let s := calBoot (setF s pgDCFG DCFG.BOOT_SEL s.flash.slot)
  setLoadState (setF s pgDCFG DCFG.STATUS_SOURCE src) (if 6 ≤ src then 7 else 1)

/-- BOOT with the pins at `m`; a LOAD_CMD before the restart gives another source. -/
def boot (s : State) (m : Nat) : State :=
  if loadState s = 0 ∧ !(dieReset s) then bootFrom (setF s pgDCFG DCFG.PINS_MODE m) (s.load.src.getD m) else s

/-- Registers that a new load leaves alone: identity and power, the event page, the assayers, the host link, the
maintenance page, and of the configuration page all but STATUS, the failure's place and the image's identity. -/
def keptAtLoad (k : Nat) : Bool :=
  let p := k / 1024
  keptReg k || p == pgDEVT || p == pgDPWR || p == 8 || p == 9 || p == pgMSER ||
  (p == pgHPCI && decide (k % 1024 < 0x20)) || (p == pgDCFG && (decide (k % 1024 < 0x10) || decide (0x17 ≤ k % 1024)))

/-- What is kept of a register's word: not what the last image set, but for the configuration page. -/
def keptWord (k : Nat) (w : Word) : Word :=
  match blkOf (k / 1024) with
  | some (.dcfg, _) => w
  | some (b, inst) => if keptReg k then w else w &&& ~~~(word (imgMask b inst (4 * (k % 1024))))
  | none => w

/-- Every unit returns to its state before BOOT (R338); what lies beside the units, such as the events and the host
link, goes on. -/
def unitsReset (s : State) : State :=
  let d := deviceReset s
  { d with
    tb := s.tb, ticks := s.ticks, tbStep := s.tbStep, tbPast := s.tbPast, timeSeen := s.timeSeen, age := s.age
    bezelTemp := s.bezelTemp
    regs := (s.regs.filter fun x => keptAtLoad x.1).foldl (fun m x => put 0 m x.1 (keptWord x.1 x.2))
      (resetRegs.filter fun x => !(keptAtLoad x.1))
    evq := s.evq, evLost := s.evLost, host := s.host, ser := s.ser, power := s.power, recov := s.recov, flash := s.flash
    load := { LoadE.init with calBlock := s.load.calBlock, everRun := s.load.everRun } }

/-- A new load from a source (R340, R350). CFG_ERR_n deasserts. -/
def beginLoad (s : State) (src : Nat) : State :=
  let m := getF s pgDCFG DCFG.PINS_MODE
  bootFrom (setF (setRegAt (unitsReset s) pgDCFG DCFG.PINS_ERR.off 0) pgDCFG DCFG.PINS_MODE m) src

/-- A load stops with a failure; the first load of FLASH mode goes over to the other slot (R338, R340). -/
def loadStop (s : State) (f : Failure) : State :=
  if loadSource s = 0 ∧ !(flagF s pgDCFG DCFG.STATUS_FELLBACK) then
    let slot := getF s pgDCFG DCFG.STATUS_SLOT
    let s := setF (beginLoad s 0) pgDCFG DCFG.STATUS_FELLBACK 1
    setF (setF s pgDCFG DCFG.STATUS_FIRSTCODE f.code) pgDCFG DCFG.STATUS_SLOT (1 - slot)
  else loadFailed s f.code f.ofs f.sect

def fromFlash (s : State) : Bool := decide (loadSource s ≤ 2)

/-- The first byte is there: LOAD begins, with the tile islands on REF (R337, R338). -/
def loadBegin (s : State) : State :=
  if loadState s = 1 ∧ (fromFlash s ∨ !s.loadBuf.isEmpty) then
    let s :=
      if loadSource s = 0 then (if flagF s pgDCFG DCFG.STATUS_FELLBACK then s else setF s pgDCFG DCFG.STATUS_SLOT s.flash.slot)
      else setF s pgDCFG DCFG.STATUS_SLOT (b2n (loadSource s == 2))
    let s := (List.range 256).foldl (fun s t =>
      let p := pgRCLK (t / 16)
      setF (setF s p (RCLK.TILE_CLK_CURSRC (t % 16)) 3) p (RCLK.TILE_CLK_LOCKABLE (t % 16)) 1) s
    modLoad (setLoadState s 2) fun l => { l with begun := s.age, wave := 0, passed := false }
  else s

/-! ### LOAD -/

/-- The tick of bank wave `k` after LOAD began: sixteen of tile banks 2 µs apart, then seventeen of region banks 6 µs
apart (R338). -/
def waveAt (k : Nat) : Nat := if k < 16 then 200 * k else 3200 + 600 * (k - 16)

/-- The next bank wave. Physical bank 16 of a region has no state of its own (R168). -/
def bankWave (s : State) : State :=
  let k := s.load.wave
  if loadState s = 2 ∧ k < 33 ∧ s.load.begun + waveAt k ≤ s.age then
    let s := modLoad s fun l => { l with wave := k + 1 }
    if k < 16 then
      (List.range 16).foldl (fun s r => (List.range 8).foldl (fun s b => setBankState s (16 * r + k) b 2) s) s
    else if k < 32 then (List.range 16).foldl (fun s r => setRbankState s r (k - 16) 2) s
    else s
  else s

/-- The bytes of the image that are there, at most `n`. -/
def imageBytes (s : State) (n : Nat) : List Byte :=
  if fromFlash s then flashBytes s (0xF80000 * getF s pgDCFG DCFG.STATUS_SLOT) (min n 0xF80000) else s.loadBuf.take n

/-- The tile-page registers whose state lives in the tile itself, of tile `t`. -/
def tileHeld (t k : Nat) : Bool :=
  let p := k / 1024
  let o := 4 * (k % 1024)
  decide (p / 4 = 256 + t) &&
    ((p % 4 == 0 && (o == 0xC || o == 0x40 || o == 0x44 || decide (0x50 ≤ o ∧ o < 0x70) || decide (0x80 ≤ o))) ||
     (p % 4 == 1 && decide (0x50 ≤ o ∧ o < 0x60)))

/-- A tile takes the state that its records gave. -/
def takeTile (s : State) (t : Nat) : State :=
  let s := modTile s t fun x => takeSlotSets (takeSeq x fun o => regAt s (pgTSEQ t) o) fun o => regAt s (pgTFCT t) o
  { s with regs := s.regs.filter fun x => !(tileHeld t x.1) }

/-- Every tile that is not empty does. -/
def takeTiles (s : State) : State := (List.range 256).foldl (fun s t => if emptyTile s t then s else takeTile s t) s

/-- The `n` banks of a page take the states that the image gives; a bank that is OFF holds nothing (R161). -/
def imageBanksOf (s : State) (p n : Nat) : State :=
  (List.range n).foldl (fun s b =>
    let v := bitsOf (look 0 s.load.pwr p) (2 * b + 1) (2 * b)
    let s := setAnyBankState s p b v
    if v = 0 then clearRange s (anyBankBase s p b) (anyBankSize p) else s) s

/-- The bank states of the image, after the hallmark has passed: a bank that the image leaves OFF loses its words; the
spare of an enabled region stays ON, and it holds 0 (R334, R338). -/
def imageBanks (s : State) : State :=
  let s := (List.range 16).foldl (fun s r => imageBanksOf s (pgRMEM r) 16) s
  (List.range 256).foldl (fun s t => if redund s && decide (t % 16 = 15) then s else imageBanksOf s (pgTBNK t) 8) s

/-- The hallmark and every check have passed (R338, R341, R344). -/
def loadPassed (s : State) : State :=
  let s := imageBanks s
  let s := setF s 0 DDEV.POSITIONS (if redund s then 240 else 256)
  let s := if loadSource s = 5 then setF s (pgZLNK 0) ZLNK.STAT_STATE 0 else s
  let s := modLoad { s with railsGo := true, loadBuf := [] } fun l => { l with since := s.age, pwr := [], recAt := [] }
  if bitOf s.load.flags 1 then setF (setLoadState s 3) pgDCFG DCFG.PINS_DONEREL 1 else setLoadState s 4

/-- The checks of R336 on an image that has been read. -/
def checkImage (s : State) : State :=
  match singleFailure s with
  | some f => loadStop s f
  | none =>
    match ruleFailure s with
    | some f => loadStop s f
    | none =>
      match loadAllSlots (List.range 256) (takeTiles s) with
      | (some f, s) => loadStop s f
      | (none, s) => loadPassed s

/-- LOAD as far as the bytes that are there go: the header; once every bank is ON, the sections, the hallmark and the
checks (R330 to R338). -/
def loadGo (s : State) : State :=
  if loadState s ≠ 2 then s
  else if !s.load.passed then
    let h := imageBytes s 256
    if h.length < 256 then s
    else match headerFailure h with
      | some f => loadStop s f
      | none => takeHeader s h
  else if s.load.wave < 33 ∨ s.age < s.load.begun + 13400 then s
  else
    match readImage s (imageBytes s s.load.len) with
    | .wait => s
    | .bad f s' => loadStop s' f
    | .ok s' _ => checkImage s'

/-! ### DONEWAIT and the phases (R341 to R344) -/

/-- The CFG_DONE line has read high for two ticks. -/
def doneHigh (s : State) : State :=
  if loadState s = 3 then modLoad (setF (setLoadState s 4) pgDCFG DCFG.PINS_DONELINE 1) fun l => { l with since := s.age } else s

def doneTimeout (s : State) : State :=
  if loadState s = 3 ∧ s.load.doneWait ≠ 0 ∧ s.load.since + 100000 * s.load.doneWait ≤ s.age then loadStop s ⟨0x7D, noOfs, noSect⟩
  else s

/-- The phase that runs. -/
def phaseNow (s : State) : Option Nat :=
  let k := popCount 4 (getF s pgDCFG DCFG.STATUS_PHDONE)
  if loadState s = 4 ∧ k < 4 then some (bitsOf s.load.phases (2 * k + 1) (2 * k)) else none

/-- The last phase has ended: RUN. -/
def enterRun (s : State) : State :=
  let s := setF (setLoadState s 5) pgDCFG DCFG.LOAD_TIME (s.age / 100)
  let s := modLoad s fun l => { l with everRun := true }
  let s := if bitOf s.load.flags 1 then s else setF (setF s pgDCFG DCFG.PINS_DONEREL 1) pgDCFG DCFG.PINS_DONELINE 1
  let s := if flagF s pgDCFG DCFG.STATUS_FELLBACK then raiseEv s pgDCFG (getF s pgDCFG DCFG.STATUS_FIRSTCODE) 0 else s
  if flagF s pgDCAL DCAL.CAL_STAT_DEFAULT then raiseEv s pgDCAL 0x7E 0 else s

def phaseEnd (s : State) (c : Nat) : State :=
  let d := setBits (getF s pgDCFG DCFG.STATUS_PHDONE) c c 1
  let s := modLoad (setF s pgDCFG DCFG.STATUS_PHDONE d) fun l => { l with since := s.age }
  if d = 15 then enterRun s else s

/-- CLK_LOCK begins: every PLL with `EN` = 1 starts, the reference is chosen. -/
def clkBegin (s : State) : State :=
  modLoad (refWrite s (regAt s pgDCLK DCLK.REF_CFG_SEL.off)) fun l => { l with clk := some s.age }

/-- An island moves to its image clock. Those of empty tiles that no running PLL would feed, and of spares that serve
as spare, stay on REF (R334). -/
def islandStart (s : State) (t : Nat) : State :=
  let src := baseSrc s t
  if (redund s && decide (t % 16 = 15)) || (decide (src < 2) && !(pllLocked s (t / 16) src)) then s
  else clkDone (startClk s t src (steppedDiv s t (baseDiv s t))) t

/-- Every PLL has locked: bezel segments and tile islands move to their clocks (R341, R343). -/
def clkAllLocked (s : State) : State :=
  let s := (List.range 32).foldl (fun s i => pllLockNow s (i / 2) (i % 2)) s
  let s := (List.range 4).foldl (fun s g => setF s (pgDBZL g) DBZL.CLK_LOCK 1) s
  phaseEnd ((List.range 256).foldl islandStart s) 0

/-- CLK_LOCK: the first command begins the phase. Then `late` says that 100 µs have passed and a PLL has not locked;
otherwise every PLL has. -/
def clkLock (s : State) (late : Bool) : State :=
  if phaseNow s ≠ some 0 then s
  else
    match s.load.clk with
    | none => clkBegin s
    | some at_ =>
      if late then (if at_ + 10000 ≤ s.age then loadFailed s 0x7C noOfs noSect else s) else clkAllLocked s

/-- OUT_REL: outputs take the values of the image; links leave electrical idle. -/
def outRelease (s : State) : State :=
  if phaseNow s = some 1 then
    let s := { s with outRel := true }
    let s := (List.range 4).foldl (fun s g => modBezel s g fun b => pinInits s g b) s
    let s := (List.range 6).foldl (fun s n => if getF s (pgZLNK n) ZLNK.CFG_MODE = 0 then s else setF s (pgZLNK n) ZLNK.STAT_STATE 1) s
    phaseEnd (dacRelease s) 1
  else s

/-- A tile takes its halt from the image's `CTRL.HALT`. -/
def releaseTile (s : State) (t : Nat) : State :=
  let halt := regAt s (pgTSEQ t) TSEQ.CTRL_HALT.off
  modTile (setRegAt s (pgTSEQ t) TSEQ.CTRL_HALT.off 0) t fun x => { x with halted := decide (halt ≠ 0) }

/-- Tiles whose image does not halt them leave their halt once SR_REL and WR_EN have ended (R342). -/
def releaseTiles (s : State) : State :=
  if s.released && s.writesOpen then (List.range 256).foldl (fun s t => if emptyTile s t then s else releaseTile s t) s else s

/-- The device's ID, where the image gives it (R405). -/
def firstId (s : State) : State :=
  let c := getF s pgDSTR DSTR.ID_CFG_ID
  match idMode s with
  | 0 => takeId s c
  | 1 => takeId s 0
  | 2 => if flagF s pgDSTR DSTR.ID_CFG_SREQ then s else takeId s (c / 64 * 64)
  | _ => s

/-- Starts every entry that the image enables: stream units, link engines, ports, host rings. -/
def startEntries (s : State) : State :=
  let s := (List.range 2048).foldl (fun s k => if epEn s (k / 128) (k % 128) then epStart s (k / 128) (k % 128) else s) s
  let keys := (List.range 704).map fun i => 2048 + i
  let s := keys.foldl (fun s k => if entEn s k then entStart s k else s) s
  (List.range 64).foldl (fun s k => hostPull s (hostKey k)) s

/-- SR_REL: every unit's state is released (R341, R342). -/
def stateRelease (s : State) : State :=
  if phaseNow s = some 2 then
    let s := { s with released := true, nextEpoch := boundaryAfter s s.tb.toNat, adcNext := adcAfter s s.tb.toNat }
    let s := (List.range 4).foldl (fun s g => modBezel s g fun b =>
      { b with ff := initMask (usedCells s g), imgOff := offPins s g, nextFrame := frameAfter s g s.tb.toNat }) s
    let s := (List.range 256).foldl (fun s t =>
      if isProt s t then (List.range 8).foldl (fun s k => setRegAt s (pgTBNK t) (TBNK.DIRTY k).off 0xFFFFFFFF) s else s) s
    let s := timeCfgWrite (firstId s) (regAt s pgDSTR DSTR.TIME_CFG_SRC.off)
    releaseTiles (phaseEnd (startEntries s) 2)
  else s

/-! ### LOAD_DATA, LOAD_CMD, HANDOVER (R337, R349, R350) -/

/-- A write of `LOAD_DATA`. -/
def loadDataWrite (s : State) (v : Word) : State :=
  if loadSource s = 3 ∧ (loadState s = 1 ∨ loadState s = 2) then { s with loadBuf := s.loadBuf ++ toBytes 4 v.toNat } else s

/-- The device restarts, as nRESET does, and then loads from `src`. -/
def restartFrom (s : State) (src : Nat) : State := modLoad (deviceReset s) fun l => { l with src := some src }

def pairUp (s : State) : Bool := pairOn s && flagF s pgDACW DACW.PAIR_STAT_UP

/-- A write of `LOAD_CMD`. -/
def loadCmdWrite (s : State) (v : Word) : State :=
  let src := bitsOf v.toNat 2 0
  if loadState s = 6 ∨ loadState s = 7 then beginLoad s src
  else if loadState s = 5 ∧ bitsOf v.toNat 31 16 = 0x10AD then
    (if pairUp s then modLoad s fun l => { l with handing := some src } else restartFrom s src)
  else errCount s pgDCFG

/-- The handover message for positions: a mask of them, and whether they are yielded (log 34). -/
def handoverPkt (ps : List Nat) (yields : Bool) : Pkt :=
  svcPkt 5 (toBytes 32 (ps.foldl (fun m p => m ||| 2 ^ p) 0) ++ [BitVec.ofNat 8 (b2n yields)])

/-- Before a handover every gathered record of the device's protected positions is written, so that it is mirrored (log 34). -/
def flushAll (s : State) : State :=
  (List.range 256).foldl (fun s p => if isProt s p && !(recovering s p) then drainAll s p else s) s

/-- Step 2 of R349: once the partner has acknowledged every mirrored record, the device sends the handover message and
restarts. Step 4: it halts the positions served for the partner, and yields them by the same message. -/
def handOver (s : State) : State :=
  match s.load.handing with
  | some src =>
    let s := flushAll s
    if !(pairUp s) then restartFrom s src
    else if s.mirror.isEmpty then restartFrom (toPartner s [handoverPkt ((List.range 256).filter (isProt s)) false]) src
    else s
  | none =>
    let y := s.strand.paired
    if y.yields then
      let s := flushAll s
      if s.mirror.isEmpty then
        let s := y.served.foldl (fun s p => match serves s p with | .tile t => haltTile s t | _ => s) s
        modPaired (toPartner s [handoverPkt y.served true]) fun y => { y with yields := false, served := [] }
      else s
    else s

/-- A write of `HANDOVER`: the positions served for the partner go back to it. -/
def handoverWrite (s : State) (v : Word) : State :=
  if bitsOf v.toNat 31 16 ≠ 0x10AD ∨ !(pairUp s) then errCount s pgDCFG
  else if bitOf v.toNat 0 then modPaired s fun y => { y with yields := true }
  else s

/-! ### The commands -/

/-- BOOT: `m` is the level of CFG_MODE[2:0]. -/
def execBoot (m : BitVec 3) (s : State) : Host.Outcome State Fault Refusal := .next (boot s m.toNat)

/-- WAITSRC. -/
def execWaitsrc (s : State) : Host.Outcome State Fault Refusal := .next (loadBegin s)

/-- LOAD. -/
def execLoad (s : State) : Host.Outcome State Fault Refusal := .next (loadGo s)

/-- BANK_WAVE. -/
def execBankWave (s : State) : Host.Outcome State Fault Refusal := .next (bankWave s)

/-- LOAD_DATA. -/
def execLoadData (v : Word) (s : State) : Host.Outcome State Fault Refusal :=
  .next (regCmd pgDCFG (DCFG.LOAD_DATA 0).off v hostSrc (fun s => loadDataWrite s v) s)

/-- DONEWAIT. -/
def execDonewait (s : State) : Host.Outcome State Fault Refusal := .next (doneHigh s)

/-- DONE_TIMEOUT. -/
def execDoneTimeout (s : State) : Host.Outcome State Fault Refusal := .next (doneTimeout s)

/-- CLK_LOCK. -/
def execClkLock (late : Bool) (s : State) : Host.Outcome State Fault Refusal := .next (clkLock s late)

/-- OUT_REL. -/
def execOutRel (s : State) : Host.Outcome State Fault Refusal := .next (outRelease s)

/-- SR_REL. -/
def execSrRel (s : State) : Host.Outcome State Fault Refusal := .next (stateRelease s)

/-- LOAD_CMD. -/
def execLoadCmd (v : Word) (s : State) : Host.Outcome State Fault Refusal :=
  .next (regCmd pgDCFG DCFG.LOAD_CMD_SRC.off v hostSrc (fun s => loadCmdWrite s v) s)

/-- HANDOVER. -/
def execHandover (v : Word) (s : State) : Host.Outcome State Fault Refusal :=
  .next (regCmd pgDCFG DCFG.HANDOVER_GO.off v hostSrc (fun s => handoverWrite s v) s)

end Sys2Proof.Machine
end

