-- ==== Sys2Proof/Machine/Power.lean ====
section
/-! DEFINITION. Module power: rails and phases, power-up and power-fail, the governor, temperature limits, control pins
(R459 to R481). -/

namespace Sys2Proof.Machine
open Sys2Proof

def modPower (s : State) (f : Power → Power) : State := { s with power := f s.power }

def setInWin (s : State) (k v : Nat) : State := setF s pgDPWR (DPWR.RAIL_STAT_INWIN k) v

/-- Number of phases of a rail that have been shed. -/
def phasesLost (s : State) (k : Nat) : Nat := popCount 8 (getF s pgDPWR (DPWR.RAIL_STAT_LOST k))

/-! ### Power-fail and power-up (R461 to R463) -/

/-- A power-fail sequence starts, with its cause. -/
def startFail (s : State) (cause : Nat) : State :=
  if (s.power.up || s.power.rising) && !s.power.failing then
    modPower (setF s pgDPWR DPWR.OFF_CAUSE cause) fun x => { x with failing := true }
  else s

/-- The power-fail sequence (R463): PWR_GOOD goes low, the die is reset and every output disabled, the rails go off. -/
def powerFail (s : State) (stby : Bool) : State :=
  if s.power.failing then
    let cause := getF s pgDPWR DPWR.OFF_CAUSE
    let s := deviceReset s
    let s := (List.range 29).foldl (fun s k => setInWin s k (b2n (stby && k == 1))) s
    modPower s fun x => { x with
      up := false, rising := false, good := false, failing := false, switchOff := cause == 2, stby := stby, offAt := 0 }
  else s

/-- The sequenced power-up begins (R462): every phase takes part again, and OFF_CAUSE lasts if STBY stayed up. -/
def powerUp (s : State) : State :=
  let s := (List.range 29).foldl (fun s k => setF s pgDPWR (DPWR.RAIL_STAT_LOST k) 0) s
  let s := if s.power.stby then s else setF s pgDPWR DPWR.OFF_CAUSE 0
  modPower { s with recov := { s.recov with dead := 0 } } fun x => { x with rising := true, switchOff := false, stby := true }

/-- The module is without power and not coming up. -/
def isOff (s : State) : Bool := !s.power.up && !s.power.rising

/-- Every rail has been in its window for 100 µs: PWR_GOOD is released. -/
def releaseGood (s : State) : State :=
  if s.power.rising ∧ s.power.failing = false then
    let s := (List.range 29).foldl (fun s k => setInWin s k 1) s
    modPower s fun x => { x with rising := false, up := true, good := true }
  else s

/-- A new power-up 1 s after THERMAL, RAIL or CURRENT, once the cause has cleared (R463). -/
def powerRestart (s : State) : State :=
  let cause := getF s pgDPWR DPWR.OFF_CAUSE
  let cool := decide (sext 16 (getF s pgDPWR DPWR.PLATE) ≤ 80 * 16)
  if isOff s && decide (100000000 ≤ s.age) && (cause == 3 || cause == 5 || (cause == 4 && cool)) then powerUp s else s

/-! ### Phases and rails (R460) -/

/-- The supply of an assayer is gone: it asserts its fault line (R313, R459). -/
def assayerDark (s : State) (k : Nat) : State :=
  let a := decide (k = 2)
  { s with recov := { s.recov with
      dead := s.recov.dead ||| (if a then 1 else 2), lineA := s.recov.lineA || a, lineB := s.recov.lineB || !a } }

/-- A phase fails its check and is shed. -/
def shedPhase (s : State) (k phase : Nat) : State :=
  if phase < getF s pgDPWR (DPWR.RAIL_STAT_PHASES k) ∧ bitOf (getF s pgDPWR (DPWR.RAIL_STAT_LOST k)) phase = false then
    let s := setF s pgDPWR ⟨(DPWR.RAIL_STAT_LOST k).off, 16 + phase, 16 + phase⟩ 1
    -- the controller sheds it at once; the assayer notes the fault of its protection group (R263, R299, R309)
    let s := groupFault (noteLog (raiseEv s pgDPWR 0x6C (k * 256 + phase)) 0x6C pgDPWR) pgDPWR (8 * k + phase)
    if 2 ≤ phasesLost s k then
      let s := setF s pgDPWR DPWR.ALERT_PHASE 1
      if k = 2 ∨ k = 3 then assayerDark s k else s
    else s
  else s

/-- A rail has been out of its window for 10 µs. -/
def railOut (s : State) (k : Nat) : State :=
  if s.power.up then
    let s := setInWin s k 0
    if k = 2 ∨ k = 3 then assayerDark s k else startFail s 5
  else s

/-! ### The governor (R465 to R468) -/

/-- CAP as it acts (R465). -/
def capWatts (s : State) : Nat :=
  let c := min 125 (getF s pgDPWR DPWR.GOV_CFG_CAP)
  if 2 ≤ phasesLost s 0 then min 96 c else c

/-- P_lim in mW for an input voltage in mV (R465). -/
def powerLimit (s : State) (mv : Nat) : Nat :=
  let slope := ((72000 * 12000 + ((mv : Int) - 6000) * 53000) / 12000).toNat
  min (1000 * capWatts s) (min slope (12 * mv))

/-- The clock that an island runs at, in units that keep every divider whole: MHz × 24 / divisor. -/
def islandSpeed (s : State) (t : Nat) : Nat :=
  let d := if tileGated s t then clkSwitchOf s t else ⟨curSrc s t, curDiv s t⟩
  srcMHz s (t / 16) d.src * 24 / divOf d.div

/-- The unpinned islands of a set that can still step down. -/
def stepable (s : State) (ts : List Nat) : List Nat :=
  ts.filter fun t => !(clkPinned s t) && decide (baseDiv s t + clkSteps s t < 5) && !(tileRetired s t)

/-- A wave: up to 16 islands of the highest frequency, the highest tile numbers first (R466). -/
def waveOf (s : State) (ts : List Nat) : List Nat :=
  let c := (stepable s ts).filter fun t => !(tileGated s t)
  let top := c.foldl (fun m t => max m (islandSpeed s t)) 0
  ((c.filter fun t => islandSpeed s t == top).reverse).take 16

/-- Moves the governor's count of an island and starts the switch that follows (R244, R467). An island that has been pinned
since keeps its clock; a switch that R244 refuses leaves the count as it is (R248, log 21). -/
def govMove (s : State) (up : Bool) (t : Nat) : State :=
  let g := look 0 s.govG t
  let s' := { s with govG := put 0 s.govG t (if up then g - 1 else g + 1) }
  let c := clkTarget s' t
  if clkPinned s t then s'
  else if clkRefused s' t c.src c.div then refuseAt s (pgRCLK (t / 16)) 0x73 0
  else startClk s' t c.src c.div

/-- Steps a wave of islands down; every step counts (`GOV_STEPS`). -/
def stepDown (s : State) (ts : List Nat) : State :=
  let w := waveOf s ts
  if w.isEmpty then s
  else modPower (incF (w.foldl (fun s t => govMove s false t) s) pgDPWR DPWR.GOV_STEPS w.length) fun x =>
    { x with waves := w :: x.waves }

/-- Reverses the wave stepped last. -/
def stepUp (s : State) : State :=
  match s.power.waves with
  | [] => s
  | w :: ws => modPower (w.foldl (fun s t => govMove s true t) s) fun x => { x with waves := ws }

def regionTemp (s : State) (r : Nat) : Int := sext 16 (getF s (pgRCLK r) RCLK.TEMP)
def tlim (s : State) : Int := 16 * (getF s pgDPWR DPWR.GOV_CFG_TLIM : Int)

/-- A region is beyond its current or temperature limit, with hysteresis `mA` and sixteenths of a degree `dT`. -/
def regionOver (s : State) (r : Nat) (mA : Nat) (dT : Int) : Bool :=
  (decide (2 ≤ phasesLost s (13 + r)) && decide (2700 < getF s pgDPWR (DPWR.RAIL_STAT_MA (13 + r)) + mA)) ||
  (if dT = 0 then decide (tlim s ≤ regionTemp s r) else decide (tlim s < regionTemp s r + dT))

/-- The state that `GOV_STAT` shows after an interval. -/
def govStat (s : State) (lim : Nat) : State :=
  let n := s.govG.length
  let s := setF (setF s pgDPWR DPWR.GOV_STAT_ACTIVE (b2n (decide (0 < n)))) pgDPWR DPWR.GOV_STAT_STEPPED n
  setF s pgDPWR DPWR.GOV_STAT_BUDGET (lim / 100)

/-- What the governor does at the end of an interval with the measured values in their registers (R466, R468). -/
def govern (s : State) : State :=
  let lim := powerLimit s (getF s pgDPWR DPWR.VIN)
  let p := getF s pgDPWR DPWR.PIN
  let hyst := 1000 * max 1 (getF s pgDPWR DPWR.GOV_CFG_HYST)
  let all := List.range 256
  let tooMuch := decide (lim < p)
  let stuck := tooMuch && (stepable s all).isEmpty
  let hots := (List.range 16).filter fun r => regionOver s r 0 0
  let calm := decide (p + hyst ≤ lim) && (List.range 16).all fun r => !(regionOver s r 200 80)
  let s := if tooMuch then stepDown s all else s
  let s := hots.foldl (fun s r => stepDown s ((List.range 16).map fun l => 16 * r + l)) s
  let n := if calm then s.power.calm + 1 else 0
  let s := if 10 ≤ n then stepUp s else s
  let s := modPower s fun x => { x with
    calm := if 10 ≤ n then 0 else n, full := if stuck then (match x.full with | some a => some a | none => some s.age) else none }
  govStat (if tooMuch then s else setF s pgDPWR DPWR.GOV_STAT_EXHAUST 0) lim

/-- A measured value of a list, 0 where it has none. -/
def measured (l : List (BitVec 16)) (k : Nat) : Nat := (l.getD k 0).toNat

/-- The measurements of an interval (R466, R480): excursions that have ended may be reported again. -/
def measure (s : State) (vin iin pin field plate : Nat) (amps temps : List (BitVec 16)) : State :=
  let s := setF (setF (setF s pgDPWR DPWR.VIN vin) pgDPWR DPWR.IIN iin) pgDPWR DPWR.PIN pin
  let s := setF (setF s pgDPWR DPWR.FIELD field) pgDPWR DPWR.PLATE plate
  let s := (List.range 29).foldl (fun s k => setF s pgDPWR (DPWR.RAIL_STAT_MA k) (measured amps k)) s
  let s := (List.range 16).foldl (fun s r => setF s (pgRCLK r) RCLK.TEMP (measured temps r)) s
  let s := { s with bezelTemp := (List.range 4).foldl (fun m d => put 0 m d (measured temps (16 + d))) s.bezelTemp }
  modPower s fun x => { x with
    plateHot := x.plateHot && decide (85 * 16 < sext 16 plate)
    supplyOut := x.supplyOut && (decide (vin < 6000) || decide (40000 < vin))
    hot := (List.range 16).foldl (fun h r => if decide (tlim s ≤ regionTemp s r) then h else setBits h r r 0) x.hot
    hotSince := (List.range 16).foldl (fun m r =>
      if 115 * 16 ≤ regionTemp s r then (if look 0 m r = 0 then put 0 m r (s.age + 1) else m) else put 0 m r 0) x.hotSince }

/-- An interval of 10 µs ends. Islands step only once their state has been released (log 57). -/
def governor (s : State) (vin iin pin field plate : Nat) (amps temps : List (BitVec 16)) : State :=
  if s.power.up ∧ s.power.govNext ≤ s.age then
    whenReleased (fun s => govern (trimChecks s)) (modPower (measure s vin iin pin field plate amps temps) fun x => { x with govNext := s.age + 1000 })
  else s

/-- Excess power with no island left to step, for 1 ms (R468). -/
def exhausted (s : State) : State :=
  match s.power.full with
  | some a =>
    if a + 100000 ≤ s.age ∧ flagF s pgDPWR DPWR.GOV_STAT_EXHAUST = false then
      raiseEv (setF (setF s pgDPWR DPWR.GOV_STAT_EXHAUST 1) pgDPWR DPWR.ALERT_EXHAUST 1) pgDPWR 0x6F 0
    else s
  | none => s

/-! ### Temperatures and the supply range (R461, R469) -/

/-- The plate above 85 °C, regions at TLIM, and a region at 115 °C for 100 µs. -/
def thermal (s : State) : State :=
  if s.power.up then
    let s := if decide (85 * 16 < sext 16 (getF s pgDPWR DPWR.PLATE)) && !s.power.plateHot then
        modPower (raiseEv (setF s pgDPWR DPWR.ALERT_THERMAL 1) pgDPWR 0x60 0xFF) fun x => { x with plateHot := true }
      else s
    let s := (List.range 16).foldl (fun s r =>
      if s.released && decide (tlim s ≤ regionTemp s r) && !(bitOf s.power.hot r) then
        modPower (raiseEv s pgDPWR 0x60 r) fun x => { x with hot := setBits x.hot r r 1 }
      else s) s
    let burn := (List.range 16).any fun r =>
      decide (115 * 16 ≤ regionTemp s r) && look 0 s.power.hotSince r != 0 && decide (look 0 s.power.hotSince r - 1 + 10000 ≤ s.age)
    if burn then startFail s 4 else s
  else s

/-- The input leaves its operating range for 100 µs while running: reported once per excursion. Condition 4 of R294 has failed:
an active assayer says so (R309). -/
def supplyRange (s : State) : State :=
  if s.power.up && !s.power.supplyOut then
    let s := modPower (raiseEv s pgDPWR 0x61 0) fun x => { x with supplyOut := true }
    if (activeAssayer s).isSome then outside s pgDPWR 0 else s
  else s

/-- A write of `ALERT`: FORCE as written, 1s clear the other causes (R480). FAILSTATIC is read only. -/
def alertWrite (s : State) (v : Word) : State :=
  let old := (regAt s pgDPWR DPWR.ALERT_FORCE.off).toNat
  let keep := [1, 2, 3].foldl (fun n b => if bitOf v.toNat b then setBits n b b 0 else n) old
  setRegAt s pgDPWR DPWR.ALERT_FORCE.off (word (setBits keep 4 4 (bitsOf v.toNat 4 4)))

/-- ALERT_n is asserted (R474). -/
def alertAsserted (s : State) : Bool := decide (regAt s pgDPWR DPWR.ALERT_FORCE.off ≠ 0)

/-! ### Commands -/

/-- POWER_ON. -/
def execPowerOn (s : State) : Host.Outcome State Fault Refusal := .next (if isOff s then powerUp s else s)

/-- PWR_GOOD. -/
def execPwrGood (s : State) : Host.Outcome State Fault Refusal := .next (releaseGood s)

/-- NRESET: a low pulse of 10 µs or more, after which nRESET is high again (log 58). -/
def execNreset (s : State) : Host.Outcome State Fault Refusal := .next (deviceReset s)

/-- PWR_GOOD_HELD_LOW: another device takes or releases the line (R474). -/
def execPwrGoodHeldLow (held : Bool) (s : State) : Host.Outcome State Fault Refusal :=
  .next (modPower (if held then deviceReset s else s) fun x => { x with heldLow := held })

/-- UNDERVOLTAGE. -/
def execUndervoltage (s : State) : Host.Outcome State Fault Refusal := .next (startFail s 1)

/-- OVERVOLTAGE. -/
def execOvervoltage (s : State) : Host.Outcome State Fault Refusal := .next (startFail s 2)

/-- SUPPLY_RANGE. -/
def execSupplyRange (s : State) : Host.Outcome State Fault Refusal := .next (supplyRange s)

/-- RAIL_OUT_OF_WINDOW. -/
def execRailOutOfWindow (k : Fin 29) (s : State) : Host.Outcome State Fault Refusal := .next (railOut s k.val)

/-- CURRENT_LIMIT. -/
def execCurrentLimit (s : State) : Host.Outcome State Fault Refusal := .next (startFail s 3)

/-- POWER_FAIL: `stby` says that the input is still above 5.5 V, so that STBY stays up. -/
def execPowerFail (stby : Bool) (s : State) : Host.Outcome State Fault Refusal := .next (powerFail s stby)

/-- POWER_RESTART. -/
def execPowerRestart (s : State) : Host.Outcome State Fault Refusal := .next (powerRestart s)

/-- INPUT_SWITCH_CLOSE. -/
def execInputSwitchClose (s : State) : Host.Outcome State Fault Refusal :=
  .next (if isOff s && s.power.switchOff then powerUp s else s)

/-- PHASE_LOST. -/
def execPhaseLost (k : Fin 29) (phase : Fin 8) (s : State) : Host.Outcome State Fault Refusal := .next (shedPhase s k.val phase.val)

/-- GOVERNOR_INTERVAL: the values measured (mV, mA, mW, mV, 1/16 °C; rail currents in mA; the temperatures of the 16 regions,
then of the four bezel segments). -/
def execGovernorInterval (vin iin : BitVec 16) (pin : BitVec 20) (field plate : BitVec 16) (amps temps : List (BitVec 16))
    (s : State) : Host.Outcome State Fault Refusal :=
  .next (governor s vin.toNat iin.toNat pin.toNat field.toNat plate.toNat amps temps)

/-- POWER_LIMIT. -/
def execPowerLimit (s : State) : Host.Outcome State Fault Refusal := .next (exhausted s)

/-- THERMAL_LIMIT. -/
def execThermalLimit (s : State) : Host.Outcome State Fault Refusal := .next (thermal s)

/-- ALERT_FORCE. -/
def execAlertForce (v : Bool) (s : State) : Host.Outcome State Fault Refusal :=
  .next (regCmd pgDPWR DPWR.ALERT_FORCE.off (word (16 * b2n v)) hostSrc (fun s => alertWrite s (word (16 * b2n v))) s)

end Sys2Proof.Machine
end

