-- ==== Sys2Proof/Machine/Recover.lean ====
section
/-! DEFINITION. Tiles that fail: recovery of a position onto the spare, restart, retirement, lockstep pairs, and the
recovery commands of the host (R283 to R290, R299 to R304, R309 to R311, R318). -/

namespace Sys2Proof.Machine
open Sys2Proof

/-- The region has a spare tile that is free and good. -/
def spareFree (s : State) (r : Nat) : Bool := redund s && !(spareUsed s r) && !(spareBad s r)

def spareOf (pos : Nat) : Nat := 16 * (pos / 16) + 15

/-- The tile that serves a position. -/
def servedBy (s : State) (pos : Nat) : Option Nat :=
  match serves s pos with
  | .tile t => some t
  | _ => none

def logAct (s : State) (kind : Nat) (x : Act) (progress : Nat) : State :=
  logWrite s kind x.action x.step x.code x.host x.sub x.page progress x.detail

/-- Physical tile `t` is retired (`DRCV.TILE_RETn`): it stays halted, its island is gated off (R302), its running paging
command is abandoned (R320), and no predicted retirement of its position waits any longer (R301). -/
def markRetired (s : State) (t : Nat) : State :=
  let pos := posOf s t
  let s := modRecov (modTile s t fun x => { haltNow x with pageRun := none }) fun x => { x with waiting := put 0 x.waiting pos 0 }
  setF s pgDRCV ⟨(DRCV.TILE_RET (t / 32)).off, t % 32, t % 32⟩ 1

/-- The spare serves the position from now on (R302). -/
def mapOnto (s : State) (pos : Nat) : State := setPosByte s (pos / 16) (0x80 + pos % 16)

/-- A capture of the position is given up. -/
def dropCapture (s : State) (pos : Nat) : State :=
  let r := pos / 16
  let s := modProt s pos fun y => { y with capture := none, pendingCut := false }
  let s := setRj s r { rjOf s r with capQ := (rjOf s r).capQ.filter fun q => q != pos }
  setF s (pgRJNL r) (RJNL.LKT_STAT_BUSY (pos % 16)) 0

/-! ### Retirement (R304) -/

/-- The other tile of the position's pair runs on alone for both. -/
def otherRunsOn (s : State) (pos : Nat) : Bool :=
  match pairOf s pos with
  | some y => y.first && y.split == 2
  | none => false

/-- Every stream of a position halts: its eight endpoint entries are disabled (R4, R285, R304; log 86). -/
def haltStreams (s : State) (pos : Nat) : State :=
  (List.range 8).foldl (fun s p => setF s (pgRRTR (pos / 16)) (RRTR.EP_CTL_EN (8 * (pos % 16) + p)) 0) s

/-- The tokens that wait at the outputs of a position pass from the tile `old` to the other tile of its pair. -/
def passOutputs (s : State) (old new : Nat) : State :=
  modTile s new fun x => (List.range 4).foldl (fun x p =>
    setQueue x (13 + p) (queueOf (tileOf s old) (13 + p) ++ queueOf x (13 + p))) x

/-- A tile is retired without replacement: its position's streams halt, its locks are orphaned, and accesses to the position
are refused from now on (R304). Where the other tile of its pair runs on for both (R290), the streams are the pair's and go
on from there. -/
def retireTile (s : State) (pos code : Nat) (host : Bool) : State :=
  match servedBy s pos with
  | none => cmdEnd s host 0
  | some t =>
    let stays := otherRunsOn s pos
    let s := oneStep s 3 code host 0 (pgTSEQ pos) fun s =>
      let s := setAct (dropCapture (modProt s pos fun y => { y with replay := none }) pos) pos none
      let s := match (if stays then (pairOf s pos).bind fun y => servedBy s y.other else none) with
        | some u => passOutputs s t u
        | none => haltStreams s pos
      raiseEv (setF (orphanLocks (markRetired s t) pos) 0 DDEV.POSITIONS (getF s 0 DDEV.POSITIONS - 1)) pgDRCV 0x69 0
    cmdEnd (if isProt s pos && !stays then outside s (pgTSEQ pos) 0 else s) host 0

/-! ### Recovery (R283 to R287) -/

/-- The tokens of a memory-mode output that the tile has emitted and that wait in SOp: their requests are not sent. -/
def unsent (s : State) (t pos d : Nat) : Nat :=
  if 40 ≤ d ∧ epMode s (pos / 16) (8 * (pos % 16) + (d - 40)) = 1 then (queueOf (tileOf s t) (13 + (d - 40))).length else 0

/-- Step 1: the tile halts, its paging command is abandoned (R320), its emit counts are latched; from here on accesses to the
position wait, and a boundary that waited for the tile is not taken (R284). With `mate`, the spare will follow the other tile
of the pair. -/
def startRecover (s : State) (pos code : Nat) (host : Bool) (mate : Option Nat) : State :=
  match servedBy s pos with
  | none => s
  | some t =>
    let x : Act :=
      ⟨1, 1, code, host, 0, pgTSEQ pos, false, (mate.map fun m => look 0 s.lockets m).getD 0, detailAt s code (pgTSEQ pos), false⟩
    let s := setAct (logAct s lkIntent x 0) pos (some x)
    let p := protOf s pos
    let latched := p.emitted.foldl (fun m e => put 0 m e.1 (e.2 - unsent s t pos e.1)) []
    let s := incF (modTile s t fun x => { haltNow x with pageRun := none }) pgDACW DACW.REPLAYS 1
    let s := modRecov s fun y => { y with waiting := put 0 y.waiting pos 0 }
    let s := if mate.isSome then dropCapture s pos else s
    modProt s pos fun y => { y with
      pendingCut := false
      latched := if mate.isSome then [] else latched
      replay := some { Replay.init with haltAt := (tileOf s t).retired.toNat, inHalt := if mate.isSome then [] else p.inPos, mate := mate } }

/-- The recovery stops: the spare is halted, and the streams of the position (R285). -/
def replayBroken (s : State) (pos : Nat) : State :=
  let s := haltStreams (raiseEv s (pgRJNL (pos / 16)) 0x3D 0) pos
  let host := (actOf s pos).any fun x => x.host
  let s := match servedBy s pos with | some t => haltTile s t | none => s
  let s := modProt (setAct s pos none) pos fun y => { y with replay := none }
  cmdEnd (outside s (pgTSEQ pos) 0) host 0x3D

/-- Bytes 0x40 to 0x20FF of a half's state area, and its header. -/
def areaHead (s : State) (pos h : Nat) : List Byte := memBytes s (stateArea s pos h) 64

/-- A half's header: valid, with a correct CRC over header and block (R279, R280). -/
def halfValid (s : State) (pos h : Nat) : Bool :=
  let hd := areaHead s pos h
  bitOf (fieldAt hd 8 4) 31 &&
    fieldAt hd 60 4 == crc32c (hd.take 60 ++ memBytes s (stateArea s pos h + 0x40) 0x20C0)

def halfEpoch (s : State) (pos h : Nat) : Nat := fieldAt (areaHead s pos h) 0 6

/-- The half that a restore takes. -/
def chosenHalf (s : State) (pos : Nat) : Option Nat :=
  let a := halfValid s pos 0
  let b := halfValid s pos 1
  if a && (!b || decide (halfEpoch s pos 1 < halfEpoch s pos 0)) then some 0 else if b then some 1 else none

/-- The position whose locket and log a recovery takes: its own, that of the other tile of its pair, or the partner
device's. -/
def sourceOf (s : State) (pos : Nat) : Nat := ((protOf s pos).replay.bind fun x => x.mate.orElse fun _ => x.far).getD pos

/-- The position takes over one of the partner device, from the mirror (R293). -/
def takesOver (s : State) (pos : Nat) : Bool := (protOf s pos).replay.any fun x => x.far.isSome

/-- Where a recovery reads its locket: module memory, or the mirror kept for the partner (R293). -/
def locketView (s : State) (pos : Nat) : State :=
  if takesOver s pos then { s with mem := s.strand.paired.lkt, marks := s.strand.paired.bad } else s

/-- The tile that a recovery brings up: the spare, or for a position of the partner the standby's own (R293). -/
def targetOf (s : State) (pos : Nat) : Nat := if takesOver s pos then (servedBy s pos).getD (spareOf pos) else spareOf pos

/-- One page of a locket, as `v` holds it, into tile `sp`; a word that reads bad makes both its tile words poisoned. -/
def copyPage (v s : State) (src h sp p : Nat) : State :=
  let a := pageSlot v src h p
  let d := bankAddr sp (256 * p)
  let s := setBytes s d (memBytes v a 1024)
  (List.range 128).foldl (fun s i =>
    if isBad (markCode (markAt v (a + 8 * i))) then setMark (setMark s (d + 8 * i) .poison) (d + 8 * i + 4) .poison else s) s

/-- The registers of a tile's four pages pass to the spare's. -/
def copyPages (s : State) (old sp : Nat) : State :=
  let mine := s.regs.filter fun x => decide (x.1 / 4096 = 256 + old)
  let rest := s.regs.filter fun x => decide (x.1 / 4096 ≠ 256 + sp)
  { s with regs := mine.foldl (fun m x => put 0 m (x.1 % 4096 + 4096 * (256 + sp)) x.2) rest }

/-- The spare's island takes the clock of the tile that it replaces. -/
def copyClock (s : State) (old sp : Nat) : State :=
  let p := pgRCLK (sp / 16)
  let s := setF s p (RCLK.TILE_CLK_SRC (sp % 16)) (baseSrc s old)
  let s := setF s p (RCLK.TILE_CLK_DIV (sp % 16)) (baseDiv s old)
  let s := setF s p (RCLK.TILE_CLK_PIN (sp % 16)) (b2n (clkPinned s old))
  let src := if tileGated s old then (clkSwitchOf s old).src else curSrc s old
  clkDone (startClk s sp src (steppedDiv s sp (baseDiv s old))) sp

/-- Restores out-endpoint `p` of a position from the locket's words: its `SEQ`, and the credits of the tokens that it
had taken and not sent, which the replay emits again (R287). -/
def restoreEnd (s : State) (pos : Nat) (f : Nat → Word) (p : Nat) : State :=
  let r := pos / 16
  let k := 8 * (pos % 16) + p
  if epMode s r k = 1 then s
  else
    let o := (RRTR.EP_SEQ k).off
    let e := endOf s (128 * r + k)
    let s := setRegAt s (pgRRTR r) o (f (0x2080 + (o - (0x800 + 0x80 * (pos % 16)))))
    setEnd (setF s (pgRRTR r) (RRTR.EP_CRED_COUNT k) (epCount s r k + e.held.length)) (128 * r + k) { e with held := [] }

/-- Step 4: state area and pages into the spare, with the tile's page registers and its clock. The assayer's writes set every
dirty bit (R157). -/
def copyStep (s : State) (pos h : Nat) : State :=
  match servedBy s pos with
  | none => s
  | some old =>
    let sp := targetOf s pos
    let src := sourceOf s pos
    let v := locketView s pos
    let a := stateArea v src h
    let f := fun (o : Nat) => memWord v (a + o)
    let map := fieldAt (areaHead v src h) 16 32
    let far := takesOver s pos
    let hid := if far then Hid.init else look Hid.init s.lockHid src
    let s := clearRange s (bankAddr sp 0) 0x40000
    let s := (List.range 256).foldl (fun s p => copyPage v s src (b2n (bitOf map p)) sp p) s
    let s := if far then s else copyClock (copyPages s old sp) old sp
    let s := (List.range 8).foldl (fun s i => setRegAt s (pgTSCH sp) (0x50 + 4 * i) (f (0x1A10 + 4 * i))) s
    let s := (List.range 64).foldl (fun s n => setRegAt s (pgTSCH sp) (0x100 + 4 * n) (f (0x1B00 + 4 * n) &&& 0xB000FFFF)) s
    let s := (List.range 8).foldl (fun s n => setRegAt s (pgTBNK sp) (TBNK.DIRTY n).off 0xFFFFFFFF) s
    let s := setF s (pgTBNK sp) TBNK.PWR_STATE (f 0x2050).toNat
    let x := takeBlock hid.tile f
    let x := (List.range 4).foldl (fun x p => setQueue x (13 + p) (look [] hid.held p ++ queueOf x (13 + p))) x
    let s := setTile s sp { haltNow x with pageRun := none, pageQ := [] }
    if src = pos ∨ far then (List.range 4).foldl (fun s p => restoreEnd s pos f p) s else s

/-- Step 5: each recorded set is paged into its slot from the restored store, and then the paging queue is restored (R53).
R53 does not say what a set that reads bad or that R52 refuses does here; it goes into its slot as it reads (DESIGN CHOICE,
log 89). -/
def slotsStep (s : State) (pos h : Nat) : State :=
  let sp := targetOf s pos
  let v := locketView s pos
  let a := stateArea v (sourceOf s pos) h
  let s := (List.range 16).foldl (fun s n =>
    let set := look 0 (tileOf s sp).slotSet n
    let r := readSet s sp set
    modTile r.2 sp fun x => fillSlot x set n r.1.words) s
  modTile s sp fun x => { x with pageQ := blockQueue fun o => memWord v (a + o) }

/-- Step 6: the position maps onto the spare. A spare that follows its pair's other tile takes over the tokens that wait
for their credits at the position's outputs. -/
def mapStep (s : State) (pos : Nat) : State :=
  match (if takesOver s pos then none else servedBy s pos) with
  | none => s
  | some old =>
    let sp := spareOf pos
    let s := if sourceOf s pos = pos then s else
      modTile s sp fun x => (List.range 4).foldl (fun x p => setQueue x (13 + p) (queueOf (tileOf s old) (13 + p))) x
    mapOnto (markRetired s old) pos

/-! ### Reading the journal (R268 to R274, R284) -/

/-- The tokens of a TOKENS record's words. -/
def recToks (ws : List Nat) (n : Nat) : List Tok :=
  (List.range n).map fun i => tokOf (word (ws.getD (2 + i) 0)) (bitsOf (ws.getD (14 + i / 8) 0) (4 * (i % 8) + 3) (4 * (i % 8)))

/-- A log entry from its four words. -/
def entryOf (a b c d : Nat) : LogE :=
  let k := match bitsOf a 31 28 with
    | 1 => LogKind.switch
    | 2 => .time
    | 3 => .waitev
    | 4 => .commit
    | _ => .extwr
  ⟨k, bitOf a 27, bitsOf a 26 25, bitsOf a 24 21, bitsOf a 15 0, word b, word c, d / 256, d % 256⟩

/-- What a record gives to a replay: local tile, epoch (16 bits), input and place of its first token, tokens, entries. -/
structure RecData where
  tile  : Nat
  epoch : Nat
  input : Nat
  at_   : Nat
  toks  : List Tok
  ents  : List LogE
  deriving DecidableEq, Repr

def recData (ws : List Nat) : RecData :=
  let w := ws.getD 0 0
  let n := bitsOf w 19 16
  if w / 2 ^ 28 = 1 then ⟨bitsOf w 27 24, bitsOf w 15 0, bitsOf w 23 20, ws.getD 1 0, recToks ws n, []⟩
  else ⟨bitsOf w 27 24, bitsOf w 15 0, 0, 0, [], (List.range n).map fun i =>
    entryOf (ws.getD (4 + 4 * i) 0) (ws.getD (5 + 4 * i) 0) (ws.getD (6 + 4 * i) 0) (ws.getD (7 + 4 * i) 0)⟩

/-- A gather buffer gives the same. -/
def bufData (l : Nat) : GatherData → RecData
  | .toks ep i p ts => ⟨l, ep % 65536, i, p, ts, []⟩
  | .logs ep es => ⟨l, ep % 65536, 0, 0, [], es⟩

/-- Indices of the records of a region's ring from index `j` on. -/
def ringSpan (s : State) (r j : Nat) : List Nat :=
  let p := pgRJNL r
  let size := max 1 (getF s p RJNL.JSIZE)
  let n := if j = getF s p RJNL.JTAIL then getF s p RJNL.JFILL else (getF s p RJNL.JHEAD + size - j % size) % size
  (List.range n).map fun i => (j + i) % size

/-- The records of a region's ring from index `j` on; `none` when one of them reads bad, or its bank refuses the read (R162,
R169, R285). -/
def ringFrom (s : State) (r j : Nat) : Option (List RecData) :=
  (ringSpan s r j).foldr (fun i rest =>
    match rest, recordAddr s r i with
    | some l, some a =>
      if placeRefusal s (recordPlace s r i) != 0 || (List.range 16).any fun w => isBad (markCode (markAt s (a + 4 * w))) then none
      else some (recData ((List.range 16).map fun w => (memWord s (a + 4 * w)).toNat) :: l)
    | _, _ => none) (some [])

/-- Those reads are checked reads (R146, R147). -/
def ringNotes (s : State) (r j : Nat) : State :=
  (ringSpan s r j).foldl (fun s i =>
    match recordAddr s r i with
    | some a => (List.range 16).foldl (fun s w => eccNote s (.rmem r ((a + 4 * w) % 0x200000)) (a + 4 * w) (a + 4 * w)) s
    | none => s) s

/-- Counts retired in the epochs that ended between a locket's cut (epoch `e`) and epoch `upTo`. -/
def spanCount (m : SMap Nat) (e upTo : Nat) : Nat :=
  m.foldl (fun n x => if e ≤ x.1 ∧ x.1 < upTo then n + x.2 else n) 0

/-- Step 7: what the replay feeds and obeys; the spare starts. -/
def startStep (s : State) (pos h : Nat) : State :=
  let r := pos / 16
  let src := sourceOf s pos
  let lead := match pairOf s pos with
    | some y => if y.first then pos else y.other
    | none => pos
  let hd := areaHead s src h
  let jpos := bitsOf (fieldAt hd 12 4) 14 0
  let got := ringFrom s r jpos
  let s := ringNotes s r jpos
  match got, (protOf s pos).replay with
  | some recs, some x =>
    let e0 := halfEpoch s src h
    let now := (protOf s src).epoch
    let all := recs ++ ((protOf s lead).bufs.map fun g => bufData (lead % 16) g.data).filter (fun d => d.ents.isEmpty) ++
      ((protOf s src).bufs.map fun g => bufData (src % 16) g.data).filter (fun d => d.toks.isEmpty)
    let toksOf := fun (d : RecData) =>
      if x.mate.isNone && d.epoch == now % 65536 then d.toks.take (look 0 x.inHalt d.input - d.at_) else d.toks
    let feed : SMap (List Tok) := (all.filter fun d => d.tile == lead % 16 && d.ents.isEmpty).foldl
      (fun m d => put [] m d.input (look [] m d.input ++ toksOf d)) []
    let before := fun (d : RecData) =>
      if x.mate.isSome then spanCount x.inHalt e0 (e0 + (d.epoch + 65536 - e0 % 65536) % 65536)
      else if d.epoch == now % 65536 then x.base else 0
    let ents := (all.filter fun d => d.tile == src % 16 && d.toks.isEmpty).flatMap fun d =>
      d.ents.map fun e => { e with retired := e.retired + word (before d) }
    let base := if x.mate.isSome then spanCount x.inHalt e0 now else x.base
    let live := if x.mate.isSome then [] else x.live
    let s := modProt s pos fun y => { y with
      emitted := [], replay := some { x with feed := feed, entries := ents, base := base, live := live, going := true } }
    modTile s (spareOf pos) fun t => { t with halted := bitOf (memWord s (stateArea s src h + 0x1530)).toNat 31 }
  | _, _ => replayBroken s pos

/-! ### The steps (R283, R310, R311) -/

/-- Step 7 for a position of the partner device: the tokens and log entries of its mirrored records from its locket's cut on
(R293). -/
def startFarStep (s : State) (pos h : Nat) : State :=
  match (protOf s pos).replay with
  | some x =>
    let p := sourceOf s pos
    let v := locketView s pos
    let e0 := halfEpoch v p h
    let all := ((s.strand.paired.recs.filter fun y => y.1 == p / 16).map fun y => recData (y.2.map BitVec.toNat)).filter fun d =>
      d.tile == p % 16 && decide ((d.epoch + 65536 - e0 % 65536) % 65536 < 32768)
    let feed : SMap (List Tok) := (all.filter fun d => d.ents.isEmpty).foldl
      (fun m d => put [] m d.input (look [] m d.input ++ d.toks)) []
    let s := modProt s pos fun y => { y with
      emitted := [], replay := some { x with feed := feed, entries := all.flatMap fun d => d.ents, going := true } }
    modTile s (targetOf s pos) fun t => { t with halted := bitOf (memWord v (stateArea v p h + 0x1530)).toNat 31 }
  | none => s

/-- What a step does when it starts. -/
def performStep (s : State) (pos step : Nat) : State :=
  if step < 3 then s
  else
    match chosenHalf (locketView s pos) (sourceOf s pos) with
    | none => replayBroken s pos
    | some h =>
      match step with
      | 4 => copyStep s pos h
      | 5 => slotsStep s pos h
      | 6 => mapStep s pos
      | 7 => if takesOver s pos then startFarStep s pos h else startStep s pos h
      | _ => s

/-- A capture cannot commit because a bank with a page that it has to write is not ON (R283). -/
def captureStuck (s : State) (pos t : Nat) : Bool :=
  match (protOf s pos).capture with
  | some c => !c.headerOut && c.shadow.dirty.any fun p => !(bankOn s t (256 * p))
  | none => false

/-- The capture is given up: the span of the replay goes back to the cut before (R283, R286). -/
def useOlder (s : State) (pos t : Nat) (x : Act) : State :=
  match (protOf s pos).capture, (protOf s pos).replay with
  | some c, some y =>
    let sh := c.shadow
    let s := raiseEv s (pgTSEQ pos) 0x22 pos
    let latched := sh.emitted.foldl (fun m e => put 0 m e.1 (look 0 m e.1 + e.2)) (protOf s pos).latched
    let s := dropCapture s pos
    -- pages that were dirty at the cut are dirty still
    let s := sh.dirty.foldl (fun s p => setDirty s t (256 * p)) s
    setAct (modProt s pos fun z => { z with
      latched := latched, replay := some { y with base := sh.retired, haltAt := y.haltAt + sh.retired } }) pos (some { x with older := true })
  | _, _ => s

/-- Another maintenance activity holds a bank of either tile (R320). -/
def migrationWaits (s : State) (old sp : Nat) : Bool :=
  [old, sp].any fun t => tileBankTrans s t || (List.range 8).any fun b => polishing s (pgTBNK t) b

/-- The running step is done and the next may start. -/
def stepReady (s : State) (pos t : Nat) (x : Act) : Bool :=
  match x.step with
  | 2 =>
    (match (protOf s pos).replay.bind fun y => y.mate with
     | some m => decide (x.epoch < look 0 s.lockets m)
     | none => (protOf s pos).capture.isNone)
  | 3 => !(migrationWaits s t (targetOf s pos))
  | _ => true

/-- A logged step is performed. A copy step writes its PART entries. -/
def goStep (s : State) (pos : Nat) (x : Act) : State :=
  let x := { x with held := false }
  let s := performStep (setAct s pos (some x)) pos x.step
  if x.step = 4 then (List.range 17).foldl (fun s k => logAct s lkPart x (16384 * (k + 1))) s else s

/-- The running step ends, and the next starts. Steps 3, 4, 5 and 7 read or write memory or pages: while the network is down
they stay logged as INTENT (R298). -/
def nextStep (s : State) (pos : Nat) (x : Act) : State :=
  let s := logAct s lkDone x 0
  if x.step = 7 then cmdEnd (setAct s pos none) x.host 0
  else
    let y := { x with step := x.step + 1 }
    let s := logAct s lkIntent y 0
    if !(netUp s) && (y.step == 3 || y.step == 4 || y.step == 5 || y.step == 7) then setAct s pos (some { y with held := true })
    else goStep s pos y

def stepDone (s : State) (pos : Nat) : State :=
  match (actOf s pos).filter (fun x => x.action == 1), servedBy s pos with
  | some x, some t =>
    if !(mayAct s x.host) then s
    else if x.held then (if netUp s then goStep s pos x else s)
    else if x.step = 2 && captureStuck s pos t then
      (let s := useOlder s pos t x
       match actOf s pos with
       | some x => nextStep s pos x
       | none => s)
    else if stepReady s pos t x then nextStep s pos x
    else s
  | _, _ => s

/-- The pair is one again, with empty comparators. -/
def joinPair (s : State) (pos : Nat) : State :=
  match pairOf s pos with
  | some y =>
    let j := rjOf s (pos / 16)
    let mine (x : Nat × List Tok) : Bool := decide (x.1 / 64 ≠ y.n)
    setRj s (pos / 16) { j with split := put 0 j.split y.n 0, cmpA := j.cmpA.filter mine, cmpB := j.cmpB.filter mine }
  | none => s

/-- The tile of a position stalls on an input: the instruction at its program counter lacks a token (R290). -/
def stallsOnInput (s : State) (pos : Nat) : Bool :=
  match servedBy s pos with
  | some t =>
    let w := dueWord s t
    (match legalOp (tileOf s t) w with
     | some op => !(tileOf s t).halted && (tileOf s t).wait.isNone && cycleStall s t op (bitOf w.toNat 25) (bitsOf w.toNat 24 21) == .empty
     | none => false)
  | none => false

/-- The spare has reached the count: it takes live tokens (R284), or, where the survivor stalls on an input, the pair is one
again (R290). -/
def replayEnded (s : State) (pos : Nat) : State :=
  match (protOf s pos).replay, servedBy s pos with
  | some x, some t =>
    let n := (tileOf s t).retired
    if x.going && replayAtEnd s t x && x.mate.all (stallsOnInput s) then
      let s := replayWrites 64 (replayWrites 64 s t n false) t n true
      let s := (List.range 12).foldl (fun s q =>
        let more := look [] x.feed q ++ look [] x.live q
        let s := more.foldl (fun s k => tapTrace s pos q k) s
        modTile s t fun y =>
          let y := setQueue y q (queueOf y q ++ more)
          if more.any Tok.late then pulse y 39 else y) s
      let s := modTile s t fun y => { y with retired := n - word x.base }
      let s := modProt s pos fun y => { y with replay := none, horizon := s.arrivals }
      servePorts (if x.mate.isSome then joinPair s pos else s) pos
    else s
  | _, _ => s

/-! ### Restart (R288) -/

/-- An unprotected position starts anew on the spare, from its tile section. While the network is down the halted tile waits
(R298). -/
def restartTile (s : State) (pos code : Nat) (host : Bool) : State :=
  match servedBy s pos with
  | none => cmdEnd s host 0
  | some old =>
    let sp := spareOf pos
    let s := netStep s pos 2 code host 0 (pgTSEQ pos) fun s =>
      let s := mapOnto (markRetired s old) pos
      let s := copyClock s old sp
      let s := clearRange { s with regs := s.regs.filter fun x => decide (x.1 / 4096 ≠ 256 + sp) } (bankAddr sp 0) 0x40000
      let body := look [] s.load.secs pos
      let s := setTile s sp Tile.init
      let s := match readRecords (s.load.len + 600) s 3 sp 0 true 0 none body.length body with
        | .ok s _ => s
        | .bad _ s => s
        | .wait => s
      let s := (loadSlots 16 (takeTile s sp) sp 0).2
      let s := imageBanksOf s (pgTBNK sp) 8
      let s := releaseTile s sp
      servePorts (modLoad s fun l => { l with pwr := [], recAt := [] }) pos
    if (actOf s pos).isSome then haltTile s old else cmdEnd s host 0

/-! ### Positions of the partner device (R293, R349) -/

/-- Standby position `q` takes over position `p` of the partner device, from the mirror. -/
def startFar (s : State) (q p : Nat) : State :=
  match servedBy s q with
  | some t =>
    if recovering s q || !(isProt s q) then s
    else
      let x : Act := ⟨1, 1, 0x3C, false, 0, pgTSEQ q, false, 0, 0, false⟩
      let s := setAct (logAct s lkIntent x 0) q (some x)
      let s := incF (modTile s t fun x => { haltNow x with pageRun := none }) pgDACW DACW.REPLAYS 1
      let s := modPaired (dropCapture s q) fun y => { y with served := y.served.filter (· != q) ++ [q] }
      modProt s q fun y => { y with latched := [], bufs := [], replay := some { Replay.init with far := some p } }
  | none => s

/-- The partner's position `p` has a whole locket in the mirror. -/
def mirrorHolds (s : State) (p : Nat) : Bool :=
  (chosenHalf { s with mem := s.strand.paired.lkt, marks := s.strand.paired.bad } p).isSome

/-- Every position of a mask that has a locket in the mirror goes onto the standby that the image reserves for it. -/
def restoreFrom (s : State) (mask : Nat) : State :=
  (List.range 256).foldl (fun s p => if bitOf mask p && mirrorHolds s p then startFar s (Config.standby p % 256) p else s) s

/-- PAIR_LOST: the partner is lost, and each of its protected positions is recovered here (R293). -/
def partnerLost (s : State) : State :=
  let t := pairLost s
  if flagF s pgDACW DACW.PAIR_STAT_LOST || !(flagF t pgDACW DACW.PAIR_STAT_LOST) then t else restoreFrom t (2 ^ 256 - 1)

/-- A handover message of the partner's is acted on: its positions are recovered here, or those that it yields are restored
(R349). Positions restored are this device's own. A message that no packet brought is one for every position (log 34). -/
def handoverTaken (s : State) : State :=
  if pairOn s then
    let m := s.strand.paired.message.getD (2 ^ 256 - 1, false)
    let s := restoreFrom (modPaired s fun y => { y with message := none }) m.1
    if m.2 then modPaired s fun y => { y with served := [] } else s
  else s

/-! ### Faults (R290, R299, R303, R309) -/

/-- The tile of a position is retired: recovered, restarted, or, with no spare, gone. -/
def moveOn (s : State) (pos code : Nat) (host : Bool) : State :=
  if spareFree s (pos / 16) then
    (if isProt s pos then startRecover s pos code host none else restartTile s pos code host)
  else retireTile s pos code host

/-- The tokens that one tile of a pair has waiting in the comparator go out (R290). -/
def drainSide (s : State) (a n : Nat) (first : Bool) : State :=
  (List.range 12).foldl (fun s i =>
    let d := 32 + i
    let j := rjOf s (a / 16)
    let ts := look [] (if first then j.cmpA else j.cmpB) (64 * n + d)
    let s := setRj s (a / 16) { j with cmpA := put [] j.cmpA (64 * n + d) [], cmpB := put [] j.cmpB (64 * n + d) [] }
    ts.foldl (fun s k => deliverOut s a d k) s) s

def setSplit (s : State) (r n v : Nat) : State := let j := rjOf s r; setRj s r { j with split := put 0 j.split n v }

/-- One tile of a pair is out: the other runs on alone, and the spare is to follow it. -/
def pairFault (s : State) (pos : Nat) (y : InPair) (code : Nat) (host : Bool) : State :=
  let lead := if y.first then pos else y.other
  let s := drainSide (setSplit s (pos / 16) y.n (if y.first then 2 else 1)) lead y.n (!y.first)
  let s := match servedBy s pos with | some t => haltTile s t | none => s
  if spareFree s (pos / 16) then startRecover s pos code host (some y.other) else retireTile s pos code host

/-- A hardware fault of physical tile `t` (R299). -/
def tileFail (s : State) (t code : Nat) : State :=
  let pos := posOf s t
  let page := pgTSEQ pos
  if redund s && decide (t % 16 = 15) && !(spareUsed s (t / 16)) && (activeAssayer s).isSome then
    noteLog (raiseEv (setPosByte s (t / 16) 0x40) pgDRCV 0x28 0) 0x28 page
  else if servedBy s pos ≠ some t then s
  else if (activeAssayer s).isNone then haltTile s t
  else
    let s := groupFault s page 0
    match pairOf s pos with
    | some y => if y.split = 0 then pairFault s pos y code false else if recovering s pos then s else moveOn s pos code false
    | none => if recovering s pos then retireTile s pos code false else moveOn s pos code false

/-- Two tokens of a pair differ at some output. -/
def pairDiffers (s : State) (r n : Nat) : Bool :=
  let j := rjOf s r
  (List.range 12).any fun i =>
    match look [] j.cmpA (64 * n + 32 + i), look [] j.cmpB (64 * n + 32 + i) with
    | a :: _, b :: _ => a != b
    | _, _ => false

/-- The comparator of pair `n` withholds differing tokens; `okA` and `okB` are the results of the self-checks. -/
def pairMismatch (s : State) (r n : Nat) (okA okB : Bool) : State :=
  let p := pgRJNL r
  let a := 16 * r + getF s p (RJNL.LSTEP_FIRST n)
  let b := 16 * r + getF s p (RJNL.LSTEP_SECOND n)
  if !(flagF s p (RJNL.LSTEP_EN n)) || look 0 (rjOf s r).split n ≠ 0 || !(pairDiffers s r n) then s
  else
    let s0 := s
    let both := fun (s : State) => [a, b].foldl (fun s q => match servedBy s q with | some t => haltTile s t | none => s) s
    let s := setSplit (both (raiseEv s p 0x27 0)) r n 3
    let resume := fun (s : State) (q : Nat) =>
      match servedBy s q with
      | some t => modTile s t fun x => { x with halted := (tileOf s0 t).halted }
      | none => s
    if (activeAssayer s).isNone then s
    else if okA && !okB then pairFault (resume (groupFault s (pgTSEQ b) 0) a) b ⟨n, a, false, 3⟩ 0x27 false
    else if okB && !okA then pairFault (resume (groupFault s (pgTSEQ a) 0) b) a ⟨n, b, true, 3⟩ 0x27 false
    else
      let s := setSplit (joinPair s a) r n 1
      moveOn (retireTile (groupFault s (pgTSEQ a) 0) b 0x27 false) a 0x27 false

/-- The patterns that the self-check leaves in the spare's banks: free values (R303, log 2). -/
def sparePatterns (s : State) (r : Nat) : State :=
  let a := bankAddr (16 * r + 15) 0
  let n := s.free
  let s := { s with free := n + 65536, marks := (clearRange s a 0x40000).marks }
  (List.range 65536).foldl (fun s i => setWord s (a + 4 * i) (word (Config.freeNat (n + i)))) s

/-- The self-check of a region's unused spare ends (R303). -/
def spareChecked (s : State) (r : Nat) (pass : Bool) : State :=
  if (activeAssayer s).isNone || !(spareFree s r) then s
  else if pass then sparePatterns s r
  else
    let s := sparePatterns s r
    noteLog (raiseEv (setPosByte s r 0x40) pgDRCV 0x28 0) 0x28 (pgTSEQ (16 * r + 15))

/-- Corrected reads of a bank have reached `DRCV.CORR_LIMIT` within a second, the last of them at word `w` of the bank (R299,
R301). -/
def predicted (s : State) (k : BankRef) (w : Nat) : State :=
  let b := refBank k
  let n := look 0 s.recov.predicted (bankKey (refPage k) b)
  if getF s pgDRCV DRCV.CORR_LIMIT = 0 ∨ activeAssayer s = none ∨ 3 ≤ n then s
  else
    let count := fun (s : State) => modRecov s fun x => { x with predicted := put 0 x.predicted (bankKey (refPage k) b) (n + 1) }
    match k with
    | .region r _ =>
      if bankUsed s r.val then s
      else
        let s := keepDetail s (pgRMEM r.val) (rmemAddr r.val (0x20000 * b + 4 * w) % 2 ^ 32)
        count (bankSpareStart (groupFault s (pgRMEM r.val) b) r.val b 0x21 false false)
    | .tile pos _ =>
      match servedBy s pos.val with
      | some t =>
        let s := keepDetail s (pgTBNK t) (bankAddr pos.val (8192 * b + w % 8192) % 2 ^ 32)
        if isProt s pos.val then modRecov (count s) fun x => { x with waiting := put 0 x.waiting pos.val 0x21 }
        else tileFail (count s) t 0x21
      | none => s

/-- A position that waited for its locket is retired after the commit (R301). -/
def afterCommit (s : State) (pos : Nat) : State :=
  let c := look 0 s.recov.waiting pos
  if c ≠ 0 ∧ (protOf s pos).capture.isNone then
    let s := modRecov s fun x => { x with waiting := put 0 x.waiting pos 0 }
    match servedBy s pos with
    | some t => tileFail s t c
    | none => s
  else s

/-! ### Actions by number (R318) -/

/-- The position of a sequencer page. -/
def seqPos (p : Nat) : Option Nat := match blkOf p with | some (.tseq, pos) => some pos | _ => none

/-- The region of a page of block `b`. -/
def regionOf (b : Blk) (p : Nat) : Option Nat := match blkOf p with | some (c, r) => if c = b then some r else none | none => none

/-- Whether an action can start on its target. -/
def actionOk (s : State) (action p sub : Nat) : Bool :=
  match action with
  | 1 => (seqPos p).any fun q => isProt s q && spareFree s (q / 16) && !(recovering s q) && (servedBy s q).isSome
  | 2 => (seqPos p).any fun q => !(isProt s q) && spareFree s (q / 16) && (servedBy s q).isSome
  | 3 => (seqPos p).any fun q => (servedBy s q).isSome
  | 4 => (regionOf .rmem p).any fun r => decide (sub < 16) && !(bankUsed s r) && !(bankCopying s r)
  | 5 => (regionOf .rmem p).any fun r => decide (sub < 16) && bankUsed s r
  | 6 => (regionOf .rdma p).any fun r => decide (sub < 15) && reserveFree s r
  | 7 => (regionOf .rdma p).any fun r => decide (sub < 16) && !(reserveFree s r && sub != 15)
  | 8 | 9 => decide (p = pgDRCV) && decide (sub < 42)
  | 10 => (regionOf .rclk p).any fun r => decide (sub < 2) && pllEn s r sub
  | 11 => (regionOf .rclk p).isSome && decide (sub < 4)
  | _ => false

/-- A position is recovered onto its spare; of a lockstep pair the other tile runs on (R283, R290, R299). -/
def recoverNow (s : State) (q code : Nat) (host : Bool) : State :=
  match pairOf s q with
  | some y => if y.split = 0 then pairFault s q y code host else startRecover s q code host none
  | none => startRecover s q code host none

/-- Runs an action, or goes on with one that waits. `dead`: the bank of a takeover cannot be read at all. -/
def runAction (s : State) (action p sub code : Nat) (host dead : Bool) : State :=
  let r := (p - 0x200) / 8 % 16
  let q := (seqPos p).getD 0
  match action with
  | 1 => if actionOk s 1 p sub then recoverNow s q code host else s
  | 2 => if actionOk s 2 p sub then restartTile s q code host else s
  | 3 => if actionOk s 3 p sub then retireTile s q code host else s
  | 4 => bankSpareStart s r sub code host dead
  | 5 => bankRetireNow s r sub code host
  | 6 => chMoveNow s r sub code host
  | 7 => chWithdrawNow s r sub code host
  | 8 => linkRepairNow s sub code host
  | 9 => linkDetourNow s sub code host
  | 10 => pllMoveNow s r sub code host
  | 11 => coolStepNow s r sub code host
  | _ => s

/-- A write of `DRCV.CMD` (R318). `dead` is for a spare takeover. -/
def cmdWrite (s : State) (v : Word) (dead : Bool) : State :=
  let a := bitsOf v.toNat 7 0
  let p := getF s pgDRCV DRCV.CMD_ARG_PAGE
  let sub := getF s pgDRCV DRCV.CMD_ARG_SUB
  if !(failStaticOn s) || flagF s pgDRCV DRCV.CMD_STAT_BUSY then errCount s pgDRCV
  else
    let s := setF s pgDRCV DRCV.CMD_STAT_ACTION a
    if actionOk s a p sub then
      runAction (setF (setF s pgDRCV DRCV.CMD_STAT_BUSY 1) pgDRCV DRCV.CMD_STAT_CODE 0) a p sub 0 true dead
    else errCount (setF s pgDRCV DRCV.CMD_STAT_CODE 0x31) pgDRCV

/-- The host's command of an action: `CMD_ARG`, then `CMD`; one that is busy goes on. -/
def hostAction (s : State) (action p sub : Nat) (dead : Bool) : State :=
  if flagF s pgDRCV DRCV.CMD_STAT_BUSY && getF s pgDRCV DRCV.CMD_STAT_ACTION == action &&
      getF s pgDRCV DRCV.CMD_ARG_PAGE == p && getF s pgDRCV DRCV.CMD_ARG_SUB == sub then
    runAction s action p sub 0 true dead
  else
    cmdWrite (setF (setF s pgDRCV DRCV.CMD_ARG_PAGE p) pgDRCV DRCV.CMD_ARG_SUB sub) (word action) dead

/-- An action by the active assayer for a fault with a code, or, in fail-static, by the host. -/
def byAction (s : State) (action p sub code : Nat) (dead : Bool) : State :=
  if failStaticOn s then hostAction s action p sub dead
  else if (activeAssayer s).isSome then
    let t := runAction s action p sub code false dead
    if t.recov.next ≠ s.recov.next ∧ action ≤ 9 then groupFault t p sub else t
  else s

/-! ### The commands -/

/-- TILE_STATE_FAULT of physical tile `t`. -/
def tileStateFault (s : State) (t : Nat) : State := tileFail (raiseEv s (pgTSEQ t) 0x29 0) t 0x29

/-- CLOCK_STOPPED of physical tile `t`. -/
def clockStopped (s : State) (t : Nat) : State :=
  if tileGated s t then s else tileFail (raiseEv s (pgTSEQ t) 0x4A 0) t 0x4A

/-- SELFCHECK. -/
def execSelfcheck (r : RegN) (pass : Bool) (s : State) : Host.Outcome State Fault Refusal := .next (spareChecked s r.val pass)

/-- CORR_LIMIT: word `w` of the bank is the one last corrected. -/
def execCorrLimit (k : BankRef) (w : BitVec 15) (s : State) : Host.Outcome State Fault Refusal := .next (predicted s k w.toNat)

/-- PAIR_LOST. -/
def execPairLost (s : State) : Host.Outcome State Fault Refusal := .next (partnerLost s)

/-- HANDOVER_MESSAGE. -/
def execHandoverMessage (s : State) : Host.Outcome State Fault Refusal := .next (handoverTaken s)

/-- RECOVER. -/
def execRecover (t : TileN) (s : State) : Host.Outcome State Fault Refusal :=
  .next (byAction s 1 (pgTSEQ t.val) 0 (eccCodeOf s (pgTBNK ((servedBy s t.val).getD t.val))) false)

/-- BANK_SPARE: the bank, and whether it cannot be read at all. -/
def execBankSpare (r : RegN) (b : Fin 16 × Bool) (s : State) : Host.Outcome State Fault Refusal :=
  .next (byAction s 4 (pgRMEM r.val) b.1.val (eccCodeOf s (pgRMEM r.val)) b.2)

/-- BANK_RETIRE. -/
def execBankRetire (r : RegN) (b : Fin 16) (s : State) : Host.Outcome State Fault Refusal :=
  .next (byAction s 5 (pgRMEM r.val) b.val (eccCodeOf s (pgRMEM r.val)) false)

/-- CH_MOVE: the channel, and whether its fault is an uncorrectable read of the staging buffer, not a failed state check (R299). -/
def execChMove (r : RegN) (n : Fin 16 × Bool) (s : State) : Host.Outcome State Fault Refusal :=
  .next (byAction s 6 (pgRDMA r.val) n.1.val (if n.2 then 0x22 else 0x29) false)

/-- CH_WITHDRAW, likewise. -/
def execChWithdraw (r : RegN) (n : Fin 16 × Bool) (s : State) : Host.Outcome State Fault Refusal :=
  .next (byAction s 7 (pgRDMA r.val) n.1.val (if n.2 then 0x22 else 0x29) false)

/-- LINK_REPAIR. -/
def execLinkRepair (l : Fin 42) (s : State) : Host.Outcome State Fault Refusal := .next (byAction s 8 pgDRCV l.val 0x33 false)

/-- LINK_DETOUR. -/
def execLinkDetour (l : Fin 42) (s : State) : Host.Outcome State Fault Refusal := .next (byAction s 9 pgDRCV l.val 0x33 false)

/-- PLL_MOVE. -/
def execPllMove (r : RegN) (b : Bool) (s : State) : Host.Outcome State Fault Refusal :=
  .next (byAction s 10 (pgRCLK r.val) (b2n b) 0x46 false)

/-- COOL_STEP. -/
def execCoolStep (r : RegN) (side : Fin 4) (s : State) : Host.Outcome State Fault Refusal :=
  .next (byAction s 11 (pgRCLK r.val) side.val 0x75 false)

/-- NOTE: a write of `DRCV.CMD`, here with an action that is refused. -/
def execNote (v : Word) (src : BitVec 10) (s : State) : Host.Outcome State Fault Refusal :=
  .next (regCmd pgDRCV DRCV.CMD.off v src.toNat (fun s => cmdWrite s v false) s)

end Sys2Proof.Machine
end

