-- ==== Sys2Proof/Machine/RegRead.lean ====
section
/-! DEFINITION. How every register page reads: the common header, the values that the device computes, and what a read
does beside returning data (R482, R483, R489 to R493, and the register tables of each chapter). -/

namespace Sys2Proof.Machine
open Sys2Proof

/-! ### Pending pages (R493, R499) -/

/-- A page is pending when a bit is 1 in both `EVT_PEND` and `EVT_EN` (R493). -/
def pagePending (s : State) (p : Nat) : Bool :=
  decide (regAt s p HDR.EVT_PEND.off &&& regAt s p HDR.EVT_EN.off ≠ 0)

/-- A tile page of the position is pending. -/
def posPending (s : State) (pos : Nat) : Bool :=
  match serves s pos with
  | .tile t => (List.range 4).any fun k => pagePending s (0x400 + 4 * t + k)
  | _ => false

/-- Bits of a number from a predicate over bit numbers. -/
def bitsBy (n : Nat) (f : Nat → Bool) : Nat := (List.range n).foldl (fun v b => v + b2n (f b) * 2 ^ b) 0

def evtSum (s : State) (r : Nat) : Nat := bitsBy 8 fun k => pagePending s (0x200 + 8 * r + k)
def tileSum (s : State) (r : Nat) : Nat := bitsBy 16 fun l => posPending s (16 * r + l)

/-- Some page from `lo` to `hi` is pending. -/
def anyPending (s : State) (lo hi : Nat) : Bool :=
  allPages.any fun p => decide (lo ≤ p ∧ p ≤ hi) && pagePending s p

/-- `DEVT.SUM`. -/
def eventSum (s : State) : Nat :=
  b2n (anyPending s 0x100 0x1FF) * 2 ^ 17 + b2n (anyPending s 0 0xFF) * 2 ^ 16 +
    bitsBy 16 fun r => decide (evtSum s r ≠ 0 ∨ tileSum s r ≠ 0)

/-! ### Computed values -/

/-- Word `n` of the oldest record; 0 when the queue is empty (R499). -/
def qrecWord (s : State) (n : Nat) : Word :=
  match s.evq with
  | [] => 0
  | e :: _ => (match n with | 0 => e.w0 | 1 => e.w1 | 2 => e.w2 | _ => e.w3)

/-- `ENG_STAT.BUSY` of engine `e`: channels that are not IDLE, TAILWAIT or HALTED (R200). -/
def engBusy (s : State) (e : Nat) : Nat :=
  bitsBy (engSize e) fun n =>
    let st := chState s (32 * e + n)
    decide (st ≠ 0 ∧ st ≠ 6 ∧ st ≠ 7)

/-- The DMA engine of a page, for the pages that hold channel blocks. -/
def engineOf (b : Blk) (inst : Nat) : Option Nat :=
  match b with
  | .rdma => some inst
  | .hdma => some 16
  | .zlnk => some (17 + inst)
  | _ => none

/-- A register of a channel block or the engine's status, `none` for one that is stored (R200). -/
def dmaWord (s : State) (p e o : Nat) : Option Word :=
  if o = (if e < 17 then 0x40 else 0x70) then some (word (engBusy s e))
  else if 0x100 ≤ o ∧ o < 0x100 + 0x40 * engSize e ∧ o % 0x40 = 0x28 then some (word (wideOf s p o))
  else if 0x100 ≤ o ∧ o < 0x100 + 0x40 * engSize e ∧ o % 0x40 = 0x2C then some (word (wideOf s p (o - 4) / 2 ^ 32))
  else none

/-- The 64-bit counters whose low register latches the high one (R225, R261, R295). -/
def latchedLow (b : Blk) (o : Nat) : Bool :=
  match b with
  | .dclk => o == 0x44
  | .dacw => o == 0x44
  | .rstat => decide (0x100 ≤ o ∧ o < 0x500) && (o % 0x100 == 8 || o % 0x100 == 0x10 || o % 0x100 == 0x1C)
  | _ => false

/-- The whole value behind such a register. -/
def latchedValue (s : State) (b : Blk) (p o : Nat) : Nat := if b = .dclk then s.tb.toNat else wideOf s p o

/-- `UARTn_STAT`: OVR is stored, the FIFO levels are computed (R457). -/
def uartStat (s : State) (n : Nat) : Word :=
  word (bitsOf (regAt s pgMSER (MSER.UART_STAT_OVR n).off).toNat 31 24 * 2 ^ 24 +
    (look [] s.ser.rx n).length % 256 * 2 ^ 8 + (64 - (look [] s.ser.tx n).length))

/-- The byte that a read of `UARTn_DATA` returns (R457). -/
def uartHead (s : State) (n : Nat) : Word :=
  if getF s pgMSER (MSER.UART_CFG_MODE n) = 1 then
    (match look [] s.ser.rx n with | [] => 0 | b :: _ => word b.toNat)
  else 0

/-- The entry that a read of `DI_EVT` would remove, without VALID (log 63). -/
def diHead (s : State) : Word :=
  match s.diQ with
  | [] => 0
  | e :: _ => word (256 * b2n e.rise + e.input)

/-- What a register of block `b`, instance `inst`, stored page `p`, byte offset `o` reads, as far as the device computes
it; `none` for a register that reads as it is stored. -/
def computed (s : State) (b : Blk) (inst p o : Nat) : Option Word :=
  if latchedLow b o then some (word (latchedValue s b p o))
  else
    match (engineOf b inst).bind fun e => dmaWord s p e o with
    | some w => some w
    | none =>
      match b with
      | .devt =>
        if o = 0x54 then some (word s.evq.length)
        else if 0x60 ≤ o ∧ o < 0x70 then some (qrecWord s ((o - 0x60) / 4))
        else if o = 0x80 then some (word (eventSum s))
        else none
      | .dcfg => if o = 0x6C then some (word (flashWear s (getF s p DCFG.FL_ADDR / 65536))) else none
      | .drcv => if 0x80 ≤ o ∧ o < 0xA0 then some (logData s ((o - 0x80) / 4)) else none
      | .dmif => if o = 0x54 then some (diHead s) else none
      | .dlpe =>
        if o = 0x58 then some (traceWord s 0) else if o = 0x5C then some (traceWord s 1)
        else if o = 0x6C then some (word (setBits (regAt s p o).toNat 31 31 (b2n s.loupe.read.isSome))) else none
      | .mser =>
        if o = 0x48 ∨ o = 0x68 then some (uartHead s ((o - 0x48) / 0x20))
        else if o = 0x4C ∨ o = 0x6C then some (uartStat s ((o - 0x4C) / 0x20))
        else if o = 0x88 then some (word (b2n s.ser.spiRun.isSome * 2 ^ 31))
        else if o = 0x94 then some (word (setBits (regAt s p o).toNat 31 31 (b2n s.ser.i2cRun.isSome)))
        else none
      | .rctl => if o = 0x40 then some (word (evtSum s inst)) else if o = 0x44 then some (word (tileSum s inst)) else none
      | .rclk =>
        if o = 0x40 ∨ o = 0x44 then
          some (word (setBits (regAt s p o).toNat 29 29 (b2n (pllInUse s inst ((o - 0x40) / 4)))))
        else if o = 0x50 then some (word (neighWord s inst))
        else none
      | .tseq => some (seqWord s inst o)
      | .tfct => some (fctWord s inst o)
      | .tsch =>
        if o = 0x74 then
          (let a := (regAt s p TSCH.WIN_ADDR_ITEM.off).toNat
           some ((winItem (tileOf s inst) (bitsOf a 15 12) (bitsOf a 9 8) (bitsOf a 4 0)).getD 0))
        else some (schWord s inst o)
      | _ => none

/-- A register of the common header (R482, R490); tile pages show the position that the tile serves (R491). -/
def headerWord (s : State) (b : Blk) (inst p o : Nat) : Word :=
  match o with
  | 0x00 => word (blkType b * 2 ^ 16 + (if 0x400 ≤ p then posOf s inst else inst))
  | 0x04 => 0x0100
  | 0x10 => regAt s p o &&& word (pendMask b)
  | 0x18 => 0
  | _ => regAt s p o

/-- `CTRL` and `STATUS` belong to the block; the rest of the first 64 bytes is the common header. -/
def isHeader (o : Nat) : Bool := decide (o < 0x28) && o != 8 && o != 0xC

/-- The value that a register shows, without any effect of reading it. -/
def regValue (s : State) (p o : Nat) : Word :=
  match blkOf p with
  | none => 0
  | some (b, inst) =>
    if isHeader o then headerWord s b inst p o
    else
      match rowAt b inst o with
      | none => 0
      | some row => (computed s b inst p o).getD (regAt s p o) &&& word row.vis

/-- The bits of a register that a read clears. -/
def clearedBits (p o : Nat) : Nat :=
  if o = HDR.ERR_COUNT.off then 0xFFFFFFFF
  else match (blkOf p).bind fun x => rowAt x.1 x.2 o with
    | some row => row.rc
    | none => 0

def clearRead (s : State) (p o : Nat) : State :=
  let m := clearedBits p o
  if m = 0 then s else setRegAt s p o (regAt s p o &&& ~~~(word m))

/-- The frequency that a ring oscillator's register shows: a measured value, 400 MHz within 3 %, and 0 until a reference edge
has come to measure against (R238, R261, log 64). -/
def ringRead (s : State) : Word × State :=
  if s.tbPast.isEmpty then (0, s)
  else
    let f := takeFree s
    (word (388000 + f.1 % 24001), f.2)

/-- A read of the register at byte offset `o` of stored page `p` by `src`: what it returns and the state after it
(R483). The loupe changes nothing. -/
def readReg (s : State) (src p o : Nat) : Word × State :=
  match blkOf p with
  | none => (0, s)
  | some (b, inst) =>
    if b = .dclk ∧ (o = 0x54 ∨ o = 0x58) then ringRead s
    else if src = 0x232 then (regValue s p o, s)
    else if latchedLow b o then (regValue s p o, setRegAt s p (o + 4) (word (latchedValue s b p o / 2 ^ 32)))
    else
      match b with
      | .dmif => if o = 0x54 then diPop s else (regValue s p o, clearRead s p o)
      | .ethp => if o = 0x4C then tsPop s inst else (regValue s p o, clearRead s p o)
      | .rmem => if 0x180 ≤ o ∧ o < 0x200 then semRead s inst ((o - 0x180) / 4) else (regValue s p o, clearRead s p o)
      | .tsch => if o = 0x74 then winRead s inst else (regValue s p o, clearRead s p o)
      | .mser =>
        if o = 0x48 ∨ o = 0x68 then
          (let n := (o - 0x48) / 0x20
           if getF s pgMSER (MSER.UART_CFG_MODE n) = 1 then
             (uartHead s n, { s with ser := { s.ser with rx := put [] s.ser.rx n (look [] s.ser.rx n).tail } })
           else (0, s))
        else (regValue s p o, clearRead s p o)
      | _ => (regValue s p o, clearRead s p o)

/-- Reads `n` registers of a page from offset `o` on. -/
def readRegs : Nat → State → Nat → Nat → Nat → List Word × State
  | 0, s, _, _, _ => ([], s)
  | n + 1, s, src, p, o =>
    let x := readReg s src p o
    let y := readRegs n x.2 src p (o + 4)
    (x.1 :: y.1, y.2)

/-- A read of `n` bytes at offset `o` of stored page `p` (R210, R483): the bytes of the 64-byte block, 0 outside the
read. Each register that it touches is read whole. -/
def pageRead (s : State) (src p o n : Nat) : List Byte × State :=
  let first := o / 4 * 4
  let x := readRegs ((o + n + 3) / 4 - o / 4) s src p first
  let bs := (x.1.map fun w => toBytes 4 w.toNat).flatten
  (spanData (o % 64) ((bs.drop (o - first)).take n), x.2)

/-- A read of `n` bytes at address `a`, at its target (R20, R146, R210, R211, R491): the block, the code, and
the state after it. -/
def readAt (s : State) (v : Via) (a n : Nat) : List Byte × Nat × State :=
  match placeOf a with
  | .page p o =>
    let c := placeRefusal s (.page p o)
    (match physPage s p with
     | some q =>
       if c = 0 then
         let x := pageRead s v.src q o n
         (x.1, 0, x.2)
       else (List.replicate 64 0, c, s)
     | none => (List.replicate 64 0, firstCode c 0x12, s))
  | _ => blockRead s v a n

end Sys2Proof.Machine
end

