-- ==== Sys2Proof/Machine/SerialPorts.lean ====
section
/-! DEFINITION. The send side of the serial ports of J4: the UARTs' send FIFOs, controller transfers on SPI and I²C, and
what a reference tick does to them (R453 to R455, R457). -/

namespace Sys2Proof.Machine
open Sys2Proof

def modSer (s : State) (f : Serial → Serial) : State := { s with ser := f s.ser }

def uartMode (s : State) (n : Nat) : Nat := getF s pgMSER (MSER.UART_CFG_MODE n)

/-- Ticks of one byte on UART `n`: start, eight data, parity and stop bits at `INC` × 10^9 / 2^35 baud (R453). -/
def uartByte (s : State) (n : Nat) : Nat :=
  let par := getF s pgMSER (MSER.UART_CFG_PARITY n)
  let bits := 10 + (if par = 1 ∨ par = 2 then 1 else 0) + getF s pgMSER (MSER.UART_CFG_STOP2 n)
  bits * 2 ^ 35 / (10 * max 1 (getF s pgMSER (MSER.UART_BAUD n)))

/-- A write of `UARTn_DATA`: in CONSOLE mode the byte enters the send FIFO; a full FIFO takes none (log 65). -/
def uartSend (s : State) (n : Nat) (v : Word) : State :=
  let q := look [] s.ser.tx n
  if uartMode s n = 1 ∧ q.length < 64 then
    modSer s fun x => { x with
      tx := put [] x.tx n (q ++ [BitVec.ofNat 8 v.toNat])
      txAt := if q.isEmpty then put 0 x.txAt n (s.age + uartByte s n) else x.txAt }
  else s

/-- A write of `UARTn_BAUD` (R457). -/
def uartBaudWrite (s : State) (n : Nat) (v : Word) : State :=
  let i := bitsOf v.toNat 28 0
  if 412316861 < i then errCount s pgMSER else setF s pgMSER (MSER.UART_BAUD n) i

/-- A write of `SPI_CFG`: `ROLE` takes a write in RUN only (R457). -/
def spiCfgWrite (s : State) (v : Word) : State :=
  let o := MSER.SPI_CFG_ROLE.off
  let s' := setRegAt s pgMSER o (word (setBits (v.toNat &&& 0x700000FF) 31 31 (getF s pgMSER MSER.SPI_CFG_ROLE)))
  if loadState s = 5 then setF s' pgMSER MSER.SPI_CFG_ROLE (bitsOf v.toNat 31 31) else s'

/-- Bytes that a controller transfer receives. -/
def spiRx (v : Nat) : Nat := if bitOf v 30 then bitsOf v 16 8 else 0

/-- Ticks of a controller transfer at 1,000 MHz / `DIV`, on one or four lines (R454, R457). -/
def spiTicks (s : State) (v : Nat) : Nat :=
  let bits := 8 * (bitsOf v 7 0 + 1 + spiRx v)
  let div := max 20 (getF s pgMSER MSER.SPI_CFG_DIV)
  (bits / (if flagF s pgMSER MSER.SPI_CFG_QUAD then 4 else 1) * div + 9) / 10

/-- A write of `SPI_CMD`: a transfer starts on a controller that is not busy (R454, R457, log 65). -/
def spiCmdWrite (s : State) (v : Word) : State :=
  if !(bitOf v.toNat 31) then s
  else if s.ser.spiRun.isSome then errCount s pgMSER
  else if flagF s pgMSER MSER.SPI_CFG_ROLE then modSer s fun x => { x with spiRun := some (v, s.age + spiTicks s v.toNat) }
  else s

/-- Ticks of an I²C transaction: a start, the address byte, the data bytes with their acknowledge bits, a stop (R455). -/
def i2cTicks (s : State) (v : Nat) : Nat :=
  let bit := match getF s pgMSER MSER.I2C_CFG_SPEED with | 0 => 1000 | 2 => 100 | _ => 250
  (9 * (bitsOf v 7 0 + 2) + 2) * bit

/-- A write of `I2C_CMD` (R455, R457). -/
def i2cCmdWrite (s : State) (v : Word) : State :=
  if !(bitOf v.toNat 31) then s
  else if s.ser.i2cRun.isSome then errCount s pgMSER
  else modSer (setF s pgMSER MSER.I2C_STAT_NACK 0) fun x => { x with i2cRun := some (v, s.age + i2cTicks s v.toNat) }

/-- Puts `n` received bytes into a buffer of the page, from byte 0 on. What an outside device sends is a free value
(log 65). -/
def receiveBytes : Nat → Nat → State → Nat → State
  | 0, _, s, _ => s
  | n + 1, i, s, base =>
    let f := takeFree s
    let b := 8 * (i % 4)
    receiveBytes n (i + 1) (setF f.2 pgMSER ⟨base + 4 * (i / 4), b + 7, b⟩ (f.1 % 256)) base

/-- The end of a controller transfer. -/
def spiEnd (s : State) : State :=
  match s.ser.spiRun with
  | some (v, t) =>
    if t ≤ s.age then receiveBytes (min 256 (spiRx v.toNat)) 0 (modSer s fun x => { x with spiRun := none }) 0x100 else s
  | none => s

/-- The end of an I²C transaction; whether the device acknowledged is a free value (log 65). -/
def i2cEnd (s : State) : State :=
  match s.ser.i2cRun with
  | some (v, t) =>
    if t ≤ s.age then
      let f := takeFree (modSer s fun x => { x with i2cRun := none })
      if f.1 % 2 = 1 then setF f.2 pgMSER MSER.I2C_STAT_NACK 1
      else if bitOf v.toNat 30 then receiveBytes (bitsOf v.toNat 7 0 + 1) 0 f.2 0x200 else f.2
    else s
  | none => s

/-- A byte leaves the send FIFO of UART `n`. -/
def uartShift (s : State) (n : Nat) : State :=
  match look [] s.ser.tx n with
  | [] => s
  | _ :: q =>
    if look 0 s.ser.txAt n ≤ s.age ∧ getF s pgMSER (MSER.UART_BAUD n) ≠ 0 then
      modSer s fun x => { x with tx := put [] x.tx n q, txAt := put 0 x.txAt n (if q.isEmpty then 0 else s.age + uartByte s n) }
    else s

/-- What a reference tick does to the serial ports. -/
def serialTick (s : State) : State := i2cEnd (spiEnd (uartShift (uartShift s 0) 1))

/-! ### Commands -/

/-- UART_DATA_WRITE. -/
def execUartDataWrite (n : Fin 2) (b : Byte) (s : State) : Host.Outcome State Fault Refusal :=
  .next (regCmd pgMSER (MSER.UART_DATA n.val).off (word b.toNat) hostSrc (fun s => uartSend s n.val (word b.toNat)) s)

/-- SPI_GO: a write of `SPI_CMD` with GO = 1. -/
def execSpiGo (v : Word) (s : State) : Host.Outcome State Fault Refusal :=
  .next (regCmd pgMSER MSER.SPI_CMD_GO.off (v ||| word (2 ^ 31)) hostSrc (fun s => spiCmdWrite s (v ||| word (2 ^ 31))) s)

/-- I2C_GO: a write of `I2C_CMD` with GO = 1. -/
def execI2cGo (v : Word) (s : State) : Host.Outcome State Fault Refusal :=
  .next (regCmd pgMSER MSER.I2C_CMD_GO.off (v ||| word (2 ^ 31)) hostSrc (fun s => i2cCmdWrite s (v ||| word (2 ^ 31))) s)

end Sys2Proof.Machine
end

