-- ==== Sys2Proof/Machine/RegWrite.lean ====
section
/-! DEFINITION. What a write of every register does (R482 to R485, R488 and the register tables of each chapter), and a
write at its target. -/

namespace Sys2Proof.Machine
open Sys2Proof

/-! ### Field rules -/

/-- A write of a register with no behaviour of its own: RW bits take the data, W1C bits written 1 clear, others stay
(R483). -/
def plainWrite (s : State) (p o : Nat) (row : RegRow) (v : Word) : State :=
  let old := regAt s p o
  setRegAt s p o (((old &&& ~~~(word row.rw)) ||| (v &&& word row.rw)) &&& ~~~(v &&& word row.w1c))

/-- A register with fields marked "EN = 0 only", of an entry whose EN is `en` before the write (R236). -/
def guardedWrite (s : State) (p o : Nat) (row : RegRow) (en : Bool) (v : Word) : State :=
  if en then errCount (plainWrite s p o row v) p
  else plainWrite s p o { row with rw := row.rw ||| row.en0 } v

/-- The fields of an entry's control register beside EN: with EN = 1 they stay, and a differing value counts (R236). -/
def ctlFields (s : State) (p o : Nat) (row : RegRow) (v : Word) : State :=
  let old := regAt s p o
  let m := word row.en0
  if bitOf old.toNat 31 then (if old &&& m = v &&& m then s else errCount s p)
  else setRegAt s p o ((old &&& ~~~m) ||| (v &&& m))

/-! ### Registers with behaviour, by block -/

/-- `DACW.EPOCH_CFG`: 10 to 100,000 µs (R295). -/
def epochCfgWrite (s : State) (v : Word) : State :=
  let n := bitsOf v.toNat 16 0
  if 10 ≤ n ∧ n ≤ 100000 then setRegAt s pgDACW DACW.EPOCH_CFG.off (word n) else errCount s pgDACW

/-- `DPWR.GOV_CFG`: CAP of 20 to 125 W, TLIM of 85 to 110 °C, HYST (R480). -/
def govCfgWrite (s : State) (v : Word) : State :=
  let cap := bitsOf v.toNat 31 24
  let lim := bitsOf v.toNat 7 0
  let s := setF s pgDPWR DPWR.GOV_CFG_HYST (bitsOf v.toNat 19 16)
  let s := if 20 ≤ cap ∧ cap ≤ 125 then setF s pgDPWR DPWR.GOV_CFG_CAP cap else errCount s pgDPWR
  if 85 ≤ lim ∧ lim ≤ 110 then setF s pgDPWR DPWR.GOV_CFG_TLIM lim else errCount s pgDPWR

/-- `ZLNK.RDEVk`: only while channel k is IDLE or HALTED (R424). -/
def rdevWrite (s : State) (n k : Nat) (v : Word) : State :=
  let st := chState s (32 * (17 + n) + k)
  if st = 0 ∨ st = 7 then setRegAt s (pgZLNK n) (0x80 + 4 * k) (v &&& word 0x8003FFFF) else errCount s (pgZLNK n)

/-- `CHn.HEAD`: only while the channel is IDLE or HALTED (R200). -/
def chHeadWrite (s : State) (k o : Nat) (v : Word) : State :=
  if chState s k = 0 ∨ chState s k = 7 then
    setRegAt s (chPage k) o (v &&& word (if o % 0x40 = 8 then 0xFFFFFFE0 else 0xFFFF))
  else errCount s (chPage k)

/-- `CHn.CFG`: the limiter's credits are capped at the new `BURST` × 256 (R200). -/
def chCfgWrite (s : State) (k o : Nat) (v : Word) : State :=
  let s := setRegAt s (chPage k) o (v &&& word 0x07FF001F)
  modDma s k fun d => { d with creditR := min d.creditR (chCap s k), creditW := min d.creditW (chCap s k) }

/-- A register of the channel blocks of engine `e` (R200, R443). -/
def chWrite (s : State) (e o : Nat) (v : Word) : State :=
  let k := 32 * e + (o - 0x100) / 0x40
  match o % 0x40 with
  | 0x00 => chCtrlWrite s k v
  | 0x08 => chHeadWrite s k o v
  | 0x0C => chHeadWrite s k o v
  | 0x18 => doorbellCh s k
  | 0x1C => chCfgWrite s k o v
  | _ => s

/-- A register of entry `e` of a link engine, an Ethernet port or the host port (R399, R442). -/
def entWrite (s : State) (key p o : Nat) (row : RegRow) (v : Word) : State :=
  if o % 0x20 = 0 then
    let was := entEn s key
    let s := ctlFields s p o row v
    (if bitOf v.toNat 31 then (if was then s else entEnable s key) else setE s key 0 31 31 0)
  else if isHostEnt key ∧ o % 0x20 = 0x18 then hidxWrite s (entNo key) v
  else if row.en0 = 0 then plainWrite s p o row v
  else guardedWrite s p o row (entEn s key) v

/-- A register of endpoint `k` of a stream unit (R236). -/
def epWrite (s : State) (r k o : Nat) (row : RegRow) (v : Word) : State :=
  let p := pgRRTR r
  match o % 0x10 with
  | 0 =>
    let was := epEn s r k
    let md := epMode s r k
    let s := ctlFields s p o row v
    -- a reserved MODE stays out: MEMORY is for out-endpoints, DMA for in-endpoints
    let reserved := bitsOf v.toNat 30 29 == 3 || bitsOf v.toNat 30 29 == (if isOut k then 2 else 1)
    let s := if !was && reserved then errCount (setF s p (RRTR.EP_CTL_MODE k) md) p else s
    if bitOf v.toNat 31 then epEnable s r k else epDisable s r k
  | 0xC =>
    if epEn s r k then errCount s p else if epMode s r k = 1 then setRegAt s p o (v &&& word 0xFFFF) else s
  | _ => guardedWrite s p o row (epEn s r k) v

/-- The registers of the serial ports (R457). -/
def serWrite (s : State) (o : Nat) (row : RegRow) (v : Word) : State :=
  match o with
  | 0x44 => uartBaudWrite s 0 v
  | 0x64 => uartBaudWrite s 1 v
  | 0x48 => uartSend s 0 v
  | 0x68 => uartSend s 1 v
  | 0x80 => spiCfgWrite s v
  | 0x84 => spiCmdWrite s v
  | 0x90 => i2cCmdWrite s v
  | _ => plainWrite s pgMSER o row v

/-- A write of `MEM_ALO` starts a loupe read and abandons one that has not completed (R381). -/
def loupeStart (s : State) (v : Word) : State :=
  let s := setRegAt s pgDLPE DLPE.MEM_ALO.off v
  { s with loupe := { s.loupe with read := some (v.toNat / 4 * 4 + getF s pgDLPE DLPE.MEM_AHI * 2 ^ 32) } }

/-- A "halted only" register of `TSEQ` (R138). -/
def seqHeldWrite (s : State) (t : Nat) (f : Tile → Tile) : State :=
  if (tileOf s t).halted then modTile s t f else errCount s (pgTSEQ t)

/-- The registers of a sequencer page (R138). -/
def seqWrite (s : State) (t o : Nat) (v : Word) : State :=
  if o = 8 then seqCtrlWrite s t v
  else if o = 0x40 then seqHeldWrite s t fun x => { x with pc := addr16 v.toNat, wait := none }
  else if 0x80 ≤ o ∧ o < 0xA0 then seqHeldWrite s t fun x => { x with z := put 0 x.z ((o - 0x80) / 4) v }
  else if 0x100 ≤ o ∧ o < 0x400 then seqHeldWrite s t fun x => { x with ring := put 0 x.ring ((o - 0x100) / 4) v }
  else s

/-- The registers of a scheduler page (R139). -/
def schWrite (s : State) (t o : Nat) (row : RegRow) (v : Word) : State :=
  match o with
  | 0x40 => pendClear s t 0 v
  | 0x44 => pendClear s t 1 v
  | 0x48 => swevtWrite s t v
  | 0x60 => timerArmAt s t 0 v
  | 0x68 => timerArmAt s t 1 v
  | 0x74 => winWrite s t v
  | _ => plainWrite s (pgTSCH t) o row v

/-- A register of block `b`, instance `inst`, stored page `p`, beyond the common header. -/
def blkWrite (s : State) (src : Nat) (b : Blk) (inst p o : Nat) (row : RegRow) (v : Word) : State :=
  let plain := plainWrite s p o row v
  let chans := decide (0x100 ≤ o ∧ o < 0x800)
  match b with
  | .devt =>
    if o = 0x40 then ringAddrWrite s DEVT.RING_LO v else if o = 0x44 then ringAddrWrite s DEVT.RING_HI v
    else if o = 0x48 then ringCfgWrite s v else if o = 0x50 then ridxWrite s v
    else if o = 0x70 then qpopWrite s else plain
  | .dcfg =>
    if o = 0x44 then loadCmdWrite s v else if o = 0x60 then flCmdWrite s v else if o = 0x70 then bootSelWrite s v
    else if o = 0x74 then handoverWrite s v else if 0x800 ≤ o then loadDataWrite s v else plain
  | .dcal =>
    if o = 0x44 then calCmdWrite s v
    else if (0x100 ≤ o ∧ o < 0x200) ∨ 0x240 ≤ o then calWrite s o v
    else if 0x80 ≤ o then setRegAt s p o (v &&& word row.vis) else plain
  | .dclk => if o = 0x40 then refWrite s v else if o = 0x4C then tbStepWrite s v else if o = 0x50 then tbSlewWrite s v else plain
  | .dstr =>
    if o = 8 then dstrCtrlWrite s v else if o = 0x60 then timeCfgWrite s v else if o = 0x74 then freeCmdWrite s v else plain
  | .dacw => if o = 0x40 then epochCfgWrite s v else plain
  | .dpwr => if o = 0x4C then govCfgWrite s v else if o = 0x64 then alertWrite s v else plain
  | .dasy => if o = 8 then dasyCtrlWrite s inst v else plain
  | .drcv => if o = 0x58 then cmdWrite s v false else plain
  | .dbzl => if 0x200 ≤ o ∧ o < 0x380 ∧ o % 8 = 0 then pinCfgWrite s inst ((o - 0x200) / 8) v else plain
  | .dmif => if o = 0x4C then doFaultClear s v else if 0x100 ≤ o ∧ o < 0x140 then dacCfgWrite s ((o - 0x100) / 4) v else plain
  | .dlpe => if o = 0x40 then traceCfgWrite s v else if o = 0x60 then loupeStart s v else plain
  | .zlnk =>
    if o = 8 then zlnkCtrlWrite s inst v
    else if 0x80 ≤ o ∧ o < 0xC0 then rdevWrite s inst ((o - 0x80) / 4) v
    else if chans then chWrite s (17 + inst) o v
    else if 0x800 ≤ o then entWrite s (zilKey inst ((o - 0x800) / 0x20)) p o row v else plain
  | .ethp =>
    if o = 0x5C then gclCtlWrite s inst v
    else if 0x400 ≤ o then entWrite s (ethKey inst ((o - 0x400) / 0x20)) p o row v else plain
  | .hpci => if o = 0x48 then swvecWrite s v else if 0x800 ≤ o then entWrite s (hostKey ((o - 0x800) / 0x20)) p o row v else plain
  | .hdma => if 0x100 ≤ o then chWrite s 16 o v else plain
  | .mser => serWrite s o row v
  | .rrtr => if 0x800 ≤ o then epWrite s inst ((o - 0x800) / 0x10) o row v else plain
  | .rmem =>
    if o = 0x44 then pwrCmd s p (bitsOf v.toNat 11 8) (bitsOf v.toNat 1 0)
    else if 0x100 ≤ o ∧ o < 0x180 then lockCmd s inst ((o - 0x100) / 4) (bitsOf v.toNat 25 24) src
    else if o = 0x200 then semGiveWrite s inst v else plain
  | .rdma => if chans then chWrite s inst o v else plain
  | .rclk =>
    if o = 0x40 then pllWrite s inst 0 v else if o = 0x44 then pllWrite s inst 1 v
    else if o = 0x48 then railWrite s inst v
    else if 0x80 ≤ o ∧ o < 0xC0 then tileClkWrite s (16 * inst + (o - 0x80) / 4) v else plain
  | .rstat =>
    if 0x100 ≤ o ∧ o % 0x100 = 0 ∧ bitOf v.toNat 30 then statClear plain inst ((o - 0x100) / 0x100) else plain
  | .tseq => seqWrite s inst o v
  | .tfct => if o = 0x40 then pageCmd s inst v else plain
  | .tsch => schWrite s inst o row v
  | .tbnk => if o = 0x44 then pwrCmd s p (bitsOf v.toNat 10 8) (bitsOf v.toNat 1 0) else plain
  | _ => plain

/-- The common header (R482, R485, R488). -/
def headerWrite (s : State) (src : Nat) (b : Blk) (p o : Nat) (v : Word) : State :=
  match o with
  | 0x10 => setRegAt s p o (regAt s p o &&& ~~~v)
  | 0x14 => setRegAt s p o v
  | 0x18 => evtForceWrite s p b v
  | 0x20 => ownerCmd s p (bitsOf v.toNat 25 24) src
  | 0x24 => setRegAt s p o v
  | _ => s

/-- The log entry of a write to a page of a protected tile (R273, R275). A write of `WIN_DATA` is logged when it takes
effect, with its item. -/
def logPageWrite (s : State) (b : Blk) (t o : Nat) (v : Word) : State :=
  let e (pg : Nat) : State := logEntry s (posOf s t) ⟨.extwr, false, 1, 15, o, (tileOf s t).retired, v, pg, 0⟩
  match b with
  | .tseq => e 0
  | .tfct => e 1
  | .tsch => if o = 0x74 then s else e 2
  | .tbnk => e 3
  | _ => s

/-- A write of `v` by `src` to the register at byte offset `o` of stored page `p`. -/
def writeReg (s : State) (src p o : Nat) (v : Word) : State :=
  match blkOf p with
  | none => s
  | some (b, inst) =>
    let s := logPageWrite s b inst o v
    if isHeader o then headerWrite s src b p o v
    else match rowAt b inst o with
      | none => s
      | some row => blkWrite s src b inst p o row v

/-! ### Writes at their target -/

/-- Register writes of the enabled words of a block, in ascending offset order (R483). -/
def writeWords (s : State) (src p o be : Nat) (d : List Byte) : State :=
  (List.range 16).foldl (fun s i =>
    if (be >>> (4 * i)) % 16 = 0 then s else writeReg s src p (o / 64 * 64 + 4 * i) (blockWord d (4 * i))) s

/-- Some register of the block is enabled in part. -/
def partWord (be : Nat) : Bool :=
  (List.range 16).any fun i => (be >>> (4 * i)) % 16 != 0 && (be >>> (4 * i)) % 16 != 15

/-- The byte enables of the words that `badW` does not mark. -/
def goodBe (be badW : Nat) : Nat :=
  (List.range 16).foldl (fun n i => n + (if bitOf badW i then 0 else (be >>> (4 * i)) % 16 * 2 ^ (4 * i))) 0

/-- A write of the enabled bytes of the block at address `a`, at its target; `badW` marks the words whose data
arrived bad: no register takes such a word (R20, R149, R211, R224, R483, R491, log 66). -/
def writeAt (s : State) (v : Via) (a be : Nat) (d : List Byte) (poison : Bool) (badW : Nat) : State × Nat :=
  match placeOf a with
  | .page p o =>
    let c := placeRefusal s (.page p o)
    (match physPage s p with
     | some q =>
       if c ≠ 0 then (s, c)
       else if partWord be then (s, 0x13)
       else (writeWords s v.src q o (goodBe be badW) d, 0)
     | none => (s, firstCode c 0x12))
  | _ => blockWrite s v a be d poison badW

/-- The page of initiator `src` records a refused access to address `a` (R20, R435). -/
def refusedSource (s : State) (src a code : Nat) : State :=
  if src < 0x100 then refuseAt s (pgRRTR (src / 16)) code (a % 2 ^ 32)
  else if 0x200 ≤ src ∧ src ≤ 0x220 then barFault s false a code
  else if 0x221 ≤ src ∧ src ≤ 0x226 then refuseAt s (pgZLNK (src - 0x221)) code (a % 2 ^ 32)
  else if src = 0x230 ∨ src = 0x231 then refuseAt s (pgDASY (src - 0x230)) code (a % 2 ^ 32)
  else if src = 0x232 then refuseAt s pgDLPE code (a % 2 ^ 32)
  else if src = 0x233 then refuseAt s pgMSER code (a % 2 ^ 32)
  else s

/-- One register of the page index `p` as its target writes it; an index that holds no block refuses the write (R491). -/
def writeIndex (s : State) (src p o : Nat) (v : Word) : State :=
  match physPage s p with
  | some q => writeReg s src q o v
  | none => refusedSource s src (0x1200000000 + 0x1000 * p + o) (firstCode (placeRefusal s (.page p o)) 0x12)

/-- A command that writes the register at offset `o` of page index `p`. -/
def indexCmd (s : State) (src p o : Nat) (v : Word) : State :=
  if (physPage s p).isSome then regCmd p o v src (fun s => writeIndex s src p o v) s
  else if dieReset s then s else writeIndex s src p o v

/-- One register as its target reads it, for a command that reads it. -/
def readIndex (s : State) (src p o : Nat) : State :=
  match physPage s p with
  | some q => let x := readReg s src q o; setRead x.2 (toBytes 4 x.1.toNat)
  | none => refusedSource s src (0x1200000000 + 0x1000 * p + o) (firstCode (placeRefusal s (.page p o)) 0x12)

/-- A held access may be served: its page is open, and no request held before it still waits (R275). -/
def heldReady (s : State) (w : HeldWrite) : Bool :=
  !(pageShut s w.src w.page) && !((pagePos w.page).any fun pos => earlierHeld { s with heldW := [] } pos w.arrival)

/-- The accesses that waited and now may be served, in their order (R275, R342). -/
def flushHeld (s : State) : State :=
  let ready := s.heldW.filter (heldReady s)
  let rest := s.heldW.filter fun w => !(heldReady s w)
  ready.foldl (fun s w => if w.read then readIndex s w.src w.page w.off else writeIndex s w.src w.page w.off w.v) { s with heldW := rest }

/-- PWR_CMD: a write of `PWR_CMD` of the bank's page. -/
def pwrAt (k : BankRef) (target : Nat) (s : State) : State :=
  indexCmd s hostSrc (refPage k) 0x44 (word (256 * refBank k + target))

/-- PWR_CMD with target OFF. -/
def execPwrCmdOff (page : BankPage) (bank : Fin 16) (s : State) : Host.Outcome State Fault Refusal := .next (pwrAt (page.ref bank) 0 s)

/-- PWR_CMD with target RET. -/
def execPwrCmdRet (page : BankPage) (bank : Fin 16) (s : State) : Host.Outcome State Fault Refusal := .next (pwrAt (page.ref bank) 1 s)

/-- PWR_CMD with target ON. -/
def execPwrCmdOn (page : BankPage) (bank : Fin 16) (s : State) : Host.Outcome State Fault Refusal := .next (pwrAt (page.ref bank) 2 s)

/-- REGISTER_WRITE: a write of one register, by page index and word of the page. -/
def execRegisterWrite (page : Fin 4096) (off : Fin 1024) (v : Word) (src : BitVec 10) (s : State) : Host.Outcome State Fault Refusal :=
  .next (indexCmd s src.toNat page.val (4 * off.val) v)

/-- EVT_FORCE: a write of `EVT_FORCE` of a page index. -/
def execEvtForce (page : Fin 4096) (v : Word) (s : State) : Host.Outcome State Fault Refusal :=
  .next (indexCmd s hostSrc page.val HDR.EVT_FORCE.off v)

/-- MEM_ALO. -/
def execMemAlo (v : Word) (s : State) : Host.Outcome State Fault Refusal :=
  .next (regCmd pgDLPE DLPE.MEM_ALO.off v hostSrc (fun s => loupeStart s v) s)

end Sys2Proof.Machine
end

