-- ==== Sys2Proof/Machine/NetTarget.lean ====
section
/-! DEFINITION. Requests at their target and responses at their initiator (R210, R217, R218, R222 to R225, R275, R342). -/

namespace Sys2Proof.Machine
open Sys2Proof

/-- A request of a memory-mode endpoint whose earlier requests have not completed waits: they complete in the order of their
tokens (R234). -/
def memWaits (s : State) (k : Pkt) : Bool :=
  match look none s.txns (256 * k.src + k.tag) with
  | some t =>
    (match t.purpose with
     | .memRead key | .memWrite key =>
       ((endOf s key).due.find? fun d => match d with | .read _ none | .write _ none => true | _ => false).any fun d =>
         match d with | .read g _ | .write g _ => g != k.tag | _ => false
     | _ => false)
  | none => false

/-- A request can be served: it waits for no recovery and no earlier request of its endpoint, and its response has room. -/
def reqReady (s : State) (k : Pkt) : Bool := !(reqHeld s k) && !(memWaits s k) && localRoom s (responseOf k 0 [])

/-- The first read request at an interface that can be served. -/
def readyRead (s : State) (r d : Nat) : Option (Pkt × Nat) := arrivedAt s r d fun k => k.cls == .req && !k.write && reqReady s k

/-- The first write request at an interface that can be served and does not wait for WR_EN. -/
def readyWrite (s : State) (r d : Nat) : Option (Pkt × Nat) :=
  arrivedAt s r d fun k =>
    k.cls == .req && k.write && reqReady s k && !(writeWaits s k.src (placeOf k.addr))

/-- A read request is performed and answered; `e` is what the interface's check finds in it (R222, R224). -/
def serveRead (s : State) (r d : Nat) (e : FlitCheck) (meet : Bool) : State :=
  match readyRead s r d with
  | none => s
  | some (k, i) =>
    let s := destCheck (takePkt s i) r k e.corr.val e.bad
    if e.bad then respond s k 0x25 (List.replicate 64 0)
    else
      let x := readAt s ⟨k.src, k.waited, meet⟩ k.addr k.nbytes
      respond x.2.2 k x.2.1 x.1

/-- A write request is performed and answered; `e.bad` says that flit 0 has an error that cannot be corrected, and `bad` marks
the words of flit 1 that fail the check (R224). -/
def serveWrite (s : State) (r d : Nat) (e : FlitCheck) (bad : Nat) (meet : Bool) : State :=
  match readyWrite s r d with
  | none => s
  | some (k, i) =>
    let s := destCheck (takePkt s i) r k e.corr.val (e.bad || bad != 0)
    if e.bad then respond s k 0x25 []
    else
      let x := writeAt s ⟨k.src, k.waited, meet⟩ k.addr k.be k.data k.poison bad
      respond x.1 k (if bad = 0 then x.2 else 0x25) []

/-- What the initiator of a transaction does with its response (R218). -/
def useResponse (s : State) (tag : Nat) (t : Txn) (code : Nat) (d : List Byte) : State :=
  let bs := spanOf d (t.addr % 64) t.n
  match t.purpose with
  | .memRead key => memResponse s key tag code bs
  | .memWrite key => memResponse s key tag code []
  | .dmaRead ch off first => readDone s ch off (!first) code bs
  | .dmaWrite ch unit off => writeDone s ch unit off code t.n
  | .barRead a => barReadDone s a t.n code bs
  | .barWrite => barWriteDone s t.addr code
  | .remote link dev key => remoteDone s link dev key t.addr t.write code d

/-- A response at interface `d` of router `r`, `lat` router cycles after its issue; `e` as for a request. It frees its
tag, is counted by the statistics, and reaches its initiator (R218, R224, R225). -/
def takeResponse (s : State) (r d : Nat) (write : Bool) (e : FlitCheck) (lat : Nat) : State :=
  match arrivedAt s r d fun k => k.cls == .rsp && k.write == write with
  | none => s
  | some (k, i) =>
    let s := destCheck (takePkt s i) r k e.corr.val e.bad
    let key := 256 * k.src + k.tag
    match look none s.txns key with
    | none => s
    | some t =>
      let s := countTxn { s with txns := put none s.txns key none } k.src t.write t.n lat
      useResponse s k.tag t (if e.bad then 0x25 else k.code) k.data

/-! ### Commands -/

/-- REQ_READ; `e` says what the check finds, and whether the request stands at its bank in the cycle of the accesses served last there (log 82). -/
def execReqRead (r : RtrN) (d : Fin 5) (e : FlitCheck × Bool) (s : State) : Host.Outcome State Fault Refusal :=
  .next (serveRead s r.val d.val e.1 e.2)

/-- REQ_WRITE; `e` as for REQ_READ, `bad` the words of its data that arrive with an error that the check cannot correct. -/
def execReqWrite (r : RtrN) (d : Fin 5) (e : FlitCheck × Bool) (bad : BitVec 16) (s : State) : Host.Outcome State Fault Refusal :=
  .next (serveWrite s r.val d.val e.1 bad.toNat e.2)

/-- RDATA. -/
def execRdata (r : RtrN) (d : Fin 5) (e : FlitCheck) (lat : Nat) (s : State) : Host.Outcome State Fault Refusal :=
  .next (takeResponse s r.val d.val false e lat)

/-- WACK. -/
def execWack (r : RtrN) (d : Fin 5) (e : FlitCheck) (lat : Nat) (s : State) : Host.Outcome State Fault Refusal :=
  .next (takeResponse s r.val d.val true e lat)

/-- The loupe's read as its target performs it: no write-back, no count, nothing popped (R147, R381). Where it meets writes in
its bank cycle it gets the old data (R154). -/
def loupePeek (s : State) (a : Nat) (meet : Bool) : Word × Bool × Nat :=
  match placeOf a with
  | .page p o =>
    let c := placeRefusal s (.page p o)
    (match physPage s p with
     | some q => if c = 0 then (regValue s q o, false, 0) else (0, false, c)
     | none => (0, false, firstCode c 0x12))
  | pl =>
    let c := placeRefusal s pl
    (match c, storageOf s pl with
     | 0, some st =>
       let w := if meet then oldWord s st else (memWord s st, markAt s (wordKey st))
       let m := markCode w.2
       (w.1, isBad m, if isBad m then m else 0)
     | c, _ => (0, false, firstCode c 0x12))

/-- The loupe's read completes (R381, R383). Whether it stands at its bank in the cycle of the accesses served last there is free (log 82). -/
def loupeDone (s : State) : State :=
  match s.loupe.read with
  | none => s
  | some a =>
    let f := takeFree s
    let x := loupePeek s a (f.1 % 2 == 1)
    let s := countDirect { f.2 with loupe := { s.loupe with read := none } } 0x232 false 4
    let w := if a = 0x1200004054 ∨ a = 0x1200004058 then ringRead s else (x.1, s)
    let s := setRegAt w.2 pgDLPE DLPE.MEM_DATA.off w.1
    let s := setF (setF s pgDLPE DLPE.MEM_STAT_BAD (b2n x.2.1)) pgDLPE DLPE.MEM_STAT_CODE x.2.2
    if 0x10 ≤ x.2.2 ∧ x.2.2 < 0x20 then refuseAt s pgDLPE x.2.2 (a % 2 ^ 32) else s

/-- LOUPE_READ_DONE. -/
def execLoupeReadDone (s : State) : Host.Outcome State Fault Refusal := .next (loupeDone s)

end Sys2Proof.Machine
end

