-- ==== Sys2Proof/Machine/Sequencer.lean ====
section
/-! DEFINITION. The sequencer's instructions, the scheduler, the spill and paging engines and the window register as
commands (chapters 02 and 04). -/

namespace Sys2Proof.Machine
open Sys2Proof

/-- A replaying tile takes the logged outside writes that are due: those of counts that it has reached (R273, R275). -/
def obeyLog : Nat → State → Nat → State
  | 0, s, _ => s
  | fuel + 1, s, t =>
    let pos := posOf s t
    match nextEntry s pos with
    | some e =>
      if replaying s pos ∧ e.kind = .extwr ∧ e.retired.toNat ≤ (tileOf s t).retired.toNat then
        let s := dropEntry s pos
        let s :=
          if e.tgt = 0 then (storeTileWord s t e.addr e.value e.be 0 false 10).1
          else if e.tgt = 1 then writeReg s 0x230 (pgTSEQ t + e.page) e.addr e.value
          else (winWriteItem s t e.addr e.value).2
        obeyLog fuel s t
      else s
    | none => s

/-- The outside writes due at a tile that replays. -/
def obeyed (s : State) (t : Nat) : State := if replaying s (posOf s t) then obeyLog 4096 s t else s

/-- A tile executes one cycle of an instruction with operand bits `o`, issuing facet `fs` when `fv` (R90 to R93, log 7).
A tile that may not run takes none. -/
def runInsn (s : State) (t : Nat) (op : SeqOp) (fv : Bool) (fs : Fin 16) (o : BitVec 21) : State :=
  let s := obeyed s t
  if mayRun s t op then obeyed (tileCycle s t (insnWord op fv fs o)) t else s

/-- A waiting WAITEV completes, unless a level switch is due first (R129). -/
def completeWait (s : State) (t : Nat) : State :=
  let s := obeyed s t
  match (tileOf s t).wait with
  | some w => if mayRun s t .waitev && waitEnds s t (bitsOf w.toNat 5 0) then obeyed (waitDone s t w) t else s
  | none => s

/-- A level switch, then the log entries due at its count. -/
def switchLevel (s : State) (t : Nat) : State := obeyed (levelSwitchAt (obeyed s t) t) t

/-- A paging command starts when no bank of the tile is in transition and the position is not being restored (R161,
R283). -/
def startPaging (s : State) (t : Nat) : State :=
  if tileBankTrans s t || migrating s t then s else pageStart s t

/-- The running paging command ends; a power command that waited for it goes on (R161). -/
def commitPage (s : State) (t : Nat) : State := pwrRelease (pageCommitAt s t) (pgTBNK t)

/-- The pages of the position that tile `t` serves reach it; those of a retired tile reach nothing (R302, R491). -/
def pagesReach (s : State) (t : Nat) : Bool := serves s (posOf s t) == .tile t

/-- A register write of host software to page kind `k` of the position that tile `t` serves. -/
def tileCmd (s : State) (t k o : Nat) (v : Word) : State :=
  if pagesReach s t then
    regCmd (0x400 + 4 * posOf s t + k) o v hostSrc (fun s => writeReg s hostSrc (pgTSEQ t + k) o v) s
  else s

/-! ### Instructions (R96) -/

/-- NOP. -/
def execSeqNop (t : TileN) (fv : Bool) (fs : Fin 16) (o : BitVec 21) (s : State) : Host.Outcome State Fault Refusal :=
  .next (runInsn s t.val .nop fv fs o)

/-- ADD. -/
def execSeqAdd (t : TileN) (fv : Bool) (fs : Fin 16) (o : BitVec 21) (s : State) : Host.Outcome State Fault Refusal :=
  .next (runInsn s t.val .add fv fs o)

/-- SUB. -/
def execSeqSub (t : TileN) (fv : Bool) (fs : Fin 16) (o : BitVec 21) (s : State) : Host.Outcome State Fault Refusal :=
  .next (runInsn s t.val .sub fv fs o)

/-- AND. -/
def execSeqAnd (t : TileN) (fv : Bool) (fs : Fin 16) (o : BitVec 21) (s : State) : Host.Outcome State Fault Refusal :=
  .next (runInsn s t.val .and_ fv fs o)

/-- OR. -/
def execSeqOr (t : TileN) (fv : Bool) (fs : Fin 16) (o : BitVec 21) (s : State) : Host.Outcome State Fault Refusal :=
  .next (runInsn s t.val .or_ fv fs o)

/-- XOR. -/
def execSeqXor (t : TileN) (fv : Bool) (fs : Fin 16) (o : BitVec 21) (s : State) : Host.Outcome State Fault Refusal :=
  .next (runInsn s t.val .xor fv fs o)

/-- SHL. -/
def execSeqShl (t : TileN) (fv : Bool) (fs : Fin 16) (o : BitVec 21) (s : State) : Host.Outcome State Fault Refusal :=
  .next (runInsn s t.val .shl fv fs o)

/-- SHR. -/
def execSeqShr (t : TileN) (fv : Bool) (fs : Fin 16) (o : BitVec 21) (s : State) : Host.Outcome State Fault Refusal :=
  .next (runInsn s t.val .shr fv fs o)

/-- SAR. -/
def execSeqSar (t : TileN) (fv : Bool) (fs : Fin 16) (o : BitVec 21) (s : State) : Host.Outcome State Fault Refusal :=
  .next (runInsn s t.val .sar fv fs o)

/-- SLT. -/
def execSeqSlt (t : TileN) (fv : Bool) (fs : Fin 16) (o : BitVec 21) (s : State) : Host.Outcome State Fault Refusal :=
  .next (runInsn s t.val .slt fv fs o)

/-- SLTU. -/
def execSeqSltu (t : TileN) (fv : Bool) (fs : Fin 16) (o : BitVec 21) (s : State) : Host.Outcome State Fault Refusal :=
  .next (runInsn s t.val .sltu fv fs o)

/-- MUL. -/
def execSeqMul (t : TileN) (fv : Bool) (fs : Fin 16) (o : BitVec 21) (s : State) : Host.Outcome State Fault Refusal :=
  .next (runInsn s t.val .mul fv fs o)

/-- ADDI. -/
def execSeqAddi (t : TileN) (fv : Bool) (fs : Fin 16) (o : BitVec 21) (s : State) : Host.Outcome State Fault Refusal :=
  .next (runInsn s t.val .addi fv fs o)

/-- ANDI. -/
def execSeqAndi (t : TileN) (fv : Bool) (fs : Fin 16) (o : BitVec 21) (s : State) : Host.Outcome State Fault Refusal :=
  .next (runInsn s t.val .andi fv fs o)

/-- ORI. -/
def execSeqOri (t : TileN) (fv : Bool) (fs : Fin 16) (o : BitVec 21) (s : State) : Host.Outcome State Fault Refusal :=
  .next (runInsn s t.val .ori fv fs o)

/-- XORI. -/
def execSeqXori (t : TileN) (fv : Bool) (fs : Fin 16) (o : BitVec 21) (s : State) : Host.Outcome State Fault Refusal :=
  .next (runInsn s t.val .xori fv fs o)

/-- SHLI. -/
def execSeqShli (t : TileN) (fv : Bool) (fs : Fin 16) (o : BitVec 21) (s : State) : Host.Outcome State Fault Refusal :=
  .next (runInsn s t.val .shli fv fs o)

/-- SHRI. -/
def execSeqShri (t : TileN) (fv : Bool) (fs : Fin 16) (o : BitVec 21) (s : State) : Host.Outcome State Fault Refusal :=
  .next (runInsn s t.val .shri fv fs o)

/-- SARI. -/
def execSeqSari (t : TileN) (fv : Bool) (fs : Fin 16) (o : BitVec 21) (s : State) : Host.Outcome State Fault Refusal :=
  .next (runInsn s t.val .sari fv fs o)

/-- SLTI. -/
def execSeqSlti (t : TileN) (fv : Bool) (fs : Fin 16) (o : BitVec 21) (s : State) : Host.Outcome State Fault Refusal :=
  .next (runInsn s t.val .slti fv fs o)

/-- LUI. -/
def execSeqLui (t : TileN) (fv : Bool) (fs : Fin 16) (o : BitVec 21) (s : State) : Host.Outcome State Fault Refusal :=
  .next (runInsn s t.val .lui fv fs o)

/-- LI. -/
def execSeqLi (t : TileN) (fv : Bool) (fs : Fin 16) (o : BitVec 21) (s : State) : Host.Outcome State Fault Refusal :=
  .next (runInsn s t.val .li fv fs o)

/-- LLO. -/
def execSeqLlo (t : TileN) (fv : Bool) (fs : Fin 16) (o : BitVec 21) (s : State) : Host.Outcome State Fault Refusal :=
  .next (runInsn s t.val .llo fv fs o)

/-- LD. -/
def execSeqLd (t : TileN) (fv : Bool) (fs : Fin 16) (o : BitVec 21) (s : State) : Host.Outcome State Fault Refusal :=
  .next (runInsn s t.val .ld fv fs o)

/-- ST. -/
def execSeqSt (t : TileN) (fv : Bool) (fs : Fin 16) (o : BitVec 21) (s : State) : Host.Outcome State Fault Refusal :=
  .next (runInsn s t.val .st fv fs o)

/-- BEQ. -/
def execSeqBeq (t : TileN) (fv : Bool) (fs : Fin 16) (o : BitVec 21) (s : State) : Host.Outcome State Fault Refusal :=
  .next (runInsn s t.val .beq fv fs o)

/-- BNE. -/
def execSeqBne (t : TileN) (fv : Bool) (fs : Fin 16) (o : BitVec 21) (s : State) : Host.Outcome State Fault Refusal :=
  .next (runInsn s t.val .bne fv fs o)

/-- BLT. -/
def execSeqBlt (t : TileN) (fv : Bool) (fs : Fin 16) (o : BitVec 21) (s : State) : Host.Outcome State Fault Refusal :=
  .next (runInsn s t.val .blt fv fs o)

/-- BGE. -/
def execSeqBge (t : TileN) (fv : Bool) (fs : Fin 16) (o : BitVec 21) (s : State) : Host.Outcome State Fault Refusal :=
  .next (runInsn s t.val .bge fv fs o)

/-- BLTU. -/
def execSeqBltu (t : TileN) (fv : Bool) (fs : Fin 16) (o : BitVec 21) (s : State) : Host.Outcome State Fault Refusal :=
  .next (runInsn s t.val .bltu fv fs o)

/-- BGEU. -/
def execSeqBgeu (t : TileN) (fv : Bool) (fs : Fin 16) (o : BitVec 21) (s : State) : Host.Outcome State Fault Refusal :=
  .next (runInsn s t.val .bgeu fv fs o)

/-- J. -/
def execSeqJ (t : TileN) (fv : Bool) (fs : Fin 16) (o : BitVec 21) (s : State) : Host.Outcome State Fault Refusal :=
  .next (runInsn s t.val .j fv fs o)

/-- JR. -/
def execSeqJr (t : TileN) (fv : Bool) (fs : Fin 16) (o : BitVec 21) (s : State) : Host.Outcome State Fault Refusal :=
  .next (runInsn s t.val .jr fv fs o)

/-- CALL. -/
def execSeqCall (t : TileN) (fv : Bool) (fs : Fin 16) (o : BitVec 21) (s : State) : Host.Outcome State Fault Refusal :=
  .next (runInsn s t.val .call fv fs o)

/-- CALLR. -/
def execSeqCallr (t : TileN) (fv : Bool) (fs : Fin 16) (o : BitVec 21) (s : State) : Host.Outcome State Fault Refusal :=
  .next (runInsn s t.val .callr fv fs o)

/-- RET. -/
def execSeqRet (t : TileN) (fv : Bool) (fs : Fin 16) (o : BitVec 21) (s : State) : Host.Outcome State Fault Refusal :=
  .next (runInsn s t.val .ret fv fs o)

/-- RETE. -/
def execSeqRete (t : TileN) (fv : Bool) (fs : Fin 16) (o : BitVec 21) (s : State) : Host.Outcome State Fault Refusal :=
  .next (runInsn s t.val .rete fv fs o)

/-- REPI. -/
def execSeqRepi (t : TileN) (fv : Bool) (fs : Fin 16) (o : BitVec 21) (s : State) : Host.Outcome State Fault Refusal :=
  .next (runInsn s t.val .repi fv fs o)

/-- REPR. -/
def execSeqRepr (t : TileN) (fv : Bool) (fs : Fin 16) (o : BitVec 21) (s : State) : Host.Outcome State Fault Refusal :=
  .next (runInsn s t.val .repr fv fs o)

/-- IN. -/
def execSeqIn (t : TileN) (fv : Bool) (fs : Fin 16) (o : BitVec 21) (s : State) : Host.Outcome State Fault Refusal :=
  .next (runInsn s t.val .in_ fv fs o)

/-- OUT. -/
def execSeqOut (t : TileN) (fv : Bool) (fs : Fin 16) (o : BitVec 21) (s : State) : Host.Outcome State Fault Refusal :=
  .next (runInsn s t.val .out fv fs o)

/-- INTAG. -/
def execSeqIntag (t : TileN) (fv : Bool) (fs : Fin 16) (o : BitVec 21) (s : State) : Host.Outcome State Fault Refusal :=
  .next (runInsn s t.val .intag fv fs o)

/-- PAGEI. -/
def execSeqPagei (t : TileN) (fv : Bool) (fs : Fin 16) (o : BitVec 21) (s : State) : Host.Outcome State Fault Refusal :=
  .next (runInsn s t.val .pagei fv fs o)

/-- PAGER. -/
def execSeqPager (t : TileN) (fv : Bool) (fs : Fin 16) (o : BitVec 21) (s : State) : Host.Outcome State Fault Refusal :=
  .next (runInsn s t.val .pager fv fs o)

/-- WAITEV. -/
def execSeqWaitev (t : TileN) (fv : Bool) (fs : Fin 16) (o : BitVec 21) (s : State) : Host.Outcome State Fault Refusal :=
  .next (runInsn s t.val .waitev fv fs o)

/-- RDTIME. -/
def execSeqRdtime (t : TileN) (fv : Bool) (fs : Fin 16) (o : BitVec 21) (s : State) : Host.Outcome State Fault Refusal :=
  .next (runInsn s t.val .rdtime fv fs o)

/-- SWEV. -/
def execSeqSwev (t : TileN) (fv : Bool) (fs : Fin 16) (o : BitVec 21) (s : State) : Host.Outcome State Fault Refusal :=
  .next (runInsn s t.val .swev fv fs o)

/-- HALT. -/
def execSeqHalt (t : TileN) (fv : Bool) (fs : Fin 16) (o : BitVec 21) (s : State) : Host.Outcome State Fault Refusal :=
  .next (runInsn s t.val .halt fv fs o)

/-! ### Scheduler, engines and registers -/

/-- WAITEV_COMPLETE. -/
def execWaitevComplete (t : TileN) (s : State) : Host.Outcome State Fault Refusal := .next (completeWait s t.val)

/-- LEVEL_SWITCH. -/
def execLevelSwitch (t : TileN) (s : State) : Host.Outcome State Fault Refusal := .next (switchLevel s t.val)

/-- TIMER_COMPARE. -/
def execTimerCompare (t : TileN) (n : Fin 2) (s : State) : Host.Outcome State Fault Refusal :=
  .next (whenReleased (fun s => timerFire s t.val n.val) s)

/-- HOLDOFF_LIMIT. -/
def execHoldoffLimit (t : TileN) (s : State) : Host.Outcome State Fault Refusal := .next (whenReleased (fun s => holdoffFire s t.val) s)

/-- STALL_LIMIT. -/
def execStallLimit (t : TileN) (s : State) : Host.Outcome State Fault Refusal := .next (whenReleased (fun s => stallFire s t.val) s)

/-- SPILL. -/
def execSpill (t : TileN) (s : State) : Host.Outcome State Fault Refusal := .next (whenReleased (fun s => spillFrame s t.val) s)

/-- FILL. -/
def execFill (t : TileN) (s : State) : Host.Outcome State Fault Refusal := .next (whenReleased (fun s => fillFrame s t.val) s)

/-- PAGE: a write of `TFCT.PAGE_CMD` with CMD = PAGE. -/
def execPage (t : TileN) (v : Word) (s : State) : Host.Outcome State Fault Refusal :=
  .next (tileCmd s t.val 1 TFCT.PAGE_CMD_CMD.off (word (setBits v.toNat 31 30 1)))

/-- FLUSH: a write of `TFCT.PAGE_CMD` with CMD = FLUSH. -/
def execFlush (t : TileN) (s : State) : Host.Outcome State Fault Refusal := .next (tileCmd s t.val 1 TFCT.PAGE_CMD_CMD.off (word (2 ^ 31)))

/-- PAGING_COMMAND_START. -/
def execPagingCommandStart (t : TileN) (s : State) : Host.Outcome State Fault Refusal := .next (whenReleased (fun s => startPaging s t.val) s)

/-- PAGE_COMMIT. -/
def execPageCommit (t : TileN) (s : State) : Host.Outcome State Fault Refusal := .next (whenReleased (fun s => commitPage s t.val) s)

/-- TSEQ_CTRL_HALT: a write of `TSEQ.CTRL` with HALT = 1. -/
def execTseqCtrlHalt (t : TileN) (s : State) : Host.Outcome State Fault Refusal := .next (tileCmd s t.val 0 HDR.CTRL.off 1)

/-- TSEQ_CTRL_RESUME: a write of `TSEQ.CTRL` with HALT = 0. -/
def execTseqCtrlResume (t : TileN) (s : State) : Host.Outcome State Fault Refusal := .next (tileCmd s t.val 0 HDR.CTRL.off 0)

/-- STEP: a write of `TSEQ.CTRL` with STEP = 1. -/
def execStep (t : TileN) (s : State) : Host.Outcome State Fault Refusal := .next (tileCmd s t.val 0 HDR.CTRL.off 2)

/-- SWEVT. -/
def execSwevt (t : TileN) (v : Word) (s : State) : Host.Outcome State Fault Refusal := .next (tileCmd s t.val 2 TSCH.SWEVT.off v)

/-- TIMER_ARM: a write of `TMRn_HI`. -/
def execTimerArm (t : TileN) (n : Fin 2) (v : Word) (s : State) : Host.Outcome State Fault Refusal :=
  .next (tileCmd s t.val 2 (TSCH.TMR_HI n.val).off v)

/-- WIN_DATA_WRITE. -/
def execWinDataWrite (t : TileN) (v : Word) (s : State) : Host.Outcome State Fault Refusal := .next (tileCmd s t.val 2 TSCH.WIN_DATA.off v)

/-- WIN_DATA_READ. -/
def execWinDataRead (t : TileN) (s : State) : Host.Outcome State Fault Refusal :=
  .next (let p := pgTSCH (posOf s t.val)
    if dieReset s || !(pagesReach s t.val) then s
    else if recovering s (posOf s t.val) then holdAccess s p TSCH.WIN_DATA.off 0 hostSrc true
    else readIndex s hostSrc p TSCH.WIN_DATA.off)

end Sys2Proof.Machine
end

