-- ==== Sys2Proof/Machine/Release.lean ====
section
/-! DEFINITION. The commands after which writes that waited at their pages are served
(R275, R284, R304, R341, R342). -/

namespace Sys2Proof.Machine
open Sys2Proof

/-- WR_EN: memory and every page take writes; those that waited are served in their order (R341, R342). -/
def writesEnable (s : State) : State :=
  if phaseNow s = some 3 then
    releaseTiles (phaseEnd (flushHeld { s with writesOpen := true }) 3)
  else s

/-- The lockets of a tile's position have one more: the work that waited for it goes on. -/
def locketCommitted (s : State) (t : Nat) : State := flushHeld (afterCommit (commitLocket s t) (posOf s t))

/-- WR_EN. -/
def execWrEn (s : State) : Host.Outcome State Fault Refusal := .next (writesEnable s)

/-- LOCKET_COMMIT. -/
def execLocketCommit (t : TileN) (s : State) : Host.Outcome State Fault Refusal := .next (locketCommitted s t.val)

/-- RECOVERY_STEP_DONE: the next step of the recovery of a position. -/
def execRecoveryStepDone (t : TileN) (s : State) : Host.Outcome State Fault Refusal := .next (flushHeld (stepDone s t.val))

/-- REPLAY_END. -/
def execReplayEnd (t : TileN) (s : State) : Host.Outcome State Fault Refusal := .next (flushHeld (replayEnded s t.val))

/-- RESTART. -/
def execRestart (t : TileN) (s : State) : Host.Outcome State Fault Refusal :=
  .next (flushHeld (byAction s 2 (pgTSEQ t.val) 0 (eccCodeOf s (pgTBNK ((servedBy s t.val).getD t.val))) false))

/-- RETIRE_TILE. -/
def execRetireTile (t : TileN) (s : State) : Host.Outcome State Fault Refusal :=
  .next (flushHeld (byAction s 3 (pgTSEQ t.val) 0 (eccCodeOf s (pgTBNK ((servedBy s t.val).getD t.val))) false))

/-- LOCKSTEP_MISMATCH: `a` and `b` say which tile of the pair passes its self-check. -/
def execLockstepMismatch (r : RegN) (n : Fin 2) (a b : Bool) (s : State) : Host.Outcome State Fault Refusal :=
  .next (flushHeld (pairMismatch s r.val n.val a b))

/-- TILE_STATE_FAULT. -/
def execTileStateFault (t : TileN) (s : State) : Host.Outcome State Fault Refusal := .next (flushHeld (tileStateFault s t.val))

/-- CLOCK_STOPPED. -/
def execClockStopped (t : TileN) (s : State) : Host.Outcome State Fault Refusal := .next (flushHeld (clockStopped s t.val))

end Sys2Proof.Machine
end

