-- ==== Sys2Proof/Machine/Maint.lean ====
section
/-! DEFINITION. The maintenance port: frames, UART and SPI and I²C targets, and JTAG (R452 to R457). Frames are kept by
port: 0 and 1 the UARTs, 2 SPI, 3 I²C, 4 JTAG. -/

namespace Sys2Proof.Machine
open Sys2Proof

/-! ### Frames (R452) -/

/-- Bytes of a frame by its header; `none` while the header is not complete (log 67). -/
def frameBytes (f : List Byte) : Option Nat :=
  match f with
  | c :: n :: _ => some (if c = 2 then 12 + 4 * n.toNat else 12)
  | _ => none

/-- The frame's fields have the lengths of R452 and its CRC is right. -/
def frameOk (f : List Byte) : Bool :=
  let c := (f.getD 0 0).toNat
  let n := (f.getD 1 0).toNat
  decide (frameBytes f = some f.length) &&
    (if c = 4 then decide (n = 0) else decide (c = 1 ∨ c = 2) && decide (1 ≤ n ∧ n ≤ 64)) &&
    decide (ofBytes (f.drop (f.length - 4)) = crc32c (f.take (f.length - 4)))

/-- Word addresses of a frame; bits [1:0] are ignored (log 67). -/
def frameAddrs (f : List Byte) : List Nat :=
  let a := ofBytes ((f.drop 2).take 6) / 4 * 4
  (List.range (f.getD 1 0).toNat).map fun i => a + 4 * i

/-- Only pages 0x002, 0x003 and 0x11C are reached until STATE first reaches RUN, and in FAILED and HOLD. -/
def maintLimited (s : State) : Bool := !s.load.everRun || loadState s == 6 || loadState s == 7

/-- The code with which an access of the port is refused before it is performed. -/
def maintCode (s : State) (a : Nat) : Nat :=
  let open_ := match placeOf a with
    | .page p _ => decide (p = 2 ∨ p = 3 ∨ p = 0x11C)
    | _ => false
  if maintLimited s && !open_ then 0x18
  else firstCode (interfaceCode a) (if routeRefused s 0x233 a then 0x33 else 0)

/-- An access that has to wait at its target (R275, R342). -/
def maintWaits (s : State) (write : Bool) (a : Nat) : Bool :=
  decide (maintCode s a = 0) && (placeHeld s 0x233 (placeOf a) || (write && writeWaits s 0x233 (placeOf a)))

/-- A refused access is recorded by the port's page (R20). -/
def maintNote (s : State) (a code : Nat) : State :=
  if 0x10 ≤ code ∧ code < 0x20 then refuseAt s pgMSER code (a % 2 ^ 32) else s

/-- Reads words one after another; the first fault ends the frame: code, bytes read, state. -/
def maintReads : List Nat → State → List Byte → Nat × List Byte × State
  | [], s, bs => (0, bs, s)
  | a :: as, s, bs =>
    let c := maintCode s a
    if c ≠ 0 then (c, bs, maintNote s a c)
    else
      let x := readAt (countDirect s 0x233 false 4) (.of 0x233) a 4
      if x.2.1 ≠ 0 then (x.2.1, bs, maintNote x.2.2 a x.2.1) else maintReads as x.2.2 (bs ++ spanOf x.1 (a % 64) 4)

/-- Writes words one after another. -/
def maintWrites : List Nat → State → List Byte → Nat × State
  | [], s, _ => (0, s)
  | a :: as, s, bs =>
    let c := maintCode s a
    if c ≠ 0 then (c, maintNote s a c)
    else
      let x := writeAt (countDirect s 0x233 true 4) (.of 0x233) a (spanBe (a % 64) 4) (spanData (a % 64) (bs.take 4)) false 0
      if x.2 ≠ 0 then (x.2, maintNote x.1 a x.2) else maintWrites as x.1 (bs.drop 4)

/-- The reply: CODE, data, CRC-32C over them. -/
def replyOf (code : Nat) (bs : List Byte) : List Byte :=
  let r := BitVec.ofNat 8 code :: bs
  r ++ toBytes 4 (crc32c r)

def setReply (s : State) (p : Nat) (r : List Byte) : State := modSer s fun x => { x with reply := put [] x.reply p r }

/-- Serves a whole frame of port `p`: the state after it, or `none` while one of its accesses has to wait. -/
def serveFrame (s : State) (p : Nat) (f : List Byte) : Option State :=
  if !(frameOk f) then some (setReply s p (replyOf 0x30 []))
  else
    let as := frameAddrs f
    match (f.getD 0 0).toNat with
    | 1 =>
      if as.any (maintWaits s false) then none
      else
        let x := maintReads as s []
        some (setReply x.2.2 p (replyOf x.1 x.2.1))
    | 2 =>
      if as.any (maintWaits s true) then none
      else
        let x := maintWrites as s (f.drop 8)
        some (setReply x.2 p (replyOf x.1 []))
    | _ => some (setReply s p (replyOf 0 (toBytes 4 (regAt s pgDCFG DCFG.STATUS_STATE.off).toNat)))

def frameOf (s : State) (p : Nat) : List Byte := look [] s.ser.frame p
def setFrame (s : State) (p : Nat) (f : List Byte) : State := modSer s fun x => { x with frame := put [] x.frame p f }

/-- Serves the frame that port `p` holds, when it is whole and none of its accesses has to wait. -/
def pumpFrame (s : State) (p : Nat) : State :=
  let f := frameOf s p
  let whole := if p = 2 ∨ p = 3 then !f.isEmpty else (frameBytes f).any fun n => decide (n ≤ f.length)
  if whole then
    match serveFrame s p f with
    | some s => setFrame s p []
    | none => s
  else s

/-- A frame that arrives whole at port `p`. A port that still holds one takes no other. -/
def takeFrame (s : State) (p : Nat) (f : List Byte) : State :=
  if dieReset s || !(frameOf s p).isEmpty || f.isEmpty then s else pumpFrame (setFrame (setReply s p []) p f) p

/-- A byte of a frame on a UART or on JTAG. -/
def takeByte (s : State) (p : Nat) (b : Byte) : State :=
  let f := frameOf s p
  if (frameBytes f).any fun n => decide (n ≤ f.length) then s
  else pumpFrame (setFrame s p (f ++ [b])) p

/-- A port serves frames: a UART in MAINT mode, the SPI port as target, the I²C target (R452 to R455). -/
def servesFrames (s : State) (p : Nat) : Bool :=
  if p < 2 then uartMode s p == 2 else if p = 2 then !(flagF s pgMSER MSER.SPI_CFG_ROLE) else true

/-- A frame command: the frame's CMD must be the command's. -/
def frameCmd (cmd : Nat) (p : Nat) (f : List Byte) (s : State) : State :=
  if servesFrames s p && (f.getD 0 0).toNat == cmd then takeFrame s p f else s

/-- What a read of a port's reply returns: bytes of 0xFF until one is there (R455). -/
def replyRead (s : State) (p : Nat) : State :=
  setRead s (if (look [] s.ser.reply p).isEmpty then [0xFF] else look [] s.ser.reply p)

/-- MAINT_READ. -/
def execMaintRead (p : Fin 4) (f : List Byte) (s : State) : Host.Outcome State Fault Refusal := .next (frameCmd 1 p.val f s)

/-- MAINT_WRITE. -/
def execMaintWrite (p : Fin 4) (f : List Byte) (s : State) : Host.Outcome State Fault Refusal := .next (frameCmd 2 p.val f s)

/-- MAINT_STATUS. -/
def execMaintStatus (p : Fin 4) (f : List Byte) (s : State) : Host.Outcome State Fault Refusal := .next (frameCmd 4 p.val f s)

/-! ### UARTs (R453) -/

/-- A byte received on UART `n`; one that finds the CONSOLE queue full is discarded, counted and reported (R13). -/
def uartTake (s : State) (n : Nat) (b : Byte) : State :=
  if dieReset s then s
  else match uartMode s n with
  | 1 =>
    let q := look [] s.ser.rx n
    if q.length < 64 then modSer s fun x => { x with rx := put [] x.rx n (q ++ [b]) }
    else raiseEv (incF s pgMSER (MSER.UART_STAT_OVR n) 1) pgMSER 0x6D 0
  | 2 => takeByte s n b
  | _ => s

/-- UART_RECEIVE. -/
def execUartReceive (n : Fin 2) (b : Byte) (s : State) : Host.Outcome State Fault Refusal := .next (uartTake s n.val b)

/-! ### The SPI target (R337, R454) -/

/-- The load source is SPI and the engine takes bytes. -/
def spiReady (s : State) : Bool := decide (loadSource s = 4) && decide (loadState s = 1 ∨ loadState s = 2)

def spiTarget (s : State) : Bool := !(dieReset s) && !(flagF s pgMSER MSER.SPI_CFG_ROLE)

/-- LOAD or QLOAD: image bytes while READY = 1; while READY = 0 a running load ends with 0x7B. -/
def spiLoad (s : State) (d : List Byte) : State :=
  if !(spiTarget s) then s
  else if spiReady s then { s with loadBuf := s.loadBuf ++ d.take 4096 }
  else if loadSource s = 4 ∧ 1 ≤ loadState s ∧ loadState s ≤ 4 then loadFailed s 0x7B noOfs noSect
  else s

/-- The byte of RDSR. -/
def rdsrByte (s : State) : Nat :=
  b2n (spiReady s) + 2 * b2n (loadState s == 6) + 4 * b2n (loadState s == 5)

/-- QLOAD. -/
def execQload (d : List Byte) (s : State) : Host.Outcome State Fault Refusal := .next (spiLoad s d)

/-- RDSR. -/
def execRdsr (s : State) : Host.Outcome State Fault Refusal :=
  .next (if spiTarget s then setRead (modSer s fun x => { x with spiByte := BitVec.ofNat 8 (rdsrByte s) }) [BitVec.ofNat 8 (rdsrByte s)] else s)

/-- MFRAME: a frame, or, with no bytes, the read of its reply. -/
def execMframe (d : List Byte) (s : State) : Host.Outcome State Fault Refusal :=
  .next (if spiTarget s then (if d.isEmpty then replyRead s 2 else takeFrame s 2 d) else s)

/-! ### The I²C target (R455) -/

/-- I2C_TARGET_FRAME: a write transaction with a frame, or, with no bytes, a read transaction. -/
def execI2cTargetFrame (d : List Byte) (s : State) : Host.Outcome State Fault Refusal :=
  .next (if dieReset s then s else if d.isEmpty then replyRead s 3 else takeFrame s 3 d)

/-! ### JTAG (R456) -/

/-- EXTEST and CLAMP act only in FAILED and HOLD; else the instruction acts as BYPASS. -/
def jtagPins (s : State) (ir : Nat) : State :=
  modSer s fun x => { x with ir := if loadState s = 6 ∨ loadState s = 7 then ir else 0xFF }

def setIr (s : State) (ir : Nat) : State := modSer s fun x => { x with ir := ir }

/-- EXTEST. -/
def execExtest (s : State) : Host.Outcome State Fault Refusal := .next (jtagPins s 0x00)

/-- SAMPLE: `now` is what the pins show, `pre` what is preloaded. -/
def execSample (now pre : BitVec 585) (s : State) : Host.Outcome State Fault Refusal :=
  .next (modSer s fun x => { x with ir := 0x01, captured := now, boundary := pre })

/-- IDCODE. -/
def execIdcode (s : State) : Host.Outcome State Fault Refusal := .next (modSer s fun x => { x with ir := 0x02, dr := 0x096405B3 })

/-- CLAMP. -/
def execClamp (s : State) : Host.Outcome State Fault Refusal := .next (jtagPins s 0x03)

/-- HIGHZ. -/
def execHighz (s : State) : Host.Outcome State Fault Refusal := .next (setIr s 0x04)

/-- The pins of the chain are driven from the boundary register, or are at high impedance, or belong to the device. -/
inductive ChainPins where
  | device | boundary | highZ
  deriving DecidableEq, Repr

def chainPins (s : State) : ChainPins :=
  if s.ser.ir = 4 then .highZ
  else if (s.ser.ir = 0 ∨ s.ser.ir = 3) ∧ (loadState s = 6 ∨ loadState s = 7) then .boundary
  else .device

/-- A byte shifted through the MAINT register: it goes to the frame, and the next byte of the reply comes out. -/
def jtagByte (s : State) (b : Byte) : State :=
  let s := modSer s fun x => { x with ir := 0x10, dr := (x.dr / 256 + b.toNat * 2 ^ 24) % 2 ^ 32 }
  match s.ser.tdo with
  | o :: rest => setRead (modSer s fun x => { x with tdo := rest }) [o]
  | [] =>
    let s := setRead (takeByte s 4 b) [0xFF]
    if (frameOf s 4).isEmpty then modSer s fun x => { x with tdo := look [] x.reply 4, reply := put [] x.reply 4 [] } else s

/-- MAINT. -/
def execMaint (b : Byte) (s : State) : Host.Outcome State Fault Refusal := .next (if dieReset s then s else jtagByte s b)

/-- BYPASS. -/
def execBypass (s : State) : Host.Outcome State Fault Refusal := .next (setIr s 0xFF)

end Sys2Proof.Machine
end

