-- ==== Sys2Proof/Machine/Tick.lean ====
section
/-! DEFINITION. One tick of the 100 MHz reference: the time base, the limiters, the serial ports, and what waited
(R198, R249, R258, R259, R342, R349, R453 to R455). -/

namespace Sys2Proof.Machine
open Sys2Proof

/-- Maintenance frames that waited at their targets. -/
def framesTick (s : State) : State := (List.range 5).foldl pumpFrame s

/-- The cycles of halted tiles in a tick are held off (R124, R130). -/
def haltedTick (s : State) : State :=
  s.tiles.foldl (fun s x =>
    if x.2.halted && !(tileGated s x.1) && !(tileRetired s x.1) then noteHold s x.1 true (eventWaits s x.1) (tileEdges s x.1)
    else s) s

/-- Counts the region cycles, ten in a tick, in which a journal is full (R272). -/
def fullTick (s : State) : State :=
  (List.range 16).foldl (fun s r => if (rjOf s r).full then incF s (pgRJNL r) RJNL.FULL_CNT 10 else s) s

/-- A handover message that a packet brought is acted on (R349). -/
def messageTick (s : State) : State := if s.strand.paired.message.isSome then handoverTaken s else s

/-- Requests from outside that waited for a tag or for credits go on (R12, R218). -/
def requestsTick (s : State) : State := barPump ((List.range 6).foldl (fun s e => drainRemote 64 s e) s)

/-- One tick of the reference (log 1). On a die in reset nothing counts (R258, R474); only the module's own times pass. -/
def refTick (s : State) : State :=
  if dieReset s then { s with age := s.age + 1 }
  else requestsTick (portTick (framesTick (flushHeld (messageTick (handOver (serialTick (tickCredits (haltedTick (fullTick (tick s))))))))))

/-- TB_SLEW: a reference tick at which slewing is due. -/
def execTbSlew (s : State) : Host.Outcome State Fault Refusal := .next (if slewDue s then refTick s else s)

end Sys2Proof.Machine
end

