-- ==== Sys2Proof/Machine/Dispatch.lean ====
section
/-! DEFINITION. One arm per command: the call of its meaning. -/

namespace Sys2Proof.Machine
open Sys2Proof

/-- The effect of one command on everything but the queue. -/
def exec (i : Instr) (s : State) : Host.Outcome State Fault Refusal :=
  match i with
  | .seqNop t fv fs o => Sys2Proof.Machine.execSeqNop t fv fs o s
  | .seqAdd t fv fs o => Sys2Proof.Machine.execSeqAdd t fv fs o s
  | .seqSub t fv fs o => Sys2Proof.Machine.execSeqSub t fv fs o s
  | .seqAnd t fv fs o => Sys2Proof.Machine.execSeqAnd t fv fs o s
  | .seqOr t fv fs o => Sys2Proof.Machine.execSeqOr t fv fs o s
  | .seqXor t fv fs o => Sys2Proof.Machine.execSeqXor t fv fs o s
  | .seqShl t fv fs o => Sys2Proof.Machine.execSeqShl t fv fs o s
  | .seqShr t fv fs o => Sys2Proof.Machine.execSeqShr t fv fs o s
  | .seqSar t fv fs o => Sys2Proof.Machine.execSeqSar t fv fs o s
  | .seqSlt t fv fs o => Sys2Proof.Machine.execSeqSlt t fv fs o s
  | .seqSltu t fv fs o => Sys2Proof.Machine.execSeqSltu t fv fs o s
  | .seqMul t fv fs o => Sys2Proof.Machine.execSeqMul t fv fs o s
  | .seqAddi t fv fs o => Sys2Proof.Machine.execSeqAddi t fv fs o s
  | .seqAndi t fv fs o => Sys2Proof.Machine.execSeqAndi t fv fs o s
  | .seqOri t fv fs o => Sys2Proof.Machine.execSeqOri t fv fs o s
  | .seqXori t fv fs o => Sys2Proof.Machine.execSeqXori t fv fs o s
  | .seqShli t fv fs o => Sys2Proof.Machine.execSeqShli t fv fs o s
  | .seqShri t fv fs o => Sys2Proof.Machine.execSeqShri t fv fs o s
  | .seqSari t fv fs o => Sys2Proof.Machine.execSeqSari t fv fs o s
  | .seqSlti t fv fs o => Sys2Proof.Machine.execSeqSlti t fv fs o s
  | .seqLui t fv fs o => Sys2Proof.Machine.execSeqLui t fv fs o s
  | .seqLi t fv fs o => Sys2Proof.Machine.execSeqLi t fv fs o s
  | .seqLlo t fv fs o => Sys2Proof.Machine.execSeqLlo t fv fs o s
  | .seqLd t fv fs o => Sys2Proof.Machine.execSeqLd t fv fs o s
  | .seqSt t fv fs o => Sys2Proof.Machine.execSeqSt t fv fs o s
  | .seqBeq t fv fs o => Sys2Proof.Machine.execSeqBeq t fv fs o s
  | .seqBne t fv fs o => Sys2Proof.Machine.execSeqBne t fv fs o s
  | .seqBlt t fv fs o => Sys2Proof.Machine.execSeqBlt t fv fs o s
  | .seqBge t fv fs o => Sys2Proof.Machine.execSeqBge t fv fs o s
  | .seqBltu t fv fs o => Sys2Proof.Machine.execSeqBltu t fv fs o s
  | .seqBgeu t fv fs o => Sys2Proof.Machine.execSeqBgeu t fv fs o s
  | .seqJ t fv fs o => Sys2Proof.Machine.execSeqJ t fv fs o s
  | .seqJr t fv fs o => Sys2Proof.Machine.execSeqJr t fv fs o s
  | .seqCall t fv fs o => Sys2Proof.Machine.execSeqCall t fv fs o s
  | .seqCallr t fv fs o => Sys2Proof.Machine.execSeqCallr t fv fs o s
  | .seqRet t fv fs o => Sys2Proof.Machine.execSeqRet t fv fs o s
  | .seqRete t fv fs o => Sys2Proof.Machine.execSeqRete t fv fs o s
  | .seqRepi t fv fs o => Sys2Proof.Machine.execSeqRepi t fv fs o s
  | .seqRepr t fv fs o => Sys2Proof.Machine.execSeqRepr t fv fs o s
  | .seqIn t fv fs o => Sys2Proof.Machine.execSeqIn t fv fs o s
  | .seqOut t fv fs o => Sys2Proof.Machine.execSeqOut t fv fs o s
  | .seqIntag t fv fs o => Sys2Proof.Machine.execSeqIntag t fv fs o s
  | .seqPagei t fv fs o => Sys2Proof.Machine.execSeqPagei t fv fs o s
  | .seqPager t fv fs o => Sys2Proof.Machine.execSeqPager t fv fs o s
  | .seqWaitev t fv fs o => Sys2Proof.Machine.execSeqWaitev t fv fs o s
  | .waitevComplete t => Sys2Proof.Machine.execWaitevComplete t s
  | .seqRdtime t fv fs o => Sys2Proof.Machine.execSeqRdtime t fv fs o s
  | .seqSwev t fv fs o => Sys2Proof.Machine.execSeqSwev t fv fs o s
  | .seqHalt t fv fs o => Sys2Proof.Machine.execSeqHalt t fv fs o s
  | .levelSwitch t => Sys2Proof.Machine.execLevelSwitch t s
  | .timerCompare t n => Sys2Proof.Machine.execTimerCompare t n s
  | .holdoffLimit t => Sys2Proof.Machine.execHoldoffLimit t s
  | .stallLimit t => Sys2Proof.Machine.execStallLimit t s
  | .spill t => Sys2Proof.Machine.execSpill t s
  | .fill t => Sys2Proof.Machine.execFill t s
  | .page t v => Sys2Proof.Machine.execPage t v s
  | .flush t => Sys2Proof.Machine.execFlush t s
  | .pagingCommandStart t => Sys2Proof.Machine.execPagingCommandStart t s
  | .pageCommit t => Sys2Proof.Machine.execPageCommit t s
  | .tseqCtrlHalt t => Sys2Proof.Machine.execTseqCtrlHalt t s
  | .tseqCtrlResume t => Sys2Proof.Machine.execTseqCtrlResume t s
  | .step t => Sys2Proof.Machine.execStep t s
  | .swevt t v => Sys2Proof.Machine.execSwevt t v s
  | .timerArm t n v => Sys2Proof.Machine.execTimerArm t n v s
  | .winDataWrite t v => Sys2Proof.Machine.execWinDataWrite t v s
  | .winDataRead t => Sys2Proof.Machine.execWinDataRead t s
  | .reqRead r d e => Sys2Proof.Machine.execReqRead r d e s
  | .reqWrite r d e bad => Sys2Proof.Machine.execReqWrite r d e bad s
  | .rdata r d e lat => Sys2Proof.Machine.execRdata r d e lat s
  | .wack r d e lat => Sys2Proof.Machine.execWack r d e lat s
  | .eccWriteBack a => Sys2Proof.Machine.execEccWriteBack a s
  | .registerWrite page off v src => Sys2Proof.Machine.execRegisterWrite page off v src s
  | .starveLimit t bank => Sys2Proof.Machine.execStarveLimit t bank s
  | .pwrCmdOff page bank => Sys2Proof.Machine.execPwrCmdOff page bank s
  | .pwrCmdRet page bank => Sys2Proof.Machine.execPwrCmdRet page bank s
  | .pwrCmdOn page bank => Sys2Proof.Machine.execPwrCmdOn page bank s
  | .bankStateReached page bank => Sys2Proof.Machine.execBankStateReached page bank s
  | .polisherStep r => Sys2Proof.Machine.execPolisherStep r s
  | .polisherStepDone r w bits => Sys2Proof.Machine.execPolisherStepDone r w bits s
  | .acquire r n src => Sys2Proof.Machine.execAcquire r n src s
  | .release r n src => Sys2Proof.Machine.execRelease r n src s
  | .clrorph r n src => Sys2Proof.Machine.execClrorph r n src s
  | .semTake r n => Sys2Proof.Machine.execSemTake r n s
  | .semGive r v => Sys2Proof.Machine.execSemGive r v s
  | .start c => Sys2Proof.Machine.execStart c s
  | .reset c => Sys2Proof.Machine.execReset c s
  | .haltreq c => Sys2Proof.Machine.execHaltreq c s
  | .doorbell c => Sys2Proof.Machine.execDoorbell c s
  | .descFetch c => Sys2Proof.Machine.execDescFetch c s
  | .copy c => Sys2Proof.Machine.execCopy c s
  | .compare c => Sys2Proof.Machine.execCompare c s
  | .gather c => Sys2Proof.Machine.execGather c s
  | .scatter c => Sys2Proof.Machine.execScatter c s
  | .dmaReadBeat c => Sys2Proof.Machine.execDmaReadBeat c s
  | .dmaWriteBeat c => Sys2Proof.Machine.execDmaWriteBeat c s
  | .descComplete c => Sys2Proof.Machine.execDescComplete c s
  | .recheck c => Sys2Proof.Machine.execRecheck c s
  | .respSlow c => Sys2Proof.Machine.execRespSlow c s
  | .flitForward r out w corr => Sys2Proof.Machine.execFlitForward r out w corr s
  | .linkResend r p => Sys2Proof.Machine.execLinkResend r p s
  | .streamData r d corr bad => Sys2Proof.Machine.execStreamData r d corr bad s
  | .streamCredit r d => Sys2Proof.Machine.execStreamCredit r d s
  | .streamPacketSend r k => Sys2Proof.Machine.execStreamPacketSend r k s
  | .packWait r k => Sys2Proof.Machine.execPackWait r k s
  | .creditReturn r k => Sys2Proof.Machine.execCreditReturn r k s
  | .endpointEnable r k => Sys2Proof.Machine.execEndpointEnable r k s
  | .endpointDisable r k => Sys2Proof.Machine.execEndpointDisable r k s
  | .memModeMark r k => Sys2Proof.Machine.execMemModeMark r k s
  | .memModeWrite r k => Sys2Proof.Machine.execMemModeWrite r k s
  | .memModeLastWrite r k => Sys2Proof.Machine.execMemModeLastWrite r k s
  | .memModeRead r k => Sys2Proof.Machine.execMemModeRead r k s
  | .statsClear r j => Sys2Proof.Machine.execStatsClear r j s
  | .clockSwitch t v => Sys2Proof.Machine.execClockSwitch t v s
  | .clockSwitchDone t => Sys2Proof.Machine.execClockSwitchDone t s
  | .pllConfigWrite r b v => Sys2Proof.Machine.execPllConfigWrite r b v s
  | .pllLock r b => Sys2Proof.Machine.execPllLock r b s
  | .pllUnlock r b => Sys2Proof.Machine.execPllUnlock r b s
  | .refLost => Sys2Proof.Machine.execRefLost s
  | .refSelect v => Sys2Proof.Machine.execRefSelect v s
  | .railSet r v => Sys2Proof.Machine.execRailSet r v s
  | .neighbourLimit r side => Sys2Proof.Machine.execNeighbourLimit r side s
  | .retrim key => Sys2Proof.Machine.execRetrim key s
  | .slipEnter key => Sys2Proof.Machine.execSlipEnter key s
  | .slipLeave key => Sys2Proof.Machine.execSlipLeave key s
  | .claspDeliver key => Sys2Proof.Machine.execClaspDeliver key s
  | .tbStep v => Sys2Proof.Machine.execTbStep v s
  | .tbSlew => Sys2Proof.Machine.execTbSlew s
  | .epochBoundary => Sys2Proof.Machine.execEpochBoundary s
  | .cut t => Sys2Proof.Machine.execCut t s
  | .journalFlush t => Sys2Proof.Machine.execJournalFlush t s
  | .locketCapture t => Sys2Proof.Machine.execLocketCapture t s
  | .locketCommit t => Sys2Proof.Machine.execLocketCommit t s
  | .recover t => Sys2Proof.Machine.execRecover t s
  | .recoveryStepDone t => Sys2Proof.Machine.execRecoveryStepDone t s
  | .replayEnd t => Sys2Proof.Machine.execReplayEnd t s
  | .restart t => Sys2Proof.Machine.execRestart t s
  | .lockstepMismatch r n a b => Sys2Proof.Machine.execLockstepMismatch r n a b s
  | .pairMirror => Sys2Proof.Machine.execPairMirror s
  | .pairAck => Sys2Proof.Machine.execPairAck s
  | .heart => Sys2Proof.Machine.execHeart s
  | .pairLost => Sys2Proof.Machine.execPairLost s
  | .tileStateFault t => Sys2Proof.Machine.execTileStateFault t s
  | .clockStopped t => Sys2Proof.Machine.execClockStopped t s
  | .corrLimit k w => Sys2Proof.Machine.execCorrLimit k w s
  | .retireTile t => Sys2Proof.Machine.execRetireTile t s
  | .selfcheck r pass => Sys2Proof.Machine.execSelfcheck r pass s
  | .bankSpare r b => Sys2Proof.Machine.execBankSpare r b s
  | .spareSwitch r => Sys2Proof.Machine.execSpareSwitch r s
  | .bankRetire r b => Sys2Proof.Machine.execBankRetire r b s
  | .chMove r n => Sys2Proof.Machine.execChMove r n s
  | .chWithdraw r n => Sys2Proof.Machine.execChWithdraw r n s
  | .linkRepair l => Sys2Proof.Machine.execLinkRepair l s
  | .linkDetour l => Sys2Proof.Machine.execLinkDetour l s
  | .pllMove r b => Sys2Proof.Machine.execPllMove r b s
  | .pllRelockTimeout r b => Sys2Proof.Machine.execPllRelockTimeout r b s
  | .coolStep r side => Sys2Proof.Machine.execCoolStep r side s
  | .phaseLost k phase => Sys2Proof.Machine.execPhaseLost k phase s
  | .assayerHeartbeat b => Sys2Proof.Machine.execAssayerHeartbeat b s
  | .assayerLost b => Sys2Proof.Machine.execAssayerLost b s
  | .takeover b => Sys2Proof.Machine.execTakeover b s
  | .assayerRestart b => Sys2Proof.Machine.execAssayerRestart b s
  | .failStatic => Sys2Proof.Machine.execFailStatic s
  | .note v src => Sys2Proof.Machine.execNote v src s
  | .powerOn => Sys2Proof.Machine.execPowerOn s
  | .pwrGood => Sys2Proof.Machine.execPwrGood s
  | .nreset => Sys2Proof.Machine.execNreset s
  | .boot m => Sys2Proof.Machine.execBoot m s
  | .waitsrc => Sys2Proof.Machine.execWaitsrc s
  | .load => Sys2Proof.Machine.execLoad s
  | .bankWave => Sys2Proof.Machine.execBankWave s
  | .loadData v => Sys2Proof.Machine.execLoadData v s
  | .donewait => Sys2Proof.Machine.execDonewait s
  | .doneTimeout => Sys2Proof.Machine.execDoneTimeout s
  | .clkLock late => Sys2Proof.Machine.execClkLock late s
  | .outRel => Sys2Proof.Machine.execOutRel s
  | .srRel => Sys2Proof.Machine.execSrRel s
  | .wrEn => Sys2Proof.Machine.execWrEn s
  | .loadCmd v => Sys2Proof.Machine.execLoadCmd v s
  | .handover v => Sys2Proof.Machine.execHandover v s
  | .flashErase v => Sys2Proof.Machine.execFlashErase v s
  | .flashProgram v => Sys2Proof.Machine.execFlashProgram v s
  | .flashRead v => Sys2Proof.Machine.execFlashRead v s
  | .flashDone => Sys2Proof.Machine.execFlashDone s
  | .bootSel v => Sys2Proof.Machine.execBootSel v s
  | .commit v => Sys2Proof.Machine.execCommit v s
  | .reload v => Sys2Proof.Machine.execReload v s
  | .frame seg => Sys2Proof.Machine.execFrame seg s
  | .framedSlot seg pin => Sys2Proof.Machine.execFramedSlot seg pin s
  | .tokenPortIn j => Sys2Proof.Machine.execTokenPortIn j s
  | .tokenPortOutTake j => Sys2Proof.Machine.execTokenPortOutTake j s
  | .dacLoad k => Sys2Proof.Machine.execDacLoad k s
  | .dacUpdate k => Sys2Proof.Machine.execDacUpdate k s
  | .analogStale k => Sys2Proof.Machine.execAnalogStale k s
  | .conn k v => Sys2Proof.Machine.execConn k v s
  | .adcSample raw => Sys2Proof.Machine.execAdcSample raw s
  | .adcDeliver k => Sys2Proof.Machine.execAdcDeliver k s
  | .diChange ch lvl => Sys2Proof.Machine.execDiChange ch lvl s
  | .diEvt => Sys2Proof.Machine.execDiEvt s
  | .outputOverload ch => Sys2Proof.Machine.execOutputOverload ch s
  | .fieldLow => Sys2Proof.Machine.execFieldLow s
  | .fieldRestored => Sys2Proof.Machine.execFieldRestored s
  | .doFaultClear v => Sys2Proof.Machine.execDoFaultClear v s
  | .traceTrigger => Sys2Proof.Machine.execTraceTrigger s
  | .force => Sys2Proof.Machine.execForce s
  | .traceEn v => Sys2Proof.Machine.execTraceEn v s
  | .memAlo v => Sys2Proof.Machine.execMemAlo v s
  | .loupeReadDone => Sys2Proof.Machine.execLoupeReadDone s
  | .linkTrain n md mw good => Sys2Proof.Machine.execLinkTrain n md mw good s
  | .laneFault n lane => Sys2Proof.Machine.execLaneFault n lane s
  | .linkDown n => Sys2Proof.Machine.execLinkDown n s
  | .linkRetry n => Sys2Proof.Machine.execLinkRetry n s
  | .idle n => Sys2Proof.Machine.execIdle n s
  | .data n f => Sys2Proof.Machine.execData n f s
  | .ctrl n f => Sys2Proof.Machine.execCtrl n f s
  | .nack n f => Sys2Proof.Machine.execNack n f s
  | .frameResendTimeout n => Sys2Proof.Machine.execFrameResendTimeout n s
  | .time n f => Sys2Proof.Machine.execTime n f s
  | .timeLost => Sys2Proof.Machine.execTimeLost s
  | .hello n f => Sys2Proof.Machine.execHello n f s
  | .req n f => Sys2Proof.Machine.execReq n f s
  | .grant n f => Sys2Proof.Machine.execGrant n f s
  | .refuse n f => Sys2Proof.Machine.execRefuse n f s
  | .announce n f => Sys2Proof.Machine.execAnnounce n f s
  | .move n f => Sys2Proof.Machine.execMove n f s
  | .config n f => Sys2Proof.Machine.execConfig n f s
  | .cfgtx n v => Sys2Proof.Machine.execCfgtx n v s
  | .clrlane n => Sys2Proof.Machine.execClrlane n s
  | .retrain n => Sys2Proof.Machine.execRetrain n s
  | .outboundResend n e => Sys2Proof.Machine.execOutboundResend n e s
  | .rtflush => Sys2Proof.Machine.execRtflush s
  | .rejoin => Sys2Proof.Machine.execRejoin s
  | .freeStrand num => Sys2Proof.Machine.execFreeStrand num s
  | .freeMember num => Sys2Proof.Machine.execFreeMember num s
  | .ethReceive n f => Sys2Proof.Machine.execEthReceive n f s
  | .ethTransmit n => Sys2Proof.Machine.execEthTransmit n s
  | .gateCycleStart n => Sys2Proof.Machine.execGateCycleStart n s
  | .swap n => Sys2Proof.Machine.execSwap n s
  | .tsId n => Sys2Proof.Machine.execTsId n s
  | .portFault n => Sys2Proof.Machine.execPortFault n s
  | .portDown n => Sys2Proof.Machine.execPortDown n s
  | .bridgeDatagram b f => Sys2Proof.Machine.execBridgeDatagram b f s
  | .bridgeResendTimeout b => Sys2Proof.Machine.execBridgeResendTimeout b s
  | .bridgeIdleCtrl b => Sys2Proof.Machine.execBridgeIdleCtrl b s
  | .bridgeDown b => Sys2Proof.Machine.execBridgeDown b s
  | .barWrite bar a be d ep => Sys2Proof.Machine.execBarWrite bar a be d ep s
  | .barRead bar a n => Sys2Proof.Machine.execBarRead bar a n s
  | .unsupportedRequest => Sys2Proof.Machine.execUnsupportedRequest s
  | .personalityRetrain => Sys2Proof.Machine.execPersonalityRetrain s
  | .pciePerst low => Sys2Proof.Machine.execPciePerst low s
  | .hotReset down => Sys2Proof.Machine.execHotReset down s
  | .functionLevelReset => Sys2Proof.Machine.execFunctionLevelReset s
  | .pcieLaneFault lane errs => Sys2Proof.Machine.execPcieLaneFault lane errs s
  | .msixMessage vec => Sys2Proof.Machine.execMsixMessage vec s
  | .swvec v => Sys2Proof.Machine.execSwvec v s
  | .hidxInbound k v => Sys2Proof.Machine.execHidxInbound k v s
  | .hidxOutbound k v => Sys2Proof.Machine.execHidxOutbound k v s
  | .hostRingWrite k => Sys2Proof.Machine.execHostRingWrite k s
  | .backgroundFill => Sys2Proof.Machine.execBackgroundFill s
  | .scrub => Sys2Proof.Machine.execScrub s
  | .maintRead p f => Sys2Proof.Machine.execMaintRead p f s
  | .maintWrite p f => Sys2Proof.Machine.execMaintWrite p f s
  | .maintStatus p f => Sys2Proof.Machine.execMaintStatus p f s
  | .uartReceive n b => Sys2Proof.Machine.execUartReceive n b s
  | .uartDataWrite n b => Sys2Proof.Machine.execUartDataWrite n b s
  | .qload d => Sys2Proof.Machine.execQload d s
  | .rdsr => Sys2Proof.Machine.execRdsr s
  | .mframe d => Sys2Proof.Machine.execMframe d s
  | .spiGo v => Sys2Proof.Machine.execSpiGo v s
  | .i2cGo v => Sys2Proof.Machine.execI2cGo v s
  | .i2cTargetFrame d => Sys2Proof.Machine.execI2cTargetFrame d s
  | .extest => Sys2Proof.Machine.execExtest s
  | .sample now pre => Sys2Proof.Machine.execSample now pre s
  | .idcode => Sys2Proof.Machine.execIdcode s
  | .clamp => Sys2Proof.Machine.execClamp s
  | .highz => Sys2Proof.Machine.execHighz s
  | .maint b => Sys2Proof.Machine.execMaint b s
  | .bypass => Sys2Proof.Machine.execBypass s
  | .undervoltage => Sys2Proof.Machine.execUndervoltage s
  | .overvoltage => Sys2Proof.Machine.execOvervoltage s
  | .supplyRange => Sys2Proof.Machine.execSupplyRange s
  | .railOutOfWindow k => Sys2Proof.Machine.execRailOutOfWindow k s
  | .currentLimit => Sys2Proof.Machine.execCurrentLimit s
  | .powerFail stby => Sys2Proof.Machine.execPowerFail stby s
  | .powerRestart => Sys2Proof.Machine.execPowerRestart s
  | .governorInterval vin iin pin field plate amps temps => Sys2Proof.Machine.execGovernorInterval vin iin pin field plate amps temps s
  | .powerLimit => Sys2Proof.Machine.execPowerLimit s
  | .thermalLimit => Sys2Proof.Machine.execThermalLimit s
  | .alertForce v => Sys2Proof.Machine.execAlertForce v s
  | .evtForce page v => Sys2Proof.Machine.execEvtForce page v s
  | .eventRingWrite => Sys2Proof.Machine.execEventRingWrite s
  | .qpop => Sys2Proof.Machine.execQpop s
  | .ridx v => Sys2Proof.Machine.execRidx v s
  | .ringCfg v => Sys2Proof.Machine.execRingCfg v s
  | .bezelCycle seg pins => Sys2Proof.Machine.execBezelCycle seg pins s
  | .pcieLinkTrain w sp => Sys2Proof.Machine.execPcieLinkTrain w sp s
  | .portUp n => Sys2Proof.Machine.execPortUp n s
  | .gateIntervalEnd n => Sys2Proof.Machine.execGateIntervalEnd n s
  | .handoverMessage => Sys2Proof.Machine.execHandoverMessage s
  | .inputSwitchClose => Sys2Proof.Machine.execInputSwitchClose s
  | .pwrGoodHeldLow held => Sys2Proof.Machine.execPwrGoodHeldLow held s
  | .assayerSelfTest a b => Sys2Proof.Machine.execAssayerSelfTest a b s
  | .joinRequestExpiry n => Sys2Proof.Machine.execJoinRequestExpiry n s

end Sys2Proof.Machine
end

