-- ==== Sys2Proof/Machine/Step.lean ====
section
/-! DEFINITION. One step: the command at the front of the queue, or, with no command waiting, one tick of the
reference (log 1). -/

namespace Sys2Proof.Machine
open Sys2Proof

/-- Takes the command at the front of the queue and answers its outcome on the rest; on an empty queue the reference
ticks (log 1). -/
def step (s : State) : Host.Outcome State Fault Refusal :=
  match s.pending with
  | [] => .next (refTick s)
  | c :: rest => exec c { s with pending := rest }

/-- `s` with the command that a word spells in front of its queue; `s` itself, since no word spells one. -/
def State.withFetchWord (s : State) (nbits w : Nat) : State :=
  match decodeTableWord nbits w with
  | some c => { s with pending := c :: s.pending }
  | none => s

end Sys2Proof.Machine
end

