-- ==== Sys2Proof/WellFormed.lean ====
section
/-! DEFINITION. When a command carries the data its row says: a check with a name for each, and the well-formedness of a
command. Every unit that a command can name exists by its operands' types. -/

namespace Sys2Proof

/-- One raw code for each of the 16 analog inputs (R374). -/
def samplesOk (raw : List Word) : Bool := decide (raw.length = 16)

/-- The data of one 64-byte block (R210). -/
def blockOk (d : List Byte) : Bool := decide (d.length = 64)

/-- One current for each of the 29 regulators and one temperature for each of the 16 regions and four bezel segments (R466, R480). -/
def measuresOk (amps temps : List (BitVec 16)) : Bool := decide (amps.length = 29) && decide (temps.length = 20)

/-- A command carries the data its row says. -/
def Instr.wf : Instr → Bool
  | .adcSample raw => samplesOk raw
  | .barWrite _ _ _ d _ => blockOk d
  | .governorInterval _ _ _ _ _ amps temps => measuresOk amps temps
  | _ => true

end Sys2Proof
end

