-- ==== Sys2Proof/Safety.lean ====
section
/-! DEFINITION. The terms in which claims are stated: how a command ends, what it leaves as it was, what it reports,
when a tile executes an instruction, and the invariant of the state. -/

namespace Sys2Proof.Safety
open Sys2Proof Sys2Proof.Machine

/-! ### Ends and frames -/

/-- The command answers a next state, and that state has the property. -/
def Ends (c : Instr) (s : State) (post : State → Prop) : Prop :=
  ∃ t, exec c s = .next t ∧ post t

/-- The key under which the state keeps the register at byte offset `off` of page `p`. -/
def regKey (p off : Nat) : Nat := p * 1024 + off / 4

/-- Every register but those at the keys listed reads as before. -/
def RegsBut (s t : State) (ks : List Nat) : Prop := ∀ k, k ∉ ks → look 0 t.regs k = look 0 s.regs k

/-- Only registers changed, and only those at the keys listed. -/
def OnlyRegs (s t : State) (ks : List Nat) : Prop := t = { s with regs := t.regs } ∧ RegsBut s t ks

/-- Only registers and the event queue with its loss count changed, the registers only at the keys listed and at
`DEVT.LOST`; the free values that event times take advance their counter and what an island has seen of the time, and a
`DCFG` event may set the CONFIG personality's message (R429). -/
def OnlyRegsEvents (s t : State) (ks : List Nat) : Prop :=
  t = { s with regs := t.regs, evq := t.evq, evLost := t.evLost, free := t.free,
               timeSeen := t.timeSeen, host := { s.host with msi := t.host.msi } } ∧
  RegsBut s t (regKey pgDEVT DEVT.LOST.off :: ks)

/-- Every byte of memory outside the `n` bytes from address `a` reads as before. -/
def MemBut (s t : State) (a n : Nat) : Prop := ∀ b, (b < a ∨ a + n ≤ b) → memByte t b = memByte s b

/-- One event record entered the queue: its code, page and detail (R494); with the queue full or the die in reset
none does. -/
def Reported (s t : State) (p code detail : Nat) : Prop :=
  dieReset s = false → s.evq.length < 256 →
    ∃ e, t.evq = s.evq ++ [e] ∧ e.w2.toNat / 2 ^ 24 = code ∧ e.w2.toNat % 2 ^ 17 = shownPage s p ∧ e.w3 = word detail

/-- Such a record is in the queue, perhaps among others of the same command. -/
def Recorded (s t : State) (p code detail : Nat) : Prop :=
  dieReset s = false → s.evq.length < 256 →
    ∃ e ∈ t.evq, e.w2.toNat / 2 ^ 24 = code ∧ e.w2.toNat % 2 ^ 17 = shownPage s p ∧ e.w3 = word detail

/-- Such a record is in the queue, unless this command has filled it. -/
def Filed (s t : State) (p code detail : Nat) : Prop :=
  dieReset s = false → t.evq.length < 256 →
    ∃ e ∈ t.evq, e.w2.toNat / 2 ^ 24 = code ∧ e.w2.toNat % 2 ^ 17 = shownPage s p ∧ e.w3 = word detail

/-- The page's `ERR_COUNT` rose by one, or stays at its largest value (R482). -/
def Counted (s t : State) (p : Nat) : Prop := getF t p HDR.ERR_COUNT = min (getF s p HDR.ERR_COUNT + 1) (2 ^ 32 - 1)

/-- Bit `b` of the page's `EVT_PEND` is set. -/
def Pends (t : State) (p b : Nat) : Prop := bitOf (getF t p HDR.EVT_PEND) b = true

/-- Every tile but the physical tile `n` is as before. -/
def OtherTiles (s t : State) (n : Nat) : Prop := ∀ m, m ≠ n → tileOf t m = tileOf s m

/-- Every tile is as before but for the count of a hold-off run, which a halted tile's ticks move (R130). -/
def TilesIdle (s t : State) : Prop :=
  ∀ n, { tileOf t n with holdRun := 0, holdHit := false } = { tileOf s n with holdRun := 0, holdHit := false }

/-- No event entered the queue. -/
def Silent (s t : State) : Prop := t.evq = s.evq ∧ t.evLost = s.evLost

/-- The page takes a write of host software at once. -/
def Open (s : State) (p : Nat) : Prop := dieReset s = false ∧ pageWaits s hostSrc p = false

/-- The page takes a write of initiator `src` at once. -/
def OpenTo (s : State) (src p : Nat) : Prop := dieReset s = false ∧ pageWaits s src p = false

/-- Page index of block page `k` of the position that physical tile `t` serves (R491). -/
def tilePage (s : State) (t : TileN) (k : Nat) : Nat := 0x400 + 4 * posOf s t.val + k

/-- A write to block page `k` of the position that tile `t` serves reaches the tile at once (R302, R342, R491). -/
def TileOpen (s : State) (t : TileN) (k : Nat) : Prop := pagesReach s t.val = true ∧ Open s (tilePage s t k)

/-- The write waits at its page, and nothing else happens (R275, R342). -/
def Waits (s t : State) (p off : Nat) (v : Word) (src : Nat) : Prop :=
  t = { s with heldW := s.heldW ++ [⟨p, off, v, src, false, s.arrivals⟩], arrivals := s.arrivals + 1 }

/-! ### A tile's cycle -/

/-- Tile `t` fetches and decodes an instruction in its next cycle: it does not replay, may run (R124 to R126, R244),
counts on (R132), has no return waiting (R116), and takes a clean word of its program area from its repeat cache, from the
fetch of the cycle before or from an ON bank (R88, R90, R91, R112); the instruction is legal where it stands (R97, R106,
R128) and breaks no rule of repeats or windows (R110, R117). -/
structure Fetches (s : State) (t : TileN) (op : SeqOp) (fv : Bool) (fs : Fin 16) (o : BitVec 21) : Prop where
  live    : replaying s (posOf s t.val) = false
  runs    : mayRun s t.val op = true
  counts  : (tileOf s t.val).retired ≠ 0xFFFFFFFF
  noRet   : (tileOf s t.val).retPend = false
  inside  : inProgram s t.val (tileOf s t.val).pc.toNat = true
  there   : fetchable s t.val = true
  clean   : isBad (fetchCode s t.val) = false
  legal   : legalOp (tileOf s t.val) (insnWord op fv fs o) = some op
  rule    : ruleFault (tileOf s t.val) op o.toNat (tileOf s t.val).pc.toNat = 0
  window  : (∃ f, (tileOf s t.val).xfer = some f ∧ f.left = 1 ∧ f.kind = 1) → freeWindows (tileOf s t.val) ≠ 0

/-- Tile `t` executes the instruction in its next cycle: it fetches it, and neither the facet nor an operand stalls
(R45, R100, R102). -/
structure Executes (s : State) (t : TileN) (op : SeqOp) (fv : Bool) (fs : Fin 16) (o : BitVec 21) : Prop
    extends Fetches s t op fv fs o where
  flows   : cycleStall s t.val op fv fs.val = .none

/-- Register field values of the operand bits (R94). -/
def rd (o : BitVec 21) : Nat := (o.extractLsb' 16 5).toNat
def ra (o : BitVec 21) : Nat := (o.extractLsb' 11 5).toNat
def rb (o : BitVec 21) : Nat := (o.extractLsb' 6 5).toNat
def imm11 (o : BitVec 21) : Word := (o.extractLsb' 0 11).signExtend 32
def imm16 (o : BitVec 21) : BitVec 16 := o.extractLsb' 0 16

/-- The value of register field `r` with window `w` as the current one (R95). -/
def regIn (x : Tile) (w r : Nat) : Word := if r < 24 then look 0 x.ring (ringKey w r) else look 0 x.z (r - 24)

/-- Every register of the current window but `r` is as before. -/
def RegsKept (x y : Tile) (r : Option Nat) : Prop := ∀ q, q < 32 → r ≠ some q → regIn y x.wpos q = regIn x x.wpos q

/-- The byte addresses that a cycle's stores into the tile's banks name: those of the facet's W bus, if it carries a
token, and of ST (R86, R99). -/
def facetStore (s : State) (t : TileN) (fv : Bool) (fs : Fin 16) : Option Nat :=
  if fv then
    let f := runFacet (arriveAll (tileOf s t.val)) fs.val
    if f.toks.any fun k => k.1 = 44 then some (f.bw.getD (tileOf s t.val).wAddr.toNat) else none
  else none

/-- Bytes of memory outside the region memories and their spare banks, where journals lie (R142, R268), read as before, but
for those of the words listed of the tile's banks; with no protected position (R263) region memories keep theirs too. -/
def BanksKept (s u : State) (t : TileN) (ws : List Nat) : Prop :=
  ∀ a, (isProt s (posOf s t.val) = true → ¬(0x1000000000 ≤ a ∧ a < 0x1002000000) ∧ a < 0x1800000000) →
    (∀ w ∈ ws, a < bankAddr t.val w ∨ bankAddr t.val w + 4 ≤ a) → memByte u a = memByte s a

/-- What every executed instruction does beside its own effect: `RETIRED` rises by 1 (R132), registers other than `r`
stay, and memory stays but for the words stored. -/
def Retires (s u : State) (t : TileN) (r : Option Nat) (ws : List Nat) : Prop :=
  (tileOf u t.val).retired = (tileOf s t.val).retired + 1 ∧ RegsKept (tileOf s t.val) (tileOf u t.val) r ∧
  BanksKept s u t ws

/-- An executed instruction left the value `v` in RD. -/
def Writes (s : State) (t : TileN) (fv : Bool) (fs : Fin 16) (o : BitVec 21) (v : Word) (u : State) : Prop :=
  regIn (tileOf u t.val) (tileOf s t.val).wpos (rd o) = v ∧ Retires s u t (some (rd o)) (facetStore s t fv fs).toList

/-- An executed control transfer left its transfer to be made after two delay slots: what it will do, whether, to where and,
for RETE, at which level (R105, R128). -/
def Jumps (s : State) (t : TileN) (fv : Bool) (fs : Fin 16) (f : Xfer) (u : State) : Prop :=
  (tileOf u t.val).xfer = some f ∧ (tileOf u t.val).pc = (tileOf s t.val).pc + 1 ∧
  Retires s u t (if f.kind = 1 then some 16 else none) (facetStore s t fv fs).toList

/-! ### Transfers -/

/-- The `n` bytes of LPDDR5 from `a` lie in the memory (R19) and outside the locket area (R268), and their words read
clean (R146). -/
def PlainRange (s : State) (a n : Nat) : Prop :=
  a + n ≤ 0x800000000 ∧ (a + n ≤ locketBase s ∨ locketEnd s ≤ a) ∧ ∀ i, i < n → markAt s (wordKey (a + i)) = .clean

/-- The eight words of the descriptor stored from `st` on read clean. -/
def CleanDesc (s : State) (st : Nat) : Prop := ∀ i, i < 8 → markAt s (wordKey (st + 4 * i)) = .clean

/-- Channel `k` of a region or of the host port is in RUN with a checked descriptor of which nothing has moved yet. -/
structure AtStart (s : State) (k : Nat) : Prop where
  run    : chState s k = 2
  near   : isZilCh k = false
  unfed  : feederOf s k = none
  quiet  : oldestWrite s k = none
  open_  : s.writesOpen = true ∧ s.released = true
  routes : ∀ a, routeRefused s (chInit k) a = false
  fresh  : dmaOf s k = { dmaOf s k with
    elem := 0, base := 0, rd := 0, rdA := 0, wr := 0, staged := [], stagedA := [], poisoned := [], equal := 0,
    differ := false, outR := 0, outW := 0, code := 0, failAt := none, failElem := 0 }

/-- Offset of element `e` on the contiguous side (R181). -/
def elemOff (d : Dma) (e : Nat) : Nat := ((d.elems.take e).map elLen).sum

/-- Address and length of element `e`. -/
def elemAddr (d : Dma) (e : Nat) : Nat := elAddr (d.elems.getD e 0)
def elemLen (d : Dma) (e : Nat) : Nat := elLen (d.elems.getD e 0)

/-- Two ranges share no byte. -/
def Apart (a n b m : Nat) : Prop := a + n ≤ b ∨ b + m ≤ a

/-- A list of `m` elements that keeps R181 and R184, over plain ranges. -/
def GoodList (s : State) (d : Dma) (m : Nat) : Prop :=
  0 < m ∧ m ≤ 16 ∧ dLen d = m ∧ d.elems.length = m ∧ PlainRange s (dA d) (elemOff d m) ∧
  ∀ e, e < m →
    let x := d.elems.getD e 0
    bitsOf x 63 48 = 0 ∧ bitsOf x 95 75 = 0 ∧ bitsOf x 127 96 = 0 ∧ 1 ≤ elemLen d e ∧ elemLen d e ≤ 1024 ∧
    PlainRange s (elemAddr d e) (elemLen d e) ∧ Apart (elemAddr d e) (elemLen d e) (dA d) (elemOff d m)

/-- One packet more stands on the network. -/
def Sends (s u : State) (q : Pkt) : Prop := u.net = s.net ++ [q]

/-! ### Links -/

/-- A frame of a type arrives on line `n` and is taken: it passes checks 1 to 5 of R395, and the line may carry its type
(R404, R409). -/
structure Arrives (s : State) (n typ : Nat) (ws : List (BitVec 64)) : Prop where
  named  : (linkHdr (ws.headD 0)).typ = typ
  takes  : lineTakes s n typ = true
  whole  : trailerOk ws = true
  format : formatCode ws = 0
  next   : numbered typ = true → (linkHdr (ws.headD 0)).seq = (lineOf s n).rxSeq

/-- Frame `f` stands on line `n`: it waits there, or is sent and not yet acknowledged (R393). -/
def Queued (u : State) (n : Nat) (f : Frame) : Prop :=
  f ∈ (lineOf u n).waiting ∨ ∃ q, (q, f) ∈ (lineOf u n).unacked

/-- The frame sent last on line `n` is whole, of type `typ`, with no routing header, and acknowledges the last frame
received in order (R391, R392). -/
def SentPlain (s u : State) (n typ : Nat) : Prop :=
  let ws := (lineOf u n).sent
  let h := linkHdr (ws.headD 0)
  h.typ = typ ∧ h.nrh = 0 ∧ h.len = ws.length ∧ h.ack = ((lineOf s n).rxSeq + 1023) % 1024 ∧ trailerOk ws = true

/-! ### The invariant -/

/-- The tables of words and bytes that software reads are in their one canonical form, and the event queue holds at most
its 256 records (R495). -/
def Inv (s : State) : Prop :=
  Memory.wf s.mem = true ∧ canon Mark.clean s.marks = true ∧ canon 0 s.regs = true ∧ s.evq.length ≤ 256

end Sys2Proof.Safety
end

