-- ==== Sys2Proof/Certificates/Slice0/Obligations.lean ====
section
/-! DEFINITION. The statements for the provers. -/

open Sys2Proof Sys2Proof.Machine Sys2Proof.Safety

/-! ### Steps, reset and the invariant -/

/-- A step takes the command at the front of the queue and answers its outcome on the rest of the queue. -/
def Obligations.StepRunsFrontCommand : Prop :=
  ∀ (s : State) (c : Instr) (rest : List Instr), s.pending = c :: rest → step s = exec c { s with pending := rest }

/-- With no command waiting, a step is one tick of the 100 MHz reference (log 1). With no slew or step due (R259) and
nothing held back, the time base advances by 10 ns (R258), no command appears, and memory and tiles stay as they are, but for
the hold-off runs of halted tiles (R130). -/
def Obligations.IdleTickAdvancesTimeBase : Prop :=
  ∀ s : State, s.pending = [] → dieReset s = false → slewDue s = false → s.tbStep = 0 → s.heldW = [] →
    s.load.handing = none → s.strand.paired.message = none → (∀ p, p < 5 → frameOf s p = []) →
    ∃ t, step s = .next t ∧ t.tb = s.tb + 10 ∧ t.age = s.age + 1 ∧ t.pending = [] ∧ t.mem = s.mem ∧ TilesIdle s t

/-- The state after reset has the invariant. -/
def Obligations.ResetHasInvariant : Prop := Inv State.reset

/-- Every step keeps the invariant: memory, marks and registers stay in canonical form, and the event queue never holds
more than 256 records (R495). -/
def Obligations.StepKeepsInvariant : Prop :=
  ∀ s t : State, Inv s → step s = .next t → Inv t

/-- Every well-formed command runs: on no state does it fault or stop. -/
def Obligations.WellFormedCommandsRun : Prop :=
  ∀ (c : Instr) (s : State), c.wf = true → ∃ t, exec c s = .next t

/-- Values of the state after reset: the part number, no event, the time base at 0, nothing released, no write open, every
tile halted with one resident frame and level 0 active, every tile bank OFF, no command waiting (R118, R138, R160, R258,
R342, R489, R494). -/
def Obligations.ResetValues : Prop :=
  let s := State.reset
  regAt s 0 0x40 = 0x9640 ∧ s.evq = [] ∧ s.tb = 0 ∧ s.released = false ∧ s.outRel = false ∧ s.writesOpen = false ∧
  (∀ t, (tileOf s t).halted = true ∧ (tileOf s t).resident = 1 ∧ (tileOf s t).active = 1) ∧
  (∀ t b, b < 8 → bankState s t b = 0) ∧ s.pending = []

/-! ### Sequencer instructions (chapter 04) -/

/-- ADD to MUL, their immediate forms, LUI, LI, LLO, INTAG and NOP: RD takes the value of R96, and nothing else of the
window changes. -/
def Obligations.SequencerArithmetic : Prop :=
  ∀ (s : State) (t : TileN) (fv : Bool) (fs : Fin 16) (o : BitVec 21),
    let x := tileOf s t.val
    let a := regIn x x.wpos (ra o)
    let b := regIn x x.wpos (rb o)
    let i := imm11 o
    let old := regIn x x.wpos (rd o)
    (Executes s t .add fv fs o → Ends (.seqAdd t fv fs o) s (Writes s t fv fs o (a + b))) ∧
    (Executes s t .sub fv fs o → Ends (.seqSub t fv fs o) s (Writes s t fv fs o (a - b))) ∧
    (Executes s t .and_ fv fs o → Ends (.seqAnd t fv fs o) s (Writes s t fv fs o (a &&& b))) ∧
    (Executes s t .or_ fv fs o → Ends (.seqOr t fv fs o) s (Writes s t fv fs o (a ||| b))) ∧
    (Executes s t .xor fv fs o → Ends (.seqXor t fv fs o) s (Writes s t fv fs o (a ^^^ b))) ∧
    (Executes s t .shl fv fs o → Ends (.seqShl t fv fs o) s (Writes s t fv fs o (a <<< (b.toNat % 32)))) ∧
    (Executes s t .shr fv fs o → Ends (.seqShr t fv fs o) s (Writes s t fv fs o (a >>> (b.toNat % 32)))) ∧
    (Executes s t .sar fv fs o → Ends (.seqSar t fv fs o) s (Writes s t fv fs o (a.sshiftRight (b.toNat % 32)))) ∧
    (Executes s t .slt fv fs o → Ends (.seqSlt t fv fs o) s (Writes s t fv fs o (if a.slt b then 1 else 0))) ∧
    (Executes s t .sltu fv fs o → Ends (.seqSltu t fv fs o) s (Writes s t fv fs o (if a.ult b then 1 else 0))) ∧
    (Executes s t .mul fv fs o → Ends (.seqMul t fv fs o) s (Writes s t fv fs o (a * b))) ∧
    (Executes s t .addi fv fs o → Ends (.seqAddi t fv fs o) s (Writes s t fv fs o (a + i))) ∧
    (Executes s t .andi fv fs o → Ends (.seqAndi t fv fs o) s (Writes s t fv fs o (a &&& i))) ∧
    (Executes s t .ori fv fs o → Ends (.seqOri t fv fs o) s (Writes s t fv fs o (a ||| i))) ∧
    (Executes s t .xori fv fs o → Ends (.seqXori t fv fs o) s (Writes s t fv fs o (a ^^^ i))) ∧
    (Executes s t .shli fv fs o → Ends (.seqShli t fv fs o) s (Writes s t fv fs o (a <<< (i.toNat % 32)))) ∧
    (Executes s t .shri fv fs o → Ends (.seqShri t fv fs o) s (Writes s t fv fs o (a >>> (i.toNat % 32)))) ∧
    (Executes s t .sari fv fs o → Ends (.seqSari t fv fs o) s (Writes s t fv fs o (a.sshiftRight (i.toNat % 32)))) ∧
    (Executes s t .slti fv fs o → Ends (.seqSlti t fv fs o) s (Writes s t fv fs o (if a.slt i then 1 else 0))) ∧
    (Executes s t .lui fv fs o → Ends (.seqLui t fv fs o) s (Writes s t fv fs o ((imm16 o).zeroExtend 32 <<< 16))) ∧
    (Executes s t .li fv fs o → Ends (.seqLi t fv fs o) s (Writes s t fv fs o ((imm16 o).signExtend 32))) ∧
    (Executes s t .llo fv fs o → Ends (.seqLlo t fv fs o) s (Writes s t fv fs o ((old &&& 0xFFFF0000) ||| (imm16 o).zeroExtend 32))) ∧
    (Executes s t .intag fv fs o → Ends (.seqIntag t fv fs o) s (Writes s t fv fs o (x.inTags.zeroExtend 32))) ∧
    (Executes s t .nop fv fs o → Ends (.seqNop t fv fs o) s fun u => Retires s u t none (facetStore s t fv fs).toList)

/-- The branches, J, JR, CALL, CALLR, RET and RETE execute and leave their transfer to be made after two delay slots; the
calls leave the address of the call + 3 in U0 (R96, R105, R107, R128). In the first slot (here a NOP) the transfer stays; at
the end of the second it is made: execution goes on at the target or, of a branch not taken, after the slot; a call opens the
next window, and a return to a resident frame goes back to the one before, RETE to its level as well (R105, R107, R128). -/
def Obligations.SequencerTransfers : Prop :=
  ∀ (s : State) (t : TileN) (fv : Bool) (fs : Fin 16) (o : BitVec 21),
    let x := tileOf s t.val
    let a := regIn x x.wpos (rd o)
    let b := regIn x x.wpos (ra o)
    let there := x.pc + (imm11 o).truncate 16
    let linked := fun (u : State) => regIn (tileOf u t.val) x.wpos 16 = (x.pc + 3).zeroExtend 32
    (Executes s t .beq fv fs o → Ends (.seqBeq t fv fs o) s (Jumps s t fv fs ⟨2, 0, decide (a = b), there, 0⟩)) ∧
    (Executes s t .bne fv fs o → Ends (.seqBne t fv fs o) s (Jumps s t fv fs ⟨2, 0, decide (a ≠ b), there, 0⟩)) ∧
    (Executes s t .blt fv fs o → Ends (.seqBlt t fv fs o) s (Jumps s t fv fs ⟨2, 0, a.slt b, there, 0⟩)) ∧
    (Executes s t .bge fv fs o → Ends (.seqBge t fv fs o) s (Jumps s t fv fs ⟨2, 0, !(a.slt b), there, 0⟩)) ∧
    (Executes s t .bltu fv fs o → Ends (.seqBltu t fv fs o) s (Jumps s t fv fs ⟨2, 0, a.ult b, there, 0⟩)) ∧
    (Executes s t .bgeu fv fs o → Ends (.seqBgeu t fv fs o) s (Jumps s t fv fs ⟨2, 0, !(a.ult b), there, 0⟩)) ∧
    (Executes s t .j fv fs o → Ends (.seqJ t fv fs o) s (Jumps s t fv fs ⟨2, 0, true, imm16 o, 0⟩)) ∧
    (Executes s t .jr fv fs o → Ends (.seqJr t fv fs o) s (Jumps s t fv fs ⟨2, 0, true, b.truncate 16, 0⟩)) ∧
    (Executes s t .call fv fs o → Ends (.seqCall t fv fs o) s fun u => Jumps s t fv fs ⟨2, 1, true, imm16 o, 0⟩ u ∧ linked u) ∧
    (Executes s t .callr fv fs o → Ends (.seqCallr t fv fs o) s fun u => Jumps s t fv fs ⟨2, 1, true, b.truncate 16, 0⟩ u ∧ linked u) ∧
    (Executes s t .ret fv fs o → Ends (.seqRet t fv fs o) s (Jumps s t fv fs ⟨2, 2, true, (regIn x x.wpos 0).truncate 16, 0⟩)) ∧
    (Executes s t .rete fv fs o → Ends (.seqRete t fv fs o) s
      (Jumps s t fv fs ⟨2, 3, true, (regIn x x.wpos 8).truncate 16, (regIn x x.wpos 9).truncate 2⟩)) ∧
    (∀ f, x.xfer = some f → Executes s t .nop fv fs o → Ends (.seqNop t fv fs o) s fun u =>
      let y := tileOf u t.val
      (f.left ≠ 1 → y.xfer = some { f with left := f.left - 1 } ∧ y.pc = x.pc + 1 ∧ y.wpos = x.wpos) ∧
      (f.left = 1 → y.xfer = none ∧ y.pc = (if f.taken then f.target else x.pc + 1)) ∧
      (f.left = 1 → f.kind = 0 → y.wpos = x.wpos ∧ y.resident = x.resident ∧ y.level = x.level) ∧
      (f.left = 1 → f.kind = 1 → y.wpos = (x.wpos + 1) % 12 ∧ y.resident = x.resident + 1 ∧ y.level = x.level) ∧
      (f.left = 1 → f.kind = 2 ∨ f.kind = 3 → 1 < x.resident → y.wpos = (x.wpos + 11) % 12 ∧ y.resident = x.resident - 1 ∧
        y.retPend = false ∧ y.level = if f.kind = 3 then f.lvl else x.level))

/-- REPI and REPR start a repeat of the LEN1 + 1 instructions that follow, with COUNT − 1 iterations still to start
(R108, R110); with a count of 0 none starts, and with no repeat around it the instruction after the body is next (R109). -/
def Obligations.SequencerRepeats : Prop :=
  ∀ (s : State) (t : TileN) (fv : Bool) (fs : Fin 16) (o : BitVec 21),
    let x := tileOf s t.val
    let repeats := fun (count len1 : BitVec 16) (u : State) =>
      Retires s u t none (facetStore s t fv fs).toList ∧
      (count ≠ 0 → (tileOf u t.val).reps = x.reps ++ [⟨x.pc + 1, x.pc + 1 + len1, count - 1⟩] ∧
        (tileOf u t.val).pc = x.pc + 1) ∧
      (count = 0 → x.reps = [] → (tileOf u t.val).reps = [] ∧ (tileOf u t.val).pc = x.pc + 1 + len1 + 1)
    (Executes s t .repi fv fs o → Ends (.seqRepi t fv fs o) s
      (repeats (o.extractLsb' 5 16) ((o.extractLsb' 0 5).zeroExtend 16))) ∧
    (Executes s t .repr fv fs o → Ends (.seqRepr t fv fs o) s
      (repeats ((regIn x x.wpos (rd o)).truncate 16) ((o.extractLsb' 0 12).zeroExtend 16)))

/-- IN takes the head of SEQIN with its tags; OUT sets the sequencer output register; PAGEI and PAGER queue a paging
command; SWEV sets its line; HALT halts the tile and sets `EVT_PEND.HALT` (R98, R100, R102 to R104). -/
def Obligations.SequencerInputOutput : Prop :=
  ∀ (s : State) (t : TileN) (fv : Bool) (fs : Fin 16) (o : BitVec 21),
    let x := tileOf s t.val
    let a := regIn x x.wpos (ra o)
    let ws := (facetStore s t fv fs).toList
    (∀ h rest, queueOf x 12 = h :: rest → Executes s t .in_ fv fs o → Ends (.seqIn t fv fs o) s fun u =>
      regIn (tileOf u t.val) x.wpos (rd o) = h.data ∧ (tileOf u t.val).inTags = BitVec.ofNat 4 (tagsOf h) ∧
      (∃ more, queueOf (tileOf u t.val) 12 = rest ++ more) ∧ Retires s u t (some (rd o)) ws) ∧
    (Executes s t .out fv fs o → Ends (.seqOut t fv fs o) s fun u =>
      (tileOf u t.val).seqOut = ⟨⟨a, o.getLsbD 0, o.getLsbD 1, o.getLsbD 2, o.getLsbD 3⟩, true⟩ ∧ Retires s u t none ws) ∧
    (Executes s t .pagei fv fs o → Ends (.seqPagei t fv fs o) s fun u =>
      (tileOf u t.val).pageQ = x.pageQ ++ [(o.extractLsb' 4 8, (o.extractLsb' 0 4).toFin)] ∧ Retires s u t none ws) ∧
    (Executes s t .pager fv fs o → Ends (.seqPager t fv fs o) s fun u =>
      (tileOf u t.val).pageQ = x.pageQ ++ [(a.extractLsb' 16 8, (a.extractLsb' 0 4).toFin)] ∧ Retires s u t none ws) ∧
    (Executes s t .swev fv fs o → Ends (.seqSwev t fv fs o) s fun u =>
      (tileOf u t.val).pend.getLsbD (40 + (o.extractLsb' 0 5).toNat) = true ∧ Retires s u t none ws) ∧
    (Executes s t .halt fv fs o → Ends (.seqHalt t fv fs o) s fun u =>
      (tileOf u t.val).halted = true ∧ bitOf (getF u (pgTSEQ t.val) HDR.EVT_PEND) 1 = true ∧ Retires s u t none ws)

/-- LD reads and ST writes the word at (RA + IMM11) mod 65,536 of the tile's own banks (R96, R99); RDTIME reads the time
base, the latched half with IMM11[0] = 1 (R101): on a lockable island with c cycles a tick the value of one of these cycles,
else what it was up to 3 ticks ago (R258; which one is the model's free value, log 6). -/
def Obligations.SequencerMemoryAndTime : Prop :=
  ∀ (s : State) (t : TileN) (fv : Bool) (fs : Fin 16) (o : BitVec 21),
    let x := tileOf s t.val
    let la := ((regIn x x.wpos (ra o) + imm11 o).truncate 16 : BitVec 16).toNat
    let ws := (facetStore s t fv fs).toList
    let edges := pageEdges s (pgTSEQ t.val) 0 0
    (Executes s t .ld fv fs o → (∀ b, b < 8 → bankState s t.val b = 2) →
      isBad (markCode (markAt s (bankAddr t.val la))) = false → (∀ w ∈ ws, w % 65536 ≠ la) → Ends (.seqLd t fv fs o) s fun u =>
        regIn (tileOf u t.val) x.wpos (rd o) = memWord s (bankAddr t.val la) ∧ Retires s u t (some (rd o)) ws) ∧
    (Executes s t .st fv fs o → (∀ b, b < 8 → bankState s t.val b = 2) → (∀ w ∈ ws, w % 65536 ≠ la) →
      Ends (.seqSt t fv fs o) s fun u =>
        memWord u (bankAddr t.val la) = regIn x x.wpos (rd o) ∧ Retires s u t none (la :: ws)) ∧
    (Executes s t .rdtime fv fs o → Ends (.seqRdtime t fv fs o) s fun u =>
      Retires s u t (some (rd o)) ws ∧
      (o.getLsbD 0 = true → regIn (tileOf u t.val) x.wpos (rd o) = x.tlatch) ∧
      (o.getLsbD 0 = false → ∃ T : Nat,
        regIn (tileOf u t.val) x.wpos (rd o) = word T ∧ (tileOf u t.val).tlatch = word (T / 2 ^ 32) ∧
        (0 < edges → ∃ k, k < edges ∧ T = (s.tb.toNat + 10 * k / edges) % 2 ^ 64) ∧
        (edges = 0 → ∃ k, k < 4 ∧ T = (s.tb.toNat :: s.tbPast).getD k 0)))

/-- WAITEV waits while its line is not pending and completes when it is; a waiting one completes by WAITEV_COMPLETE; an
edge line's pending bit clears (R129). A level switch saves the address and level in H0 and H1 of the next window and
goes to the handler (R126). -/
def Obligations.WaitsAndLevelSwitches : Prop :=
  ∀ (s : State) (t : TileN),
    let x := tileOf s t.val
    let mute := fun (c : Cell) => { c with o := { c.o with valid := false }, q := { c.q with valid := false } }
    (∀ fv fs o, Fetches s t .waitev fv fs o → linePending s t.val (o.extractLsb' 0 6).toNat = false →
      Ends (.seqWaitev t fv fs o) s fun u =>
        (tileOf u t.val).wait = some (insnWord .waitev fv fs o) ∧ (tileOf u t.val).pc = x.pc ∧
        (tileOf u t.val).retired = x.retired ∧ u.mem = s.mem) ∧
    (∀ fs o, Fetches s t .waitev false fs o → linePending s t.val (o.extractLsb' 0 6).toNat = true →
      Ends (.seqWaitev t false fs o) s fun u => (tileOf u t.val).wait = none ∧ Retires s u t none []) ∧
    (∀ w, x.wait = some w → bitOf w.toNat 25 = false → replaying s (posOf s t.val) = false → mayRun s t.val .waitev = true →
      linePending s t.val (bitsOf w.toNat 5 0) = true → Ends (.waitevComplete t) s fun u =>
        (tileOf u t.val).wait = none ∧ Retires s u t none []) ∧
    (∀ line, x.halted = false → tileGated s t.val = false → slotsHeld x = false → x.retPend = false →
      dueIsRep s t.val = false → x.retired ≠ 0xFFFFFFFF → replaying s (posOf s t.val) = false →
      selected s t.val = some line → x.resident < 11 → Ends (.levelSwitch t) s fun u =>
        let y := tileOf u t.val
        let p := pgTSCH t.val
        y.wpos = (x.wpos + 1) % 12 ∧ y.resident = x.resident + 1 ∧
        regIn y y.wpos 8 = x.pc.zeroExtend 32 ∧ regIn y y.wpos 9 = x.level.zeroExtend 32 ∧
        y.level.toNat = getF s p (TSCH.EVT_TAB_LVL line) ∧ y.pc.toNat = getF s p (TSCH.EVT_TAB_VEC line) ∧
        y.retired = x.retired + 1 ∧ y.wait = none ∧
        (∀ c, c < 16 → look Cell.init y.cells c = mute (look Cell.init x.cells c)) ∧
        (isLevelLine line = false → x.eccDue = false → y.pend = x.pend &&& ~~~(1#64 <<< line)))

/-! ### Scheduler, ring and paging (chapters 02 and 04) -/

/-- TIMER_COMPARE: an armed timer whose compare value the time base has reached pulses line 34 + n and disarms; one not
armed or not due does nothing. HOLDOFF_LIMIT and STALL_LIMIT: a run that reaches its limit pulses line 36 or 37, sets the
cause and counts, once per run (R130, R131, R133). -/
def Obligations.TimersAndWatchdogs : Prop :=
  ∀ (s : State) (t : TileN) (n : Fin 2),
    let p := pgTSCH t.val
    let x := tileOf s t.val
    let cmp := (regAt s p (TSCH.TMR_LO n.val).off).toNat + (regAt s p (TSCH.TMR_HI n.val).off).toNat * 2 ^ 32
    s.released = true →
    (bitOf (getF s p TSCH.TMR_STAT) n.val = true → cmp ≤ s.tb.toNat → tileGated s t.val = false → Ends (.timerCompare t n) s fun u =>
      (tileOf u t.val).pend.getLsbD (34 + n.val) = true ∧ bitOf (getF u p TSCH.TMR_STAT) n.val = false ∧
      bitOf (getF u p TSCH.TMR_STAT) (1 - n.val) = bitOf (getF s p TSCH.TMR_STAT) (1 - n.val) ∧
      OtherTiles s u t.val ∧ RegsBut s u [regKey p TSCH.TMR_STAT.off] ∧ u.mem = s.mem ∧ Silent s u) ∧
    (bitOf (getF s p TSCH.TMR_STAT) n.val = false ∨ s.tb.toNat < cmp → Ends (.timerCompare t n) s fun u => u = s) ∧
    (getF s p TSCH.HOLDOFF_LIMIT ≠ 0 → getF s p TSCH.HOLDOFF_LIMIT ≤ x.holdRun → x.holdHit = false →
      Ends (.holdoffLimit t) s fun u => (tileOf u t.val).pend.getLsbD 36 = true ∧ (tileOf u t.val).holdHit = true ∧
        Pends u p 0 ∧ Counted s u p ∧ OtherTiles s u t.val ∧ u.mem = s.mem) ∧
    (getF s p TSCH.HOLDOFF_LIMIT = 0 ∨ x.holdHit = true → Ends (.holdoffLimit t) s fun u => u = s) ∧
    (getF s p TSCH.STALL_LIMIT ≠ 0 → getF s p TSCH.STALL_LIMIT ≤ x.stallRun → x.stallHit = false →
      Ends (.stallLimit t) s fun u => (tileOf u t.val).pend.getLsbD 37 = true ∧ (tileOf u t.val).stallHit = true ∧
        Pends u p 1 ∧ Counted s u p ∧ OtherTiles s u t.val ∧ u.mem = s.mem) ∧
    (getF s p TSCH.STALL_LIMIT = 0 ∨ x.stallHit = true → Ends (.stallLimit t) s fun u => u = s)

/-- SPILL writes the oldest resident frame to its 16 words of the spill area; FILL reads the newest spilled frame back
(R113, R115, R116). -/
def Obligations.SpillAndFill : Prop :=
  ∀ (s : State) (t : TileN),
    let x := tileOf s t.val
    s.released = true →
    tileGated s t.val = false →
    (10 ≤ x.resident → x.resident ≤ 11 → x.spilled < 64 → bankState s t.val 7 = 2 → Ends (.spill t) s fun u =>
      let w := (x.wpos + 13 - x.resident) % 12
      let a := bankAddr t.val (0xFC00 + 16 * x.spilled)
      (tileOf u t.val).spilled = x.spilled + 1 ∧ (tileOf u t.val).resident = x.resident - 1 ∧
      (∀ k, k < 16 → memWord u (a + 4 * k) = look 0 x.ring (16 * w + k)) ∧ MemBut s u a 64 ∧ OtherTiles s u t.val) ∧
    (x.resident < 10 ∨ x.spilled = 64 → Ends (.spill t) s fun u => u = s) ∧
    (x.resident ≤ 7 → 0 < x.spilled → x.spilled ≤ 64 → fillBarred x (x.spilled - 1) = false → x.retPend = false → bankState s t.val 7 = 2 →
      (∀ k, k < 16 → isBad (markCode (markAt s (bankAddr t.val (0xFC00 + 16 * (x.spilled - 1) + k)))) = false) →
      Ends (.fill t) s fun u =>
        let w := (x.wpos + 12 - x.resident) % 12
        (tileOf u t.val).spilled = x.spilled - 1 ∧ (tileOf u t.val).resident = x.resident + 1 ∧
        (∀ k, k < 16 → look 0 (tileOf u t.val).ring (16 * w + k) =
          memWord s (bankAddr t.val (0xFC00 + 16 * (x.spilled - 1) + k))) ∧ u.mem = s.mem ∧ OtherTiles s u t.val)

/-- PAGE queues a command behind at most three others, and is refused with `OVF` when four wait; FLUSH discards what has
not started (R47, R52, R54). -/
def Obligations.PagingCommands : Prop :=
  ∀ (s : State) (t : TileN) (v : Word),
    let x := tileOf s t.val
    let p := pgTFCT t.val
    TileOpen s t 1 →
    (x.pageQ.length < 4 → Ends (.page t v) s fun u =>
      (tileOf u t.val).pageQ = x.pageQ ++ [(v.extractLsb' 16 8, (v.extractLsb' 0 4).toFin)] ∧
      (isProt s (posOf s t.val) = false → Silent s u)) ∧
    (4 ≤ x.pageQ.length → Ends (.page t v) s fun u =>
      tileOf u t.val = x ∧ getF u p TFCT.PAGE_STAT_OVF = 1 ∧ Counted s u p ∧
      (isProt s (posOf s t.val) = false → Recorded s u p 0x62 0)) ∧
    Ends (.flush t) s fun u => (tileOf u t.val).pageQ = [] ∧ (tileOf u t.val).pageRun = x.pageRun

/-- PAGING_COMMAND_START takes the oldest command: one whose set is not in the store ends at once with 0x72, of another the
engine begins to read the 80 words (R46, R48). PAGE_COMMIT, with the rest of them read, replaces the slot when the set is
valid, and otherwise leaves it and records the code (R48, R50, R52). -/
def Obligations.PagingEngine : Prop :=
  ∀ (s : State) (t : TileN),
    let x := tileOf s t.val
    let p := pgTFCT t.val
    s.released = true →
    (∀ set slot rest, migrating s t.val = false → tileBankTrans s t.val = false → x.pageRun = none →
      x.pageQ = (set, slot) :: rest →
      (getF s p TFCT.STORE_CFG ≤ set.toNat → Ends (.pagingCommandStart t) s fun u =>
        (tileOf u t.val).pageQ = rest ∧ (tileOf u t.val).pageRun = none ∧ (tileOf u t.val).slots = x.slots ∧
        getF u p TFCT.PAGE_STAT_LASTCODE = 0x72 ∧ (tileOf u t.val).pend.getLsbD 32 = true ∧ Counted s u p) ∧
      (set.toNat < getF s p TFCT.STORE_CFG → Ends (.pagingCommandStart t) s fun u =>
        tileOf u t.val = { x with pageQ := rest, pageRun := some ⟨set, slot, [], 0, 0⟩ } ∧ u.mem = s.mem)) ∧
    (∀ r : PageRun, x.pageRun = some r → r.code = 0 → r.words.length ≤ 80 → tileGated s t.val = false →
      replaying s (posOf s t.val) = false →
      let at_ := fun w => bankAddr t.val (storeAddr r.set.toNat w)
      let word_ := fun w => if w < r.words.length then r.words.getD w 0 else if w < 80 then memWord s (at_ w) else 0
      (∀ w, r.words.length ≤ w → w < 80 → bankOn s t.val (storeAddr r.set.toNat w) = true ∧ isBad (markCode (markAt s (at_ w))) = false) →
      (setValid s (posOf s t.val) word_ = true → Ends (.pageCommit t) s fun u =>
        (tileOf u t.val).pageRun = none ∧ (∀ w, w < 80 → slotWord (tileOf u t.val) r.slot.val w = word_ w) ∧
        (∀ n w, n < 16 → n ≠ r.slot.val → w < 80 → slotWord (tileOf u t.val) n w = slotWord x n w) ∧
        look 0 (tileOf u t.val).slotSet r.slot.val = r.set ∧ getF u p TFCT.PAGE_STAT_LASTCODE = 0 ∧
        (tileOf u t.val).pend.getLsbD 32 = true ∧ u.mem = s.mem) ∧
      (setValid s (posOf s t.val) word_ = false → Ends (.pageCommit t) s fun u =>
        (tileOf u t.val).pageRun = none ∧ (tileOf u t.val).slots = x.slots ∧
        getF u p TFCT.PAGE_STAT_LASTCODE = 0x72 ∧ Counted s u p ∧ u.mem = s.mem))

/-- TSEQ_CTRL_HALT halts the tile and TSEQ_CTRL_RESUME lets it run: neither changes its registers, its position in the
program or its counts; a resume clears `FAULTED`. STEP on a halted tile runs the one instruction at `PC` and halts again, and
on a running one only counts (R118, R138). -/
def Obligations.TileControl : Prop :=
  ∀ (s : State) (t : TileN),
    let x := tileOf s t.val
    let same := fun (u : State) =>
      (tileOf u t.val).pc = x.pc ∧ (tileOf u t.val).retired = x.retired ∧ (tileOf u t.val).ring = x.ring ∧
      (tileOf u t.val).z = x.z ∧ (tileOf u t.val).cells = x.cells ∧ (tileOf u t.val).wait = x.wait ∧
      OtherTiles s u t.val ∧ u.mem = s.mem ∧ u.regs = s.regs
    TileOpen s t 0 → isProt s (posOf s t.val) = false →
    (Ends (.tseqCtrlHalt t) s fun u => (tileOf u t.val).halted = true ∧ (tileOf u t.val).faulted = x.faulted ∧ same u) ∧
    (Ends (.tseqCtrlResume t) s fun u => (tileOf u t.val).halted = false ∧ (tileOf u t.val).faulted = false ∧ same u) ∧
    (x.halted = false → Ends (.step t) s fun u => u.tiles = s.tiles ∧ Counted s u (pgTSEQ t.val) ∧ u.mem = s.mem) ∧
    (∀ op fv fs o, x.halted = true → op ≠ .waitev → dueWord s t.val = insnWord op fv fs o →
      Executes (modTile s t.val fun y => { goOn y with stepDue := false }) t op fv fs o → Ends (.step t) s fun u =>
        (tileOf u t.val).halted = true ∧ (tileOf u t.val).retired = x.retired + 1)

/-- SWEVT sets software lines; TIMER_ARM stores the upper compare word and arms the timer (R120, R133, R139). -/
def Obligations.SoftwareLinesAndTimers : Prop :=
  ∀ (s : State) (t : TileN) (v : Word), TileOpen s t 2 →
    (Ends (.swevt t v) s fun u =>
      (tileOf u t.val).pend = (tileOf s t.val).pend ||| ((v.extractLsb' 0 24).zeroExtend 64 <<< 40) ∧
      OtherTiles s u t.val) ∧
    ∀ n : Fin 2, Ends (.timerArm t n v) s fun u =>
      regAt u (pgTSCH t.val) (TSCH.TMR_HI n.val).off = v ∧ bitOf (getF u (pgTSCH t.val) TSCH.TMR_STAT) n.val = true ∧
      regAt u (pgTSCH t.val) (TSCH.TMR_LO n.val).off = regAt s (pgTSCH t.val) (TSCH.TMR_LO n.val).off

/-- The window register reaches the item that `WIN_ADDR` names: a write of a bank register of an inactive level, or of any
level of a halted tile, takes effect; one of the active level of a running tile is refused BUSY (R134 to R137). -/
def Obligations.WindowRegister : Prop :=
  ∀ (s : State) (t : TileN) (v : Word),
    let x := tileOf s t.val
    let p := pgTSCH t.val
    let a := (regAt s p TSCH.WIN_ADDR_ITEM.off).toNat
    let cell := bitsOf a 15 12
    let level := bitsOf a 9 8
    let item := bitsOf a 4 0
    TileOpen s t 2 →
    (item < 8 → x.halted = true ∨ level ≠ x.level.toNat → Ends (.winDataWrite t v) s fun u =>
      winItem (tileOf u t.val) cell level item = some v ∧ getF u p TSCH.WIN_STAT = 0 ∧
      (∀ c l i, l < 4 → i < 8 → (c, l, i) ≠ (cell, level, item) → winItem (tileOf u t.val) c l i = winItem x c l i)) ∧
    (item < 8 → x.halted = false → level = x.level.toNat → Ends (.winDataWrite t v) s fun u =>
      tileOf u t.val = x ∧ getF u p TSCH.WIN_STAT = 1 ∧ Counted s u p) ∧
    (recovering s (posOf s t.val) = false → ∀ w, winItem x cell level item = some w → Ends (.winDataRead t) s fun u =>
      u.lastRead = toBytes 4 w.toNat ∧ getF u p TSCH.WIN_STAT = 0 ∧ u.tiles = s.tiles ∧ u.mem = s.mem) ∧
    (recovering s (posOf s t.val) = false → winItem x cell level item = none → Ends (.winDataRead t) s fun u =>
      u.lastRead = toBytes 4 0 ∧ getF u p TSCH.WIN_STAT = 2 ∧ u.tiles = s.tiles)

/-! ### Tile banks, region memories, locks (chapter 05) -/

/-- PWR_CMD_OFF, PWR_CMD_RET and PWR_CMD_ON move a free bank into TRANS toward the state commanded; a bank that the tile or
the journal needs is refused with 0x66, as is OFF to RET (R161, R163). -/
def Obligations.PowerCommands : Prop :=
  ∀ (s : State) (page : BankPage) (bank : Fin 16) (q : Nat),
    let k := page.ref bank
    physPage s (refPage k) = some q → Open s (refPage k) →
    let b := refBank k
    let needed := if 0x400 ≤ q then
        tileBankNeeded s ((q - 0x400) / 4) b && !(tileOf s ((q - 0x400) / 4)).halted
      else isJournalBank s ((q - 0x200) / 8) b
    let st := anyBankState s q b
    let free := needed = false ∧ powerLock s q b = .free
    let starts := fun (target : Nat) (u : State) =>
      anyBankState u q b = 3 ∧ look 0 u.pwrTo (bankKey q b) = target + 1 ∧ u.mem = s.mem ∧
      ∀ c, c < 16 → c ≠ b → (0x400 ≤ q → c < 8) → anyBankState u q c = anyBankState s q c
    let refused := fun (u : State) => anyBankState u q b = st ∧ Counted s u q ∧ u.mem = s.mem ∧
      getF u q (if 0x400 ≤ q then TBNK.PWR_RESULT_LASTCODE else RMEM.PWR_RESULT_LASTCODE) = 0x66
    (q < 0x400 → bitOf (getF s q RMEM.SPARE_MAP_RETIRED) b = false) →
    (free → st ≠ 0 → Ends (.pwrCmdOff page bank) s (starts 0)) ∧
    (free → st ≠ 0 → st ≠ 1 → Ends (.pwrCmdRet page bank) s (starts 1)) ∧
    (free → st ≠ 2 → Ends (.pwrCmdOn page bank) s (starts 2)) ∧
    (needed = true → Ends (.pwrCmdOff page bank) s refused ∧ Ends (.pwrCmdOn page bank) s refused) ∧
    (needed = true ∨ st = 0 → Ends (.pwrCmdRet page bank) s refused)

/-- BANK_STATE_REACHED ends a transition in the state commanded; a bank that went OFF holds zeros when it is next used
(R160, R161). -/
def Obligations.BankStateReached : Prop :=
  ∀ (s : State) (page : BankPage) (bank : Fin 16) (q target : Nat),
    let k := page.ref bank
    physPage s (refPage k) = some q → target < 3 →
    let b := refBank k
    let a0 := anyBankBase s q b
    anyBankState s q b = 3 → look 0 s.pwrTo (bankKey q b) = target + 1 →
    (∀ c, look 0 s.pwrQ (bankKey q c) = 0) → Ends (.bankStateReached page bank) s fun u =>
      anyBankState u q b = target ∧ look 0 u.pwrTo (bankKey q b) = 0 ∧
      (target = 0 → ∀ a, a0 ≤ a → a < a0 + anyBankSize q → memByte u a = 0) ∧
      (∀ a, target ≠ 0 ∨ a < a0 ∨ a0 + anyBankSize q ≤ a → memByte u a = memByte s a)

/-- ECC_WRITE_BACK stores the corrected word unless a write came first; STARVE_LIMIT counts the cycles that the oldest request
at a bank waits and reports 0x43 when they reach the limit, a limit of 0 disabling it. POLISHER_STEP saves the next block of an ON bank and starts its test, nothing with the polisher off; a
finished step that found failing bits counts and reports 0x24; neither changes what memory holds (R147, R153, R164 to
R167). -/
def Obligations.BankUpkeep : Prop :=
  ∀ (s : State) (a : BitVec 48) (t : TileN) (b : Fin 8) (n : BitVec 32) (r : RegN) (w : Fin 64) (bits : BitVec 39) (k : Nat),
    let q := pgTBNK t.val
    let p := pgRMEM r.val
    (look 0 s.wback a.toNat ≠ 0 → markAt s a.toNat = .corr → Ends (.eccWriteBack a) s fun u =>
      markAt u a.toNat = .clean ∧ look 0 u.wback a.toNat = 0 ∧ (∀ k, k ≠ a.toNat → markAt u k = markAt s k) ∧
      u.mem = s.mem ∧ u.regs = s.regs ∧ Silent s u) ∧
    (look 0 s.wback a.toNat = 0 → Ends (.eccWriteBack a) s fun u => u = s) ∧
    (∀ x, starving s t.val b.val = some x → Ends (.starveLimit t (b, n)) s fun u =>
      let lim := getF s q TBNK.STARVE_LIMIT
      let reached := lim ≠ 0 ∧ x.1.waited < lim ∧ lim ≤ x.1.waited + n.toNat
      getF u q (TBNK.STARVE b.val) = min (getF s q (TBNK.STARVE b.val) + n.toNat) (2 ^ 32 - 1) ∧
      (reached → Reported s u q 0x43 0 ∧ Counted s u q) ∧
      (¬reached → Silent s u ∧ getF u q HDR.ERR_COUNT = getF s q HDR.ERR_COUNT) ∧ u.mem = s.mem ∧ u.tiles = s.tiles ∧
      RegsBut s u [regKey q (TBNK.STARVE b.val).off, regKey q TBNK.STARVE_MAX.off, regKey q HDR.ERR_COUNT.off,
        regKey pgDEVT DEVT.LOST.off]) ∧
    (starving s t.val b.val = none → Ends (.starveLimit t (b, n)) s fun u => u = s) ∧
    (s.released = true →
      (flagF s p RMEM.POLISH_CFG_EN = true → (polishOf s r.val).running = false → (polishOf s r.val).started = false →
        seekBlock s r.val 160 0 = some k → blockTrans s r.val k = false → blockMoves s r.val k = false → k < 25088 → Ends (.polisherStep r) s fun u =>
          (polishOf u r.val).running = true ∧ getF u p RMEM.POLISH_POS = k ∧ u.mem = s.mem ∧ u.tiles = s.tiles) ∧
      (flagF s p RMEM.POLISH_CFG_EN = false → Ends (.polisherStep r) s fun u => u = s) ∧
      ((polishOf s r.val).running = true → bits ≠ 0 → Ends (.polisherStepDone r w bits) s fun u =>
        (polishOf u r.val).running = false ∧
        getF u p RMEM.POLISH_FAIL = min (getF s p RMEM.POLISH_FAIL + 1) (2 ^ 32 - 1) ∧
        Recorded s u p 0x24 (polishDetail (getF s p RMEM.POLISH_POS) w.val bits.toNat) ∧ u.mem = s.mem) ∧
      ((polishOf s r.val).running = true → bits = 0 → Ends (.polisherStepDone r w bits) s fun u =>
        (polishOf u r.val).running = false ∧ getF u p RMEM.POLISH_FAIL = getF s p RMEM.POLISH_FAIL ∧ u.mem = s.mem) ∧
      ((polishOf s r.val).running = false → Ends (.polisherStepDone r w bits) s fun u => u = s))

/-- ACQUIRE takes a FREE or ORPHANED lock and leaves a held one as it is; RELEASE by the owner frees it, or leaves it
ORPHANED with its orphan flag set, an assayer's frees any; CLRORPH by the owner clears the flag. Any other RELEASE or
CLRORPH changes no lock, counts, and raises 0x37 when `EVT_EN` bit 2 is set (R171). -/
def Obligations.Locks : Prop :=
  ∀ (s : State) (r : RegN) (n : Fin 32) (src : BitVec 10),
    let p := pgRMEM r.val
    let key := regKey p (RMEM.LOCK_STATE n.val).off
    let st := getF s p (RMEM.LOCK_STATE n.val)
    let orph := getF s p (RMEM.LOCK_ORPH n.val)
    let mine := st = 1 ∧ getF s p (RMEM.LOCK_OWNER n.val) = src.toNat
    let held := fun (u : State) (o : Nat) => getF u p (RMEM.LOCK_STATE n.val) = 1 ∧
      getF u p (RMEM.LOCK_OWNER n.val) = src.toNat ∧ getF u p (RMEM.LOCK_ORPH n.val) = o ∧ OnlyRegs s u [key]
    let left := fun (u : State) (to_ o : Nat) => getF u p (RMEM.LOCK_STATE n.val) = to_ ∧
      getF u p (RMEM.LOCK_OWNER n.val) = getF s p (RMEM.LOCK_OWNER n.val) ∧ getF u p (RMEM.LOCK_ORPH n.val) = o ∧
      OnlyRegs s u [key]
    let refused := fun (u : State) => Counted s u p ∧
      (bitOf (getF s p HDR.EVT_EN) 2 = true → Reported s u p 0x37 0) ∧ (bitOf (getF s p HDR.EVT_EN) 2 = false → Silent s u) ∧
      OnlyRegsEvents s u [regKey p HDR.ERR_COUNT.off]
    let assayer := isAssayerId src.toNat = true
    OpenTo s src.toNat p →
    (st = 0 → Ends (.acquire r n src) s fun u => held u 0) ∧
    (st = 2 → Ends (.acquire r n src) s fun u => held u 1) ∧
    (st = 1 → Ends (.acquire r n src) s fun u => left u st orph) ∧
    (assayer → Ends (.release r n src) s fun u => left u 0 0) ∧
    (¬assayer → mine → orph = 0 → Ends (.release r n src) s fun u => left u 0 0) ∧
    (¬assayer → mine → orph = 1 → Ends (.release r n src) s fun u => left u 2 1) ∧
    (¬assayer → ¬mine → Ends (.release r n src) s refused) ∧
    (mine → Ends (.clrorph r n src) s fun u => held u 0) ∧
    (¬mine → Ends (.clrorph r n src) s refused)

/-- SEM_TAKE returns the semaphore's bit and clears it; SEM_GIVE sets each semaphore whose bit is 1 (R173). -/
def Obligations.Semaphores : Prop :=
  ∀ (s : State) (r : RegN) (n : Fin 32) (v : Word),
    let p := pgRMEM r.val
    (Ends (.semTake r n) s fun u =>
      u.lastRead = toBytes 4 (getF s p (RMEM.SEM_TAKE n.val)) ∧ getF u p (RMEM.SEM_TAKE n.val) = 0 ∧
      RegsBut s u [regKey p (RMEM.SEM_TAKE n.val).off] ∧ u.mem = s.mem ∧ u.tiles = s.tiles) ∧
    (Open s p → Ends (.semGive r v) s fun u =>
      (∀ k, k < 32 → getF u p (RMEM.SEM_TAKE k) = if v.getLsbD k then 1 else getF s p (RMEM.SEM_TAKE k)) ∧
      OnlyRegs s u ((List.range 32).map fun k => regKey p (RMEM.SEM_TAKE k).off))

/-! ### DMA channels (chapter 06) -/

/-- START, HALTREQ, DOORBELL and RESET by the channel's state (R192, R199, R200). -/
def Obligations.DmaChannelControl : Prop :=
  ∀ (s : State) (c : ChanId),
    let k := chKey c
    let p := chPage k
    let n := chanNo c
    let st := chState s k
    let ctrl := regKey p (RDMA.CH_CTRL_HALTREQ n).off
    let began := fun (u : State) => chState u k = 1 ∧ chCur u k = chHead s k ∧ u.mem = s.mem ∧ u.tiles = s.tiles ∧ Silent s u
    Open s p → chBlocked s k = false →
    (st = 0 ∨ st = 7 → Ends (.start c) s fun u => began u ∧ getF u p (RDMA.CH_CTRL_HALTREQ n) = 0) ∧
    (st ≠ 0 → st ≠ 7 → Ends (.start c) s fun u =>
      chState u k = st ∧ Counted s u p ∧ OnlyRegs s u [regKey p HDR.ERR_COUNT.off, ctrl]) ∧
    (Ends (.haltreq c) s fun u =>
      getF u p (RDMA.CH_CTRL_HALTREQ n) = 1 ∧ OnlyRegs s u [ctrl]) ∧
    (st = 0 → Ends (.doorbell c) s began) ∧
    (st = 6 → Ends (.doorbell c) s fun u => chState u k = 5 ∧ OnlyRegs s u [regKey p (RDMA.CH_STAT_STATE n).off]) ∧
    (st = 7 → Ends (.doorbell c) s fun u => u = s) ∧
    (1 ≤ st → st ≤ 5 → Ends (.doorbell c) s fun u =>
      getF u p (RDMA.CH_STAT_DBPEND n) = 1 ∧ chState u k = st ∧ OnlyRegs s u [regKey p (RDMA.CH_STAT_DBPEND n).off]) ∧
    (st = 0 ∨ st = 6 ∨ st = 7 → Ends (.reset c) s fun u => chState u k = 0 ∧ u.mem = s.mem ∧ u.tiles = s.tiles) ∧
    (st = 2 ∨ st = 3 → Ends (.reset c) s fun u =>
      chState u k = 3 ∧ (dmaOf u k).code = 0x38 ∧ (dmaOf u k).resetting = true ∧ u.mem = s.mem ∧ u.tiles = s.tiles) ∧
    (st = 4 → Ends (.reset c) s fun u =>
      chState u k = 4 ∧ (dmaOf u k).code = (dmaOf s k).code ∧ (dmaOf u k).resetting = true ∧ u.mem = s.mem)

/-- DESC_FETCH reads the descriptor at `CUR` and checks it; DESC_COMPLETE writes the status, clears OWN and goes on to NEXT,
to RECHECK or to HALTED; RECHECK parks the channel while END stands and else follows NEXT; RESP_SLOW reports a slow
transaction once (R182, R183, R188 to R192, R200). -/
def Obligations.DmaDescriptors : Prop :=
  ∀ (s : State) (c : ChanId) (st : Nat),
    let k := chKey c
    let p := chPage k
    let n := chanNo c
    let cur := chCur s k
    let w := fun i => memWord s (st + 4 * i)
    let d := dmaOf s k
    let lim := getF s p (if isZilCh k then ZLNK.RESP_LIMIT else RDMA.RESP_LIMIT)
    s.released = true →
    (chState s k = 1 → reachCode cur ≠ 0 → Ends (.descFetch c) s fun u =>
      chState u k = 7 ∧ getF u p (RDMA.CH_STAT_LASTCODE n) = reachCode cur ∧ u.mem = s.mem) ∧
    (reachCode cur = 0 → placeHeld s (chInit k) (placeOf cur) = false → routeRefused s (chInit k) cur = false →
      placeRefusal s (placeOf cur) = 0 → storageOf s (placeOf cur) = some st → CleanDesc s st →
      (chState s k = 1 → bitOf (w 0).toNat 31 = false → Ends (.descFetch c) s fun u =>
        chState u k = 7 ∧ getF u p (RDMA.CH_STAT_LASTCODE n) = 0x32 ∧ u.mem = s.mem ∧ u.tiles = s.tiles) ∧
      (chState s k = 1 → bitOf (w 0).toNat 31 = true →
        5 ≤ bitsOf (w 0).toNat 27 24 ∨ bitOf (w 0).toNat 28 = true ∨ bitsOf (w 2).toNat 31 16 ≠ 0 ∨
          bitsOf (w 4).toNat 31 16 ≠ 0 ∨ bitsOf (w 0).toNat 23 0 = 0 →
        Ends (.descFetch c) s fun u => chState u k = 4 ∧ (dmaOf u k).code = 0x31 ∧ u.mem = s.mem ∧ u.tiles = s.tiles) ∧
      (chState s k = 1 → bitOf (w 0).toNat 31 = true → bitOf (w 0).toNat 28 = false → bitsOf (w 0).toNat 27 24 = 1 →
        bitsOf (w 0).toNat 23 0 ≠ 0 → bitsOf (w 2).toNat 31 16 = 0 → w 3 = 0 → w 4 = 0 → isZilCh k = false →
        feederOf s k = none → Ends (.descFetch c) s fun u =>
          chState u k = 2 ∧ (∀ i, i < 8 → (dmaOf u k).desc.getD i 0 = w i) ∧ (dmaOf u k).wr = 0 ∧ (dmaOf u k).code = 0 ∧
          u.mem = s.mem ∧ u.tiles = s.tiles) ∧
      (chState s k = 5 → bitOf (w 0).toNat 30 = true → Ends (.recheck c) s fun u =>
        chState u k = 6 ∧ chCur u k = cur ∧ getF u p (RDMA.CH_STAT_DBPEND n) = 0 ∧ u.mem = s.mem) ∧
      (chState s k = 5 → bitOf (w 0).toNat 30 = false → Ends (.recheck c) s fun u =>
        chState u k = 1 ∧ chCur u k = (w 5).toNat * 32 ∧ u.mem = s.mem)) ∧
    ((chState s k = 3 ∧ d.outR = 0 ∧ d.outW = 0) ∨ chState s k = 4 → d.resetting = false → cur < 2 ^ 37 → s.writesOpen = true →
      (placeOf cur = .lpddr st ∨ ∃ r off, placeOf cur = .rmem r off ∧ st = rmemStore s r off) → mirrored s st = none →
      placeRefusal s (placeOf cur) = 0 → reservedFor s (chInit k) (placeOf cur) = false →
      routeRefused s (chInit k) cur = false → CleanDesc s st →
      Ends (.descComplete c) s fun u =>
        memWord u (st + 28) = word (statusWord d) ∧
        memWord u st = (if st < 0x800000000 then word (dWord d 0 % 2 ^ 31) else w 0 &&& 0x7FFFFFFF) ∧
        (dOp d = 2 → memWord u (st + 24) = word (compareResult d)) ∧ MemBut s u st 32 ∧
        getF u p (RDMA.CH_STAT_INDEX n) = (getF s p (RDMA.CH_STAT_INDEX n) + 1) % 65536 ∧
        getF u p (RDMA.CH_DESC_COUNT n) = min (getF s p (RDMA.CH_DESC_COUNT n) + 1) (2 ^ 32 - 1) ∧
        getF u p (RDMA.CH_STAT_LASTCODE n) = d.code % 256 ∧ u.tiles = s.tiles ∧
        (if d.code ≠ 0 ∨ flagF s p (RDMA.CH_CTRL_HALTREQ n) = true then chState u k = 7
         else if bitOf (dWord d 0) 30 then chState u k = 5 ∧ chCur u k = cur
         else chState u k = 1 ∧ chCur u k = dWord d 5 * 32)) ∧
    (lim ≠ 0 → (∃ i t, (i, some t) ∈ s.txns ∧ txnChan t.purpose = some k ∧ t.slow = false ∧ lim ≤ 10 * (s.age - t.at_) + 9) →
        Ends (.respSlow c) s fun u => Reported s u p 0x44 0 ∧ u.mem = s.mem ∧ u.dma = s.dma)

/-- COPY, COMPARE, GATHER and SCATTER over ranges of module memory: what moves where, and that no other byte of memory
changes (R179, R181, R184, R186). -/
def Obligations.DmaOperations : Prop :=
  ∀ (s : State) (c : ChanId),
    let k := chKey c
    let d := dmaOf s k
    let a := dA d
    let b := dB d
    let n := dLen d
    AtStart s k →
    (dOp d = 0 → 0 < n → PlainRange s a n → PlainRange s b n → Apart a n b n → Ends (.copy c) s fun u =>
      chState u k = 3 ∧ (dmaOf u k).code = 0 ∧ (dmaOf u k).wr = n ∧
      (∀ i, i < n → memByte u (a + i) = memByte s (b + i)) ∧ MemBut s u a n ∧ u.tiles = s.tiles) ∧
    (dOp d = 2 → 0 < n → PlainRange s a n → PlainRange s b n → ∀ j, j ≤ n →
      (∀ i, i < j → memByte s (a + i) = memByte s (b + i)) → (j < n → memByte s (a + j) ≠ memByte s (b + j)) →
      Ends (.compare c) s fun u =>
        chState u k = 3 ∧ (dmaOf u k).code = 0 ∧ (dmaOf u k).equal = j ∧ (dmaOf u k).differ = decide (j < n) ∧
        u.mem = s.mem ∧ u.tiles = s.tiles) ∧
    (dOp d = 3 → ∀ m, GoodList s d m → Ends (.gather c) s fun u =>
      chState u k = 3 ∧ (dmaOf u k).code = 0 ∧ (dmaOf u k).elem = m ∧
      (∀ e i, e < m → i < elemLen d e → memByte u (a + elemOff d e + i) = memByte s (elemAddr d e + i)) ∧
      MemBut s u a (elemOff d m) ∧ u.tiles = s.tiles) ∧
    (dOp d = 4 → ∀ m, GoodList s d m →
      (∀ e f, e < f → f < m → Apart (elemAddr d e) (elemLen d e) (elemAddr d f) (elemLen d f)) → Ends (.scatter c) s fun u =>
        chState u k = 3 ∧ (dmaOf u k).code = 0 ∧ (dmaOf u k).elem = m ∧
        (∀ e i, e < m → i < elemLen d e → memByte u (elemAddr d e + i) = memByte s (a + elemOff d e + i)) ∧
        (∀ x, (∀ e, e < m → x < elemAddr d e ∨ elemAddr d e + elemLen d e ≤ x) → memByte u x = memByte s x) ∧
        u.tiles = s.tiles)

/-- A channel that the engine selects issues one beat of up to 64 bytes that crosses no 64-byte boundary: DMA_READ_BEAT a
read request of the next source bytes, DMA_WRITE_BEAT a write request of the next destination bytes (R180, R185, R186, R196). -/
def Obligations.DmaBeats : Prop :=
  ∀ (s : State) (c : ChanId),
    let k := chKey c
    let d := dmaOf s k
    let src := jobSrc d + d.rd
    let dst := jobDst d + d.wr
    let m := min (64 - src % 64) (jobLen d - d.rd)
    let n := min (64 - dst % 64) (dLen d - d.wr)
    s.released = true → chState s k = 2 → settle s k = s → isZilCh k = false → feederOf s k = none →
    -- the engine's interface has room in its router's queue for the beat (R12)
    (selectCh s (k / 32) false = some (k % 32) → dOp d = 0 ∨ dList d = true → isHostAddr k src = false → reachCode src = 0 →
      routeRefused s (chInit k) src = false → localRoom s { blankPkt with vc := decide (4 ≤ chPrio s k), rtr := (initIf (chInit k)).1 } = true →
      Ends (.dmaReadBeat c) s fun u =>
        (∃ q, Sends s u q ∧ q.cls = .req ∧ q.write = false ∧ q.addr = src ∧ q.nbytes = m ∧ q.src = chInit k ∧
          destOf (placeOf src) = some (q.drt, q.dpt) ∧ q.vc = decide (4 ≤ chPrio s k)) ∧
        (dmaOf u k).rd = d.rd + m ∧ (dmaOf u k).outR = d.outR + 1 ∧ u.mem = s.mem ∧ u.regs = s.regs) ∧
    -- the engine's interface has room in its router's queue for the beat (R12)
    (selectCh s (k / 32) true = some (k % 32) → dOp d = 0 ∨ dOp d = 1 → d.poisoned = [] → isHostAddr k dst = false →
      reachCode dst = 0 → routeRefused s (chInit k) dst = false →
      localRoom s { blankPkt with vc := decide (4 ≤ chPrio s k), flits := 2, rtr := (initIf (chInit k)).1 } = true →
      Ends (.dmaWriteBeat c) s fun u =>
        (∃ q, Sends s u q ∧ q.cls = .req ∧ q.write = true ∧ q.addr = dst / 64 * 64 ∧ q.be = (2 ^ n - 1) * 2 ^ (dst % 64) ∧
          q.poison = false ∧ q.src = chInit k ∧
          ∀ i, i < n → q.data.getD (dst % 64 + i) 0 =
            (if dOp d = 1 then (toBytes 4 (dWord d 6)).getD ((dst + i) % 4) 0 else stagedGet d.staged (d.wr + i))) ∧
        (dmaOf u k).wr = d.wr + n ∧ (dmaOf u k).outW = d.outW + 1 ∧ u.mem = s.mem ∧
        chState u k = (if d.wr + n = dLen d then 3 else 2))

/-! ### The packet network (chapter 07) -/

/-- FLIT_FORWARD sends on the head packet of highest urgency and ages it; LINK_RESEND asks again for a bad flit, and after
three failed resends of one packet withdraws the link with 0x33, the sender keeping the packet; STATS_CLEAR clears one set of statistics (R219, R220, R223, R225). -/
def Obligations.NetworkForwarding : Prop :=
  ∀ (s : State) (r : RtrN) (out : Fin 8) (w : Nat) (corr : Fin 9) (g : RegN) (j : Fin 4),
    let p := pgRRTR r.val
    let o := out.val
    let tries := look 0 s.fails (8 * r.val + o)
    (∀ q i q', chooseHead s r.val o = some (q, i) → afterHop s r.val o q = some q' → Ends (.flitForward r out w corr) s fun u =>
      u.net = s.net.eraseIdx i ++ [{ q' with urg := min 15 (q.urg + (q.age + w) / 64), age := (q.age + w) % 64, arrival := s.arrivals }] ∧
      (∀ h ∈ queueHeads s.net.zipIdx r.val, (afterHop s r.val o h.1).isSome = true → retryFirst s r.val h.1 = true → h.1.urg ≤ q.urg) ∧
      u.mem = s.mem ∧ u.tiles = s.tiles) ∧
    (chooseHead s r.val o = none → Ends (.flitForward r out w corr) s fun u => u = s) ∧
    ((failing s r.val o).isSome = true → linkStat s r.val o = 1 ∨ linkStat s r.val o = 2 → tries < 3 →
      Ends (.linkResend r out) s fun u =>
        linkStat u r.val o = 2 ∧ look none u.retry (8 * r.val + o) = failing s r.val o ∧ getF u p RRTR.RETRY = min (getF s p RRTR.RETRY + 1) (2 ^ 32 - 1) ∧
        look 0 u.fails (8 * r.val + o) = tries + 1 ∧ u.net = s.net ∧ u.mem = s.mem ∧ Silent s u) ∧
    ((failing s r.val o).isSome = true → linkStat s r.val o = 1 ∨ linkStat s r.val o = 2 → tries = 3 →
      Ends (.linkResend r out) s fun u =>
        linkStat u r.val o = 3 ∧ Reported s u p 0x33 0 ∧ u.net = s.net ∧ u.mem = s.mem) ∧
    (failing s r.val o = none ∨ linkStat s r.val o = 0 ∨ linkStat s r.val o = 3 → Ends (.linkResend r out) s fun u => u = s) ∧
    (Open s (pgRSTAT g.val) → Ends (.statsClear g j) s fun u =>
      let q := pgRSTAT g.val
      getF u q (RSTAT.TXN j.val) = 0 ∧ getF u q (RSTAT.LAT_MAX j.val) = 0 ∧ wideOf u q (RSTAT.RD_LO j.val).off = 0 ∧
      wideOf u q (RSTAT.WR_LO j.val).off = 0 ∧ wideOf u q (RSTAT.LAT_SUM_LO j.val).off = 0 ∧
      (∀ b, b < 16 → getF u q (histF j.val b) = 0) ∧
      (∀ i : Fin 4, i ≠ j → getF u q (RSTAT.TXN i.val) = getF s q (RSTAT.TXN i.val)) ∧ u.mem = s.mem ∧ Silent s u)

/-- REQ_READ and REQ_WRITE perform the oldest request at an interface and answer it under its tag; a payload that cannot be
corrected is answered with 0x25 and not performed. RDATA and WACK end a transaction: its tag is free again, and a DMA
channel takes the response (R208, R210, R218, R224). -/
def Obligations.RequestsAndResponses : Prop :=
  ∀ (s : State) (r : RtrN) (d : Fin 5) (lat : Nat) (m : Bool),
    let answer := fun (u : State) (q : Pkt) (i code : Nat) (holds : Pkt → Prop) =>
      ∃ a : Pkt, u.net = s.net.eraseIdx i ++ [a] ∧ a.cls = .rsp ∧ a.write = q.write ∧ a.code = code ∧ a.src = q.src ∧
        a.tag = q.tag ∧ a.vc = q.vc ∧ (a.drt, a.dpt) = initIf q.src ∧ holds a
    let got := fun (wr : Bool) => arrivedAt s r.val d.val fun k => k.cls == .rsp && k.write == wr
    (∀ q i a, readyRead s r.val d.val = some (q, i) → placeOf q.addr = .lpddr a → q.addr % 64 + q.nbytes ≤ 64 →
      (∀ b, b < q.nbytes → markAt s (wordKey (a + b)) = .clean) → Ends (.reqRead r d (⟨0, false⟩, m)) s fun u =>
        answer u q i 0 (fun x => ∀ b, b < q.nbytes → x.data.getD (q.addr % 64 + b) 0 = memByte s (a + b)) ∧
        u.mem = s.mem ∧ u.regs = s.regs) ∧
    (∀ q i, readyRead s r.val d.val = some (q, i) → Ends (.reqRead r d (⟨0, true⟩, m)) s fun u =>
      answer u q i 0x25 (fun _ => True) ∧ u.mem = s.mem ∧ Reported s u (pgRRTR r.val) 0x25 0 ∧
      getF u (pgRRTR r.val) RRTR.UNCORR = min (getF s (pgRRTR r.val) RRTR.UNCORR + 1) (2 ^ 32 - 1)) ∧
    (readyRead s r.val d.val = none → ∀ e, Ends (.reqRead r d (e, m)) s fun u => u = s) ∧
    (∀ q i a, readyWrite s r.val d.val = some (q, i) → placeOf q.addr = .lpddr a → a % 64 = 0 →
      q.poison = false → reservedFor s q.src (.lpddr a) = false →
      (∀ b, b < 64 → markAt s (wordKey (a + b)) = .clean) → Ends (.reqWrite r d (⟨0, false⟩, m) 0) s fun u =>
        answer u q i 0 (fun _ => True) ∧ u.regs = s.regs ∧ MemBut s u a 64 ∧
        ∀ b, b < 64 → memByte u (a + b) = if bitOf q.be b then q.data.getD b 0 else memByte s (a + b)) ∧
    (∀ q i, readyWrite s r.val d.val = some (q, i) → Ends (.reqWrite r d (⟨0, true⟩, m) 0) s fun u => answer u q i 0x25 (fun _ => True) ∧ u.mem = s.mem) ∧
    (readyWrite s r.val d.val = none → ∀ e b, Ends (.reqWrite r d (e, m) b) s fun u => u = s) ∧
    (∀ q i t ch off side, got false = some (q, i) → look none s.txns (256 * q.src + q.tag) = some t →
      t.purpose = .dmaRead ch off side → Ends (.rdata r d ⟨0, false⟩ lat) s fun u =>
        u.net = s.net.eraseIdx i ∧ look none u.txns (256 * q.src + q.tag) = none ∧
        (dmaOf u ch).outR = (dmaOf s ch).outR - 1 ∧ u.mem = s.mem) ∧
    (∀ q i t ch unit off, got true = some (q, i) → look none s.txns (256 * q.src + q.tag) = some t →
      t.purpose = .dmaWrite ch unit off → Ends (.wack r d ⟨0, false⟩ lat) s fun u =>
        u.net = s.net.eraseIdx i ∧ look none u.txns (256 * q.src + q.tag) = none ∧
        (dmaOf u ch).outW = (dmaOf s ch).outW - 1 ∧ u.mem = s.mem) ∧
    (got false = none → ∀ e, Ends (.rdata r d e lat) s fun u => u = s) ∧
    (got true = none → ∀ e, Ends (.wack r d e lat) s fun u => u = s)

/-- The stream units: data packets in sequence advance the endpoint, a gap disables it, an unknown stream is discarded
with 0x3B; credits go to the out-endpoint; packets and credits are sent when due, where the route is whole and the router's
queue has room; enabling grants the ring's free slots,
and a conflicting enable is refused with 0x3A (R228 to R233, R236). -/
def Obligations.StreamEndpoints : Prop :=
  ∀ (s : State) (r : RegN) (rr : RtrN) (k : Fin 128),
    let p := pgRRTR r.val
    let key := 128 * r.val + k.val
    let e := endOf s key
    let sq := fun (u : State) => epSeq u r.val k.val
    let cnt := fun (u : State) => epCount u r.val k.val
    let got := fun (cr : Bool) => arrivedAt s r.val 3 fun x => x.cls == .stream && (x.credit == cr)
    let out := isOut k.val
    let on := epEn s r.val k.val
    let mode := epMode s r.val k.val
    let batch := max 1 (getF s p RRTR.STRM_CFG_CRBATCH)
    let sentToks := fun (u : State) => ∃ q, Sends s u q ∧ q.cls = .stream ∧ q.credit = false ∧ q.toks = e.held ∧ q.seq = sq s ∧
      q.drt = getF s p (RRTR.EP_ROUTE_DRT k.val) ∧ q.dpt = getF s p (RRTR.EP_ROUTE_DPT k.val) ∧
      q.stream = getF s p (RRTR.EP_CTL_STREAM k.val) ∧ sq u = (sq s + e.held.length) % 2 ^ 32
    let sentCredit := fun (u : State) (n : Nat) => ∃ q, Sends s u q ∧ q.cls = .stream ∧ q.credit = true ∧ q.seq = n ∧
      q.stream = getF s p (RRTR.EP_CTL_STREAM k.val)
    let clear := routeWhole s 24 r.val (epPkt s r.val k.val) = true ∧ localRoom s (epPkt s r.val k.val) = true
    rr.val = r.val → s.released = true →
    (∀ q i, got false = some (q, i) →
      ((∀ j, j < 128 → takesData s (128 * r.val + j) q.stream = false) → Ends (.streamData rr 3 0 0) s fun u =>
        u.net = s.net.eraseIdx i ∧ Counted s u p ∧ Reported s u p 0x3B 0 ∧ u.mem = s.mem) ∧
      (takesData s key q.stream = true → (∀ j, j < 128 → takesData s (128 * r.val + j) q.stream = true → j = k.val) →
        (q.seq = sq s % 2 ^ 24 → q.toks.length ≤ 14 → Ends (.streamData rr 3 0 0) s fun u =>
          u.net = s.net.eraseIdx i ∧ sq u = (sq s + q.toks.length) % 2 ^ 32 ∧
          (mode = 2 → cnt s + q.toks.length < 2 ^ 21 → cnt u = cnt s + q.toks.length)) ∧
        (q.toks ≠ [] → 0 < (q.seq + 2 ^ 24 - sq s % 2 ^ 24) % 2 ^ 24 → (q.seq + 2 ^ 24 - sq s % 2 ^ 24) % 2 ^ 24 < 2 ^ 23 →
          Ends (.streamData rr 3 0 0) s fun u =>
            u.net = s.net.eraseIdx i ∧ epEn u r.val k.val = false ∧ sq u = sq s ∧ cnt u = cnt s ∧ Reported s u p 0x39 0 ∧
            u.mem = s.mem))) ∧
    (∀ q i, got true = some (q, i) →
      ((∀ j, j < 128 → takesCredit s (128 * r.val + j) q.stream = false) → Ends (.streamCredit rr (3, ⟨0, false⟩)) s fun u =>
        u.net = s.net.eraseIdx i ∧ Counted s u p ∧ Reported s u p 0x3B 0 ∧ u.mem = s.mem) ∧
      (takesCredit s key q.stream = true → (∀ j, j < 128 → takesCredit s (128 * r.val + j) q.stream = true → j = k.val) →
        Ends (.streamCredit rr (3, ⟨0, false⟩)) s fun u =>
          u.net = s.net.eraseIdx i ∧ cnt u + (endOf u key).held.length = min (2 ^ 21 - 1) (cnt s + q.seq) + e.held.length ∧
          u.mem = s.mem)) ∧
    (out = true → on = true → mode = 0 → clear → e.held.length = 14 → Ends (.streamPacketSend r k) s sentToks) ∧
    (out = true → mode = 0 → clear → e.held ≠ [] → Ends (.packWait r k) s sentToks) ∧
    (out = false → on = true → mode ≠ 0 ∨ cnt s = 0 →
      (clear → 0 < e.gathered → batch ≤ e.gathered ∨ cnt s = 0 → Ends (.creditReturn r k) s fun u =>
        sentCredit u e.gathered ∧ (endOf u key).gathered = 0 ∧ u.mem = s.mem ∧ u.regs = s.regs) ∧
      (e.gathered = 0 → Ends (.creditReturn r k) s fun u => u = s)) ∧
    (Open s p → on = false → epBound s r.val k.val = true ∨ epRingBad s r.val k.val = true →
      Ends (.endpointEnable r k) s fun u =>
        epEn u r.val k.val = false ∧ Counted s u p ∧ Reported s u p 0x3A 0 ∧ u.net = s.net ∧ u.mem = s.mem) ∧
    (Open s p → on = false → epBound s r.val k.val = false → epRingBad s r.val k.val = false →
      Ends (.endpointEnable r k) s fun u =>
        epEn u r.val k.val = true ∧
        (out = true → u.net = s.net) ∧
        (out = false → 2 ^ epLog s r.val k.val ≤ cnt s → u.net = s.net) ∧
        (out = false → cnt s < 2 ^ epLog s r.val k.val → sentCredit u (2 ^ epLog s r.val k.val - cnt s))) ∧
    (Open s p → on = true → out = false ∨ e.held = [] → Ends (.endpointDisable r k) s fun u =>
      epEn u r.val k.val = false ∧ OnlyRegs s u [regKey p (RRTR.EP_CTL_EN k.val).off]) ∧
    (Open s p → on = true → out = true → e.held ≠ [] → Ends (.endpointDisable r k) s fun u =>
      epEn u r.val k.val = false ∧ sentToks u ∧ (endOf u key).held = [])

/-- Memory mode: MARK sets the address, a plain token adds a word to the open block, LAST writes and asks for a report,
MARK and LAST read; an address that the interface refuses is counted and reported (R234). -/
def Obligations.MemoryMode : Prop :=
  ∀ (s : State) (r : RegN) (k : Fin 128) (h : Tok) (t : Nat),
    let p := pgRRTR r.val
    let key := 128 * r.val + k.val
    let e := endOf s key
    let a := e.addr
    let src := 16 * r.val + k.val / 8
    let so := fun (u : State) => queueOf (tileOf u t) (13 + k.val % 8)
    let room := fun (n : Nat) =>
      localRoom s { blankPkt with vc := flagF s p (RRTR.EP_CTL_VC k.val), flits := n, rtr := (initIf src).1 } = true
    let holds := fun (b : OpenBlock) => b.addr = a / 64 * 64 ∧ b.be = 15 * 2 ^ (a % 64) ∧ b.poison = h.err ∧
      ofBytes ((b.data.drop (a % 64)).take 4) = h.data.toNat
    s.released = true → memHead s r.val k.val = some (h, t) → e.block = none → a % 4 = 0 → a < 2 ^ 48 →
    (h.mark = true → h.last = false → Ends (.memModeMark r k) s fun u =>
      (endOf u key).addr = (memBase s r.val k.val + h.data.toNat / 4 * 4) % 2 ^ 48 ∧ so u = (so s).drop 1 ∧ u.net = s.net ∧
      u.mem = s.mem ∧ u.regs = s.regs) ∧
    (h.mark = false → h.last = false → getF s p RRTR.STRM_CFG_PACK_WAIT ≠ 0 ∨ 1 < (so s).length →
      Ends (.memModeWrite r k) s fun u =>
        (∃ b, (endOf u key).block = some b ∧ holds b) ∧ (endOf u key).addr = (a + 4) % 2 ^ 48 ∧ so u = (so s).drop 1 ∧
        u.net = s.net ∧ u.mem = s.mem ∧ u.regs = s.regs) ∧
    (h.mark = false → h.last = true → e.due = [] → dueCount s r.val k.val < 8 → room 2 →
      refusedAt s src (a / 64 * 64) = 0 → ∀ g, freeTag s src = some g → Ends (.memModeLastWrite r k) s fun u =>
        (∃ q, Sends s u q ∧ q.cls = .req ∧ q.write = true ∧ q.addr = a / 64 * 64 ∧ q.be = 15 * 2 ^ (a % 64) ∧
          q.poison = h.err ∧ q.src = src ∧ q.tag = g ∧ ofBytes ((q.data.drop (a % 64)).take 4) = h.data.toNat) ∧
        (endOf u key).due = [.write g none, .report] ∧ so u = (so s).drop 1 ∧ u.mem = s.mem) ∧
    (h.mark = true → h.last = true → e.due = [] → dueCount s r.val k.val < 8 →
      (refusedAt s src a = 0 → room 1 → ∀ g, freeTag s src = some g → Ends (.memModeRead r k) s fun u =>
        (∃ q, Sends s u q ∧ q.cls = .req ∧ q.write = false ∧ q.addr = a ∧ q.nbytes = 4 ∧ q.src = src ∧ q.tag = g) ∧
        (endOf u key).due = [.read g none] ∧ so u = (so s).drop 1 ∧ u.mem = s.mem) ∧
      (refusedAt s src a ≠ 0 → Ends (.memModeRead r k) s fun u =>
        Counted s u p ∧ Recorded s u p (refusedAt s src a) (a % 2 ^ 32) ∧ so u = (so s).drop 1 ∧ u.net = s.net))

/-! ### Register pages and events (chapter 16) -/

/-- REGISTER_WRITE to the common header of any page: SCRATCH, EVT_EN and EVT_PEND take the write under their field rules
and nothing else changes; a read-only register stays; a page that takes no write now keeps it waiting. EVT_FORCE sets the
cause bits that the page has (R342, R482, R483, R488). -/
def Obligations.RegisterPages : Prop :=
  ∀ (s : State) (page : Fin 4096) (q : Nat) (b : Blk) (inst : Nat) (v : Word) (src : BitVec 10),
    let p := page.val
    let alone := fun (u : State) (off : Nat) (w : Word) => regAt u q off = w ∧ OnlyRegs s u [regKey q off]
    physPage s p = some q → blkOf q = some (b, inst) →
    (OpenTo s src.toNat p → (0x400 ≤ p → isProt s ((p - 0x400) / 4) = false) →
      (Ends (.registerWrite page 9 v src) s fun u => alone u HDR.SCRATCH.off v) ∧
      (Ends (.registerWrite page 5 v src) s fun u => alone u HDR.EVT_EN.off v) ∧
      (Ends (.registerWrite page 4 v src) s fun u => alone u HDR.EVT_PEND.off (regAt s q HDR.EVT_PEND.off &&& ~~~v)) ∧
      (Ends (.registerWrite page 0 v src) s fun u => u = s) ∧
      (Ends (.registerWrite page 7 v src) s fun u => u = s)) ∧
    (Open s p → (0x400 ≤ p → isProt s ((p - 0x400) / 4) = false) → Ends (.evtForce page v) s fun u =>
      regAt u q HDR.EVT_PEND.off = regAt s q HDR.EVT_PEND.off ||| (v &&& word (pendMask b)) ∧
      OnlyRegsEvents s u [regKey q HDR.EVT_PEND.off]) ∧
    (dieReset s = false → pageWaits s src.toNat p = true →
      ∀ off, Ends (.registerWrite page off v src) s fun u => Waits s u p (4 * off.val) v src.toNat)

/-- The event queue: QPOP removes the oldest record and lets the record of lost events in, EVENT_RING_WRITE moves the
oldest record and the index into the ring, RIDX and RING_CFG follow R498, and nothing moves while the ring is off or full
(R495 to R499). -/
def Obligations.EventQueue : Prop :=
  ∀ (s : State) (e : EvRec) (rest : List EvRec) (v : Word),
    let p := pgDEVT
    let en := flagF s p DEVT.RING_CFG_EN
    let w := getF s p DEVT.WIDX
    let ridx := getF s p DEVT.RIDX
    let b := evRingBase s
    let n := evRingSize s
    let moved := fun (u : State) => u.evq = rest ∧ getF u p DEVT.WIDX = (w + 1) % 65536 ∧ u.tiles = s.tiles
    (Open s p → en = false → s.evq = e :: rest → s.evLost = 0 → Ends .qpop s fun u =>
      u = { s with evq := rest }) ∧
    (Open s p → en = false → s.evq = e :: rest → rest.length < 256 → 0 < s.evLost → Ends .qpop s fun u =>
      u.evLost = 0 ∧ u.mem = s.mem ∧ u.regs = s.regs ∧
      ∃ r, u.evq = rest ++ [r] ∧ r.w2.toNat / 2 ^ 24 = 0x50 ∧ r.w2.toNat % 2 ^ 12 = p ∧ r.w3 = word s.evLost) ∧
    (Open s p → en = true ∨ s.evq = [] → Ends .qpop s fun u => Counted s u p ∧ OnlyRegs s u [regKey p HDR.ERR_COUNT.off]) ∧
    (dieReset s = false → en = true → evRingFull s = false → s.evq = e :: rest → s.evLost = 0 →
      PlainRange s b (16 * n + 4) → (∀ a, routeRefused s 0x233 a = false) → Ends .eventRingWrite s fun u =>
        moved u ∧ memBytes u (b + 16 * (w % n)) 16 = recBytes e ∧
        memBytes u (b + 16 * n) 4 = toBytes 4 ((w + 1) % 65536) ∧ MemBut s u b (16 * n + 4)) ∧
    (dieReset s = false → en = true → evRingFull s = false → s.evq = e :: rest → s.evLost = 0 → bitOf b 47 = true →
      hostFull s = true → Ends .eventRingWrite s fun u =>
        moved u ∧ hostBytes u (b % 2 ^ 47 + 16 * (w % n)) 16 = recBytes e ∧
        hostBytes u (b % 2 ^ 47 + 16 * n) 4 = toBytes 4 ((w + 1) % 65536) ∧ look 0 u.vecPend 0 = 1 ∧ u.mem = s.mem) ∧
    (en = false ∨ evRingFull s = true ∨ s.evq = [] → Ends .eventRingWrite s fun u => u = s) ∧
    (Open s p →
      let new := v.toNat % 65536
      let ok := (new + 65536 - ridx) % 65536 ≤ (w + 65536 - ridx) % 65536
      (ok → Ends (.ridx v) s fun u => getF u p DEVT.RIDX = new ∧ OnlyRegs s u [regKey p DEVT.RIDX.off]) ∧
      (¬ok → Ends (.ridx v) s fun u => Counted s u p ∧ OnlyRegs s u [regKey p HDR.ERR_COUNT.off])) ∧
    (Open s p → Ends (.ringCfg v) s fun u =>
      getF u p DEVT.RING_CFG_EN = bitsOf v.toNat 31 31 ∧
      getF u p DEVT.RING_CFG_LOG2SZ = (if en then getF s p DEVT.RING_CFG_LOG2SZ else bitsOf v.toNat 4 0) ∧
      (en = true → bitsOf v.toNat 4 0 ≠ getF s p DEVT.RING_CFG_LOG2SZ → Counted s u p) ∧
      OnlyRegs s u [regKey p DEVT.RING_CFG_EN.off, regKey p HDR.ERR_COUNT.off])

/-! ### Clocks, rails, clasps and the time base (chapter 08) -/

/-- Clock switches, also to the clock in use: an accepted CLOCK_SWITCH gates the island and keeps the old clock until CLOCK_SWITCH_DONE brings the
new one; one that R244 refuses changes nothing but the count and the event 0x73. A PLL in use takes no write (0x67); one
that locks, and one that loses lock, whose islands go to RING with the divider of R247 and the event 0x46 (R241 to R247). -/
def Obligations.TileClocks : Prop :=
  ∀ (s : State) (t : TileN) (v : Word) (r : RegN) (b : Bool),
    let p := pgRCLK (t.val / 16)
    let l := t.val % 16
    let src := bitsOf v.toNat 1 0
    let div := bitsOf v.toNat 5 3
    let sw := clkSwitchOf s t.val
    let bad := 5 < div ∨ clkFits s (t.val / 16) src div (getF s p RCLK.RAIL_SET) = false ∨
      (src < 2 ∧ ¬(pllEn s (t.val / 16) src = true ∧ pllLocked s (t.val / 16) src = true)) ∨ tileGated s t.val = true
    let q := pgRCLK r.val
    let n := b2n b
    let m := bitsOf v.toNat 4 0
    let refused := fun (u : State) (page code : Nat) => Counted s u page ∧ Reported s u page code 0 ∧
      OnlyRegsEvents s u [regKey page HDR.ERR_COUNT.off]
    (Open s p → bad → Ends (.clockSwitch t v) s fun u => refused u p 0x73) ∧
    (Open s p → ¬bad → Ends (.clockSwitch t v) s fun u =>
      tileGated u t.val = true ∧ baseSrc u t.val = src ∧ baseDiv u t.val = div ∧ curSrc u t.val = curSrc s t.val ∧
      curDiv u t.val = curDiv s t.val ∧ (clkSwitchOf u t.val).src = src ∧
      (clkSwitchOf u t.val).div = (if bitOf v.toNat 30 then div else min 5 (div + clkSteps s t.val)) ∧
      u.tiles = s.tiles ∧ u.mem = s.mem ∧ Silent s u) ∧
    (tileGated s t.val = true → (tileOf s t.val).stepDue = false → Ends (.clockSwitchDone t) s fun u =>
      tileGated u t.val = false ∧ curSrc u t.val = sw.src % 4 ∧ curDiv u t.val = sw.div % 8 ∧
      getF u p (RCLK.TILE_CLK_LOCKABLE l) = b2n (clkLockable s (t.val / 16) (sw.src % 4) (sw.div % 8)) ∧ u.tiles = s.tiles ∧
      OnlyRegs s u [regKey p (RCLK.TILE_CLK_BUSY l).off]) ∧
    (tileGated s t.val = false → Ends (.clockSwitchDone t) s fun u => u = s) ∧
    (Open s q → pllInUse s r.val n = true → Ends (.pllConfigWrite r b v) s fun u => refused u q 0x67) ∧
    (Open s q → pllInUse s r.val n = false → m < 4 ∨ 24 < m → Ends (.pllConfigWrite r b v) s fun u => refused u q 0x73) ∧
    (Open s q → pllInUse s r.val n = false → 4 ≤ m → m ≤ 24 → Ends (.pllConfigWrite r b v) s fun u =>
      pllMult u r.val n = m ∧ pllEn u r.val n = bitOf v.toNat 31 ∧
      (pllLocked u r.val n = true →
        pllLocked s r.val n = true ∧ m = pllMult s r.val n ∧ pllEn s r.val n = true ∧ bitOf v.toNat 31 = true) ∧
      OnlyRegs s u [regKey q (if b then RCLK.PLLB_CFG_EN else RCLK.PLLA_CFG_EN).off]) ∧
    (pllEn s r.val n = true → s.load.clk.isSome = true → Ends (.pllLock r b) s fun u =>
      pllLocked u r.val n = true ∧ OnlyRegs s u [regKey q (if b then RCLK.PLLB_CFG_EN else RCLK.PLLA_CFG_EN).off]) ∧
    (pllEn s r.val n = false → Ends (.pllLock r b) s fun u => u = s) ∧
    (pllLocked s r.val n = true → failStaticOn s = false → Ends (.pllUnlock r b) s fun u =>
      pllLocked u r.val n = false ∧ Reported s u q 0x46 0 ∧ u.tiles = s.tiles ∧ u.mem = s.mem ∧
      ∀ i : Fin 16, curSrc s (16 * r.val + i.val) = n → tileRetired s (16 * r.val + i.val) = false →
        let x := 16 * r.val + i.val
        tileGated u x = true ∧ (clkSwitchOf u x).src = 2 ∧ baseDiv u x = baseDiv s x ∧
        (clkSwitchOf u x).div = ringDiv s r.val (curDiv s x) (getF s q RCLK.RAIL_SET) ∧
        getF u q (RCLK.TILE_CLK_LOCKABLE i.val) = 0) ∧
    (pllLocked s r.val n = false → Ends (.pllUnlock r b) s fun u => u = s)

/-- The reference, the rails, the boundaries and the time base: REF_LOST and REF_SELECT, RAIL_SET with its refusals (0x74),
NEIGHBOUR_LIMIT (0x75), TB_STEP, refused while the time transport owns the time base, and TB_SLEW, whose tick adds 11 or 9
(R239, R249, R251, R259). -/
def Obligations.ReferenceRailsAndTime : Prop :=
  ∀ (s : State) (r : RegN) (side : Fin 4) (v : Word) (ext : Bool),
    let c := pgDCLK
    let p := pgRCLK r.val
    let mv := bitsOf v.toNat 9 0
    let sel := bitsOf v.toNat 0 0
    let inUse := getF s c DCLK.REF_CFG_SEL = 0 ∧ getF s c DCLK.REF_CFG_ACTIVE = 0
    let good := 600 ≤ mv ∧ mv ≤ 900 ∧ mv % 10 = 0 ∧
      (∀ d q, d < 4 → regionBeside r.val d = some q →
        mv ≤ getF s (pgRCLK q) RCLK.RAIL_SET + 300 ∧ getF s (pgRCLK q) RCLK.RAIL_SET ≤ mv + 300) ∧
      ∀ l, l < 16 → clkFits s r.val (curSrc s (16 * r.val + l)) (curDiv s (16 * r.val + l)) mv = true ∧
        (tileGated s (16 * r.val + l) = true →
          clkFits s r.val (clkSwitchOf s (16 * r.val + l)).src (clkSwitchOf s (16 * r.val + l)).div mv = true)
    let owned := flagF s c DCLK.TB_SLEW_XPORT
    (inUse → Ends .refLost s fun u =>
      getF u c DCLK.REF_CFG_ACTIVE = 1 ∧ getF u c DCLK.REF_CFG_EXTOK = 0 ∧ Reported s u c 0x45 0 ∧
      RegsBut s u [regKey c DCLK.REF_CFG_SEL.off, regKey pgDEVT DEVT.LOST.off] ∧ u.mem = s.mem ∧ u.tiles = s.tiles) ∧
    (¬inUse → Ends .refLost s fun u =>
      getF u c DCLK.REF_CFG_EXTOK = 0 ∧ getF u c DCLK.REF_CFG_ACTIVE = getF s c DCLK.REF_CFG_ACTIVE ∧
      OnlyRegs s u [regKey c DCLK.REF_CFG_SEL.off]) ∧
    (Open s c → Ends (.refSelect (v, ext)) s fun u =>
      let seen := if getF s c DCLK.REF_CFG_ACTIVE = 1 then ext else flagF s c DCLK.REF_CFG_EXTOK
      getF u c DCLK.REF_CFG_SEL = sel ∧ flagF u c DCLK.REF_CFG_EXTOK = seen ∧
      getF u c DCLK.REF_CFG_ACTIVE = (if sel = 1 then 1 else if seen = true then 0 else getF s c DCLK.REF_CFG_ACTIVE) ∧
      OnlyRegs s u [regKey c DCLK.REF_CFG_SEL.off]) ∧
    (Open s p → good → Ends (.railSet r v) s fun u =>
      getF u p RCLK.RAIL_SET = mv ∧ getF u p RCLK.RAIL_MEAS = getF s p RCLK.RAIL_MEAS ∧
      OnlyRegs s u [regKey p RCLK.RAIL_SET.off]) ∧
    (Open s p → ¬good → Ends (.railSet r v) s fun u =>
      Counted s u p ∧ Reported s u p 0x74 0 ∧ OnlyRegsEvents s u [regKey p HDR.ERR_COUNT.off]) ∧
    (flagF s p (neighF side.val 2) = false → 560 < tempGap s r.val side.val → Ends (.neighbourLimit r side) s fun u =>
      flagF u p (neighF side.val 2) = true ∧ Reported s u p 0x75 0 ∧
      (∀ d b, d < 4 → b < 4 → d ≠ side.val → getF u p (neighF d b) = getF s p (neighF d b)) ∧
      OnlyRegsEvents s u [regKey p RCLK.NEIGH.off]) ∧
    (flagF s p (neighF side.val 2) = true ∨ tempGap s r.val side.val ≤ 560 → Ends (.neighbourLimit r side) s fun u => u = s) ∧
    (Open s c → owned = false → Ends (.tbStep v) s fun u => u = { s with tbStep := s.tbStep + v.toNat }) ∧
    (Open s c → owned = true → Ends (.tbStep v) s fun u => Counted s u c ∧ OnlyRegs s u [regKey c HDR.ERR_COUNT.off]) ∧
    (slewDue s = true → dieReset s = false → s.tbStep = 0 → s.heldW = [] → s.load.handing = none →
      s.strand.paired.message = none → (∀ i, i < 5 → frameOf s i = []) → Ends .tbSlew s fun u =>
        u.tb = s.tb + (if flagF s c DCLK.TB_SLEW_DIR then 9 else 11) ∧ u.ticks = 0 ∧ u.mem = s.mem ∧ TilesIdle s u) ∧
    (slewDue s = false → Ends .tbSlew s fun u => u = s)

/-- Clasps: a due token enters the receiving queue, with LATE set and counted when a side of a LOCKED clasp is not
lockable or its own edge has passed, never in ASYNC; a LOCKED clasp that cannot deliver keeps it. A re-trim that is due acts
on an empty clasp; a LOCKED empty clasp at a bezel boundary enters SLIP above 30 °C and leaves it below 27 °C (R250, R252,
R254, R255). -/
def Obligations.Clasps : Prop :=
  ∀ (s : State) (k : Fin 2080) (h : ClaspTok) (rest : List ClaspTok),
    let c := claspOf s k.val
    let pos := k.val / 8
    let q := k.val % 8
    let pl := claspPlace k.val
    let p := pgRCLK (pl.1 / 16)
    let locked := claspLocked s k.val
    let empty := claspEmpty s k.val
    let still := locked = true ∧ empty = true
    s.released = true →
    (c.toks = [] → Ends (.claspDeliver k) s fun u => u = s) ∧
    (c.toks = h :: rest → claspCanDeliver s k.val = false → locked = false → Ends (.claspDeliver k) s fun u => u = s) ∧
    (c.toks = h :: rest → claspCanDeliver s k.val = false → locked = true → Ends (.claspDeliver k) s fun u =>
      u = setClasp s k.val { c with toks := { h with missed := true } :: rest }) ∧
    (c.toks = h :: rest → claspCanDeliver s k.val = true → k.val < 2048 → inputTakers s pos = [pos] →
      (protOf s pos).replay = none → isProt s pos = false →
      let delivered := fun (u : State) (late : Bool) =>
        waitingAt u pos q = waitingAt s pos q ++ [{ h.tok with late := h.tok.late || late }] ∧
        (claspOf u k.val).toks.length = rest.length ∧ (claspOf u k.val).toks.map ClaspTok.tok = rest.map ClaspTok.tok ∧
        getF u p RCLK.LATE_CNT = (if late then min (getF s p RCLK.LATE_CNT + 1) (2 ^ 32 - 1) else getF s p RCLK.LATE_CNT) ∧
        u.mem = s.mem
      (locked = false → Ends (.claspDeliver k) s fun u => delivered u false) ∧
      (locked = true → h.missed = true ∨ claspSidesLockable s k.val = false → Ends (.claspDeliver k) s fun u => delivered u true) ∧
      (locked = true → h.missed = false → claspSidesLockable s k.val = true → claspOver s k.val = false →
        Ends (.claspDeliver k) s fun u => delivered u false)) ∧
    (∀ j, claspPort s k.val = some j →
      let g := (portTile j).1 / 16
      let d := (portTile j).2 / 2
      let page := pgRCLK g
      let due := (look Trim.init s.trims (4 * g + d)).due.contains k.val
      let gap := tempGap s g d
      (due = true → empty = true → Ends (.retrim k) s fun u =>
        getF u page RCLK.TRIM_CNT = min (getF s page RCLK.TRIM_CNT + 1) (2 ^ 32 - 1) ∧
        RegsBut s u [regKey page RCLK.TRIM_CNT.off] ∧ u.clasps = s.clasps ∧ u.mem = s.mem ∧ u.tiles = s.tiles ∧ Silent s u) ∧
      (due = false ∨ empty = false → Ends (.retrim k) s fun u => u = s) ∧
      (still → c.slip = false → 480 < gap → Ends (.slipEnter k) s fun u =>
        (claspOf u k.val).slip = true ∧ flagF u page (neighF d 1) = true ∧
        getF u page RCLK.SLIP_CNT = min (getF s page RCLK.SLIP_CNT + 1) (2 ^ 32 - 1) ∧ u.tiles = s.tiles ∧ Silent s u) ∧
      (still → c.slip = true → gap < 432 → Ends (.slipLeave k) s fun u =>
        (claspOf u k.val).slip = false ∧ (claspOf u k.val).toks = c.toks ∧ u.tiles = s.tiles ∧ Silent s u) ∧
      (¬still ∨ gap ≤ 480 → Ends (.slipEnter k) s fun u => u = s) ∧
      (¬still ∨ 432 ≤ gap → Ends (.slipLeave k) s fun u => u = s)) ∧
    (claspPort s k.val = none → Ends (.retrim k) s (fun u => u = s) ∧ Ends (.slipEnter k) s (fun u => u = s) ∧
      Ends (.slipLeave k) s (fun u => u = s))

/-! ### Accepted work (chapter 09) -/

/-- EPOCH_BOUNDARY and CUT. A due boundary adds one to the epoch counter, whatever number of multiples has passed; every
protected position owes a cut, and one whose capture still runs misses the boundary with the event 0x47; `RETIRED` of a tile
that is not protected clears at the boundary. A cut latches the state block and the dirty pages, clears both `RETIRED` and
the dirty bits, and starts the records of the new epoch (R138, R259, R266, R270, R278, R282). -/
def Obligations.EpochsAndCuts : Prop :=
  ∀ (s : State) (t : TileN),
    let due := s.nextEpoch ≠ 0 ∧ s.nextEpoch ≤ s.tb.toNat
    let late := fun q : Nat => q < 256 ∧ isProt s q = true ∧ recovering s q = false ∧ (protOf s q).capture.isSome = true
    let pos := posOf s t.val
    let r := pos / 16
    let size := getF s (pgRJNL r) RJNL.JSIZE
    let bufs := (protOf s pos).bufs
    let cuts := isProt s pos = true ∧ (protOf s pos).pendingCut = true ∧ (protOf s pos).capture = none ∧ recovering s pos = false
    (due → getF s pgDACW DACW.EPOCH_CFG ≠ 0 → Ends .epochBoundary s fun u =>
      epochNow u = (epochNow s + 1) % 2 ^ 48 ∧
      s.tb.toNat < u.nextEpoch ∧ u.nextEpoch ≤ s.tb.toNat + 1000 * getF s pgDACW DACW.EPOCH_CFG ∧
      u.nextEpoch % (1000 * getF s pgDACW DACW.EPOCH_CFG) = 0 ∧ u.mem = s.mem ∧
      (∀ m, tileOf u m = if isProt s (posOf s m) then tileOf s m else { tileOf s m with retired := 0 }) ∧
      (∀ q, q < 256 → isProt s q = true → recovering s q = false → (protOf s q).capture = none →
        protOf u q = { protOf s q with pendingCut := true }) ∧
      (∀ q, late q ∨ isProt s q = false ∨ recovering s q = true → protOf u q = protOf s q) ∧
      (∀ q, late q → Filed s u (pgRJNL (q / 16)) 0x47 0 ∧ flagF u pgDRCV DRCV.STATE_OUTSIDE = true) ∧
      (∀ q, late q → (∀ q', late q' → q' = q) →
        getF u pgDACW DACW.CAPT_LATE = min (getF s pgDACW DACW.CAPT_LATE + 1) (2 ^ 32 - 1) ∧
        getF u (pgRJNL (q / 16)) RJNL.CAPT_LATE = min (getF s (pgRJNL (q / 16)) RJNL.CAPT_LATE + 1) (2 ^ 32 - 1))) ∧
    (¬due → Ends .epochBoundary s fun u => u = s) ∧
    (cuts → Ends (.cut t) s fun u =>
      tileOf u t.val = { tileOf s t.val with retired := 0 } ∧ OtherTiles s u t.val ∧ dirtyPages u t.val = [] ∧
      (protOf u pos).epoch = epochNow s ∧ (protOf u pos).inPos = [] ∧ (protOf u pos).emitted = [] ∧
      (protOf u pos).latched = [] ∧ (protOf u pos).pendingCut = false ∧ getF u (pgRJNL r) (RJNL.LKT_STAT_BUSY (pos % 16)) = 1 ∧
      (∃ c, (protOf u pos).capture = some c ∧ c.headerOut = false ∧ c.shadow.block = stateBlock s t.val pos ∧
        c.shadow.epoch = epochNow s ∧ c.shadow.dirty = dirtyPages s t.val ∧ c.shadow.jpos = getF u (pgRJNL r) RJNL.JHEAD) ∧
      (bufs.length ≤ 64 → getF s (pgRJNL r) RJNL.JHEAD < size → (∀ i, i < size → (recordAddr s r i).isSome = true) →
        getF s (pgRJNL r) RJNL.JFILL + bufs.length ≤ size →
          (protOf u pos).bufs = [] ∧ getF u (pgRJNL r) RJNL.JFILL = getF s (pgRJNL r) RJNL.JFILL + bufs.length)) ∧
    (¬cuts → Ends (.cut t) s fun u => u = s)

/-- JOURNAL_FLUSH writes the oldest gather buffer, once its time has passed, as the 64-byte record at the head of the ring,
and with no record free the journal is full (0x68). LOCKET_CAPTURE writes the state block and the dirty pages into the half that is not committed;
LOCKET_COMMIT writes the header with its CRC, which makes that half the position's locket (R268 to R272, R277 to R281). -/
def Obligations.JournalAndLockets : Prop :=
  ∀ (s : State) (t : TileN),
    let pos := posOf s t.val
    let r := pos / 16
    let p := pgRJNL r
    let size := getF s p RJNL.JSIZE
    let head := getF s p RJNL.JHEAD
    let h := captureHalf s pos
    let area := stateArea s pos h
    let turn := (rjOf s r).capQ.head? = some pos ∨ recovering s pos = true
    let settled := s.heldW = [] ∧ look 0 s.recov.waiting pos = 0 ∧ ∀ b, b < 16 → look 0 s.pwrQ (bankKey (pgTBNK t.val) b) = 0
    ((protOf s pos).bufs = [] → Ends (.journalFlush t) s fun u => u = s) ∧
    (∀ g rest, (protOf s pos).bufs = g :: rest → flushDue s r g = false → Ends (.journalFlush t) s fun u => u = s) ∧
    (∀ g rest a, s.released = true → (protOf s pos).bufs = g :: rest → flushDue s r g = true → getF s p RJNL.JFILL < size →
      head < size → recordAddr s r head = some a → placeRefusal s (recordPlace s r head) = 0 →
      Ends (.journalFlush t) s fun u =>
        (protOf u pos).bufs = rest ∧ getF u p RJNL.JHEAD = (head + 1) % size ∧
        getF u p RJNL.JFILL = getF s p RJNL.JFILL + 1 ∧ u.tiles = s.tiles ∧ Silent s u ∧
        (∀ i, i < 16 → memWord u (a + 4 * i) = word ((recordOf (pos % 16) g.data).getD i 0)) ∧
        ((recordOf (pos % 16) g.data).length = 16 → mirrored s a = none → MemBut s u a 64) ∧
        (pairOn s = true → u.mirror = s.mirror ++ [.journal r g.number ((recordOf (pos % 16) g.data).map word)])) ∧
    (∀ g rest, s.released = true → (protOf s pos).bufs = g :: rest → flushDue s r g = true → size ≤ getF s p RJNL.JFILL →
      (rjOf s r).full = false → Ends (.journalFlush t) s fun u =>
        (rjOf u r).full = true ∧ flagF u pgDRCV DRCV.STATE_OUTSIDE = true ∧ Reported s u p 0x68 0 ∧ u.prot = s.prot ∧ u.mem = s.mem ∧ u.tiles = s.tiles) ∧
    (∀ c, (protOf s pos).capture = some c → c.headerOut = false → turn → tileBankTrans s t.val = false →
      c.shadow.block.length = 0x20C0 → (∀ q ∈ c.shadow.dirty, q < 256) → Ends (.locketCapture t) s fun u =>
        (protOf u pos).capture = some { c with headerOut := true } ∧ memBytes u (area + 0x40) 0x20C0 = c.shadow.block ∧
        (∀ q ∈ c.shadow.dirty, ∀ i, i < 256 →
          memWord u (pageSlot s pos (1 - mapHalf s pos q) q + 4 * i) = (captureWord s t.val c (256 * q + i)).1) ∧
        (∀ q ∈ c.shadow.dirty, ∀ i, i < 128 →
          markAt u (pageSlot s pos (1 - mapHalf s pos q) q + 8 * i) =
            if (captureWord s t.val c (256 * q + 2 * i)).2 || (captureWord s t.val c (256 * q + 2 * i + 1)).2 then .poison
            else .clean) ∧
        MemBut s u (locketBase s + 0x88000 * pos) 0x88000 ∧ u.tiles = s.tiles ∧
        ((∀ w, w < 65536 → markAt s (bankAddr t.val w) = .clean) → u.regs = s.regs ∧ Silent s u)) ∧
    (¬turn ∨ tileBankTrans s t.val = true → Ends (.locketCapture t) s fun u => u = s) ∧
    ((protOf s pos).capture = none → Ends (.locketCapture t) s fun u => u = s) ∧
    (∀ c, (protOf s pos).capture = some c → c.headerOut = true → Ends (.locketCapture t) s fun u => u = s) ∧
    (∀ c, (protOf s pos).capture = some c → c.headerOut = true → settled →
      memBytes s (area + 0x40) 0x20C0 = c.shadow.block → Ends (.locketCommit t) s fun u =>
        (protOf u pos).capture = none ∧ halfValid u pos h = true ∧ halfEpoch u pos h = c.shadow.epoch % 2 ^ 48 ∧
        fieldAt (areaHead u pos h) 16 32 = (c.shadow.dirty.foldl (fun m q => m ^^^ 2 ^ q) (protOf s pos).pageMap.toNat) % 2 ^ 256 ∧
        fieldAt (areaHead u pos h) 12 4 = c.shadow.jpos % 2 ^ 15 ∧
        flagF u p (RJNL.LKT_STAT_VALID (pos % 16)) = true ∧ getF u p (RJNL.LKT_STAT_HALF (pos % 16)) = h ∧
        getF u p (RJNL.LKT_STAT_EPOCH16 (pos % 16)) = c.shadow.epoch % 65536 ∧
        getF u p (RJNL.LKT_STAT_BUSY (pos % 16)) = 0 ∧ MemBut s u area 64 ∧ u.tiles = s.tiles ∧ Silent s u) ∧
    ((∀ c, (protOf s pos).capture = some c → c.headerOut = false) → settled → Ends (.locketCommit t) s fun u => u = s)

/-- RECOVER halts the tile, latches its emit counts and starts the steps; of a lockstep pair the other tile runs on.
RECOVERY_STEP_DONE ends one step and starts the next: a locket without a valid header stops the recovery (0x3D), step 4
copies every page of the chosen half into the spare, step 5 restores the paging queue, step 6 maps the position onto the
spare, the start of step 7 lets it replay; REPLAY_END gives it what was journaled and not fed, then the live tokens. RESTART
maps an unprotected position onto the spare, RETIRE_TILE leaves the position without a tile (R280, R283 to R286, R288, R290,
R298, R302, R304, R310). -/
def Obligations.RecoveryAndRestart : Prop :=
  ∀ (s : State) (t : TileN),
    let pos := t.val
    let sp := spareOf pos
    let live := failStaticOn s = false ∧ (activeAssayer s).isSome = true
    let can := isProt s pos = true ∧ spareFree s (pos / 16) = true ∧ recovering s pos = false
    let own := serves s pos = .tile pos ∧ pos % 16 ≠ 15 ∧ tileRetired s sp = false ∧ redund s = true
    let running := fun (x : Act) (r : Replay) => actOf s pos = some x ∧ x.action = 1 ∧ x.held = false ∧
      mayAct s x.host = true ∧ netUp s = true ∧ s.heldW = [] ∧ (protOf s pos).replay = some r ∧ r.mate = none ∧ r.far = none
    let halted := fun u : State => tileOf u pos = { haltNow (tileOf s pos) with pageRun := none } ∧ OtherTiles s u pos
    let muted := fun u : State => ∀ k, k < 8 → flagF u (pgRRTR (pos / 16)) (RRTR.EP_CTL_EN (8 * (pos % 16) + k)) = false
    (live → can → serves s pos = .tile pos → pairOf s pos = none → Ends (.recover t) s fun u =>
      halted u ∧ u.mem = s.mem ∧
      getF u pgDACW DACW.REPLAYS = min (getF s pgDACW DACW.REPLAYS + 1) (2 ^ 32 - 1) ∧
      u.recov.next = s.recov.next + 1 ∧
      (∃ x, actOf u pos = some x ∧ x.action = 1 ∧ x.step = 1 ∧ x.held = false ∧ x.host = false) ∧
      (∃ r, (protOf u pos).replay = some r ∧ r.going = false ∧ r.mate = none ∧ r.far = none ∧
        r.haltAt = (tileOf s pos).retired.toNat) ∧ (protOf u pos).pendingCut = false ∧
      (canon 0 (protOf s pos).emitted = true →
        ∀ d, look 0 (protOf u pos).latched d = look 0 (protOf s pos).emitted d - unsent s pos pos d)) ∧
    (∀ y, live → can → serves s pos = .tile pos → pairOf s pos = some y → y.split = 0 → Ends (.recover t) s fun u =>
      (tileOf u pos).halted = true ∧ look 0 (rjOf u (pos / 16)).split y.n = (if y.first then 2 else 1) ∧
      ∃ r, (protOf u pos).replay = some r ∧ r.going = false ∧ r.mate = some y.other) ∧
    (live → ¬can → Ends (.recover t) s fun u => u = s) ∧
    (failStaticOn s = false → activeAssayer s = none → Ends (.recover t) s fun u => u = s) ∧
    (∀ x r, running x r → own → x.step = 1 → Ends (.recoveryStepDone t) s fun u =>
      actOf u pos = some { x with step := 2 } ∧ u.recov.next = s.recov.next + 2 ∧ u.tiles = s.tiles ∧ u.prot = s.prot ∧
      u.mem = s.mem) ∧
    (∀ x r, running x r → own → x.step = 2 → (protOf s pos).capture = none →
      (chosenHalf s pos = none → Ends (.recoveryStepDone t) s fun u =>
        actOf u pos = none ∧ recovering u pos = false ∧ (tileOf u pos).halted = true ∧ muted u ∧
        flagF u pgDRCV DRCV.STATE_OUTSIDE = true ∧ Filed s u (pgRJNL (pos / 16)) 0x3D 0 ∧ u.mem = s.mem) ∧
      ((chosenHalf s pos).isSome = true → Ends (.recoveryStepDone t) s fun u =>
        actOf u pos = some { x with step := 3 } ∧ u.tiles = s.tiles ∧ u.prot = s.prot ∧ u.mem = s.mem)) ∧
    (∀ x r h, running x r → own → chosenHalf s pos = some h →
      (x.step = 3 → migrationWaits s pos sp = true → Ends (.recoveryStepDone t) s fun u => u = s) ∧
      (x.step = 3 → migrationWaits s pos sp = false → Ends (.recoveryStepDone t) s fun u =>
        actOf u pos = some { x with step := 4 } ∧
        (∀ q w, q < 256 → w < 256 → memWord u (bankAddr sp (256 * q + w)) =
          memWord s (pageSlot s pos (b2n (bitOf (fieldAt (areaHead s pos h) 16 32) q)) q + 4 * w)) ∧
        (∀ a, a < bankAddr sp 0 ∨ bankAddr sp 0 + 0x40000 ≤ a → memByte u a = memByte s a) ∧
        (∀ n, n < 8 → regAt u (pgTBNK sp) (TBNK.DIRTY n).off = 0xFFFFFFFF) ∧
        (tileOf u sp).halted = true ∧ (tileOf u sp).retired = 0 ∧ (tileOf u sp).pageQ = [] ∧ OtherTiles s u sp) ∧
      (x.step = 4 → Ends (.recoveryStepDone t) s fun u =>
        actOf u pos = some { x with step := 5 } ∧ OtherTiles s u sp ∧ u.mem = s.mem ∧
        (∀ k, look 0 (tileOf u sp).slotSet k = look 0 (tileOf s sp).slotSet k) ∧
        (tileOf u sp).pageQ = blockQueue fun o => memWord s (stateArea s pos h + o)) ∧
      (x.step = 5 → Ends (.recoveryStepDone t) s fun u =>
        actOf u pos = some { x with step := 6 } ∧ serves u pos = .tile sp ∧ tileRetired u pos = true ∧ halted u ∧
        u.mem = s.mem)) ∧
    (∀ x r h, running x r → x.step = 6 → pairOf s pos = none → chosenHalf s pos = some h → serves s pos = .tile sp →
      let recs := ringFrom s (pos / 16) (bitsOf (fieldAt (areaHead s pos h) 12 4) 14 0)
      (recs = none → Ends (.recoveryStepDone t) s fun u =>
        actOf u pos = none ∧ recovering u pos = false ∧ (tileOf u sp).halted = true ∧ muted u ∧
        Filed s u (pgRJNL (pos / 16)) 0x3D 0 ∧ u.mem = s.mem) ∧
      (recs.isSome = true → Ends (.recoveryStepDone t) s fun u =>
        actOf u pos = some { x with step := 7 } ∧ (protOf u pos).emitted = [] ∧ OtherTiles s u sp ∧ u.mem = s.mem ∧
        (tileOf u sp).halted = bitOf (memWord s (stateArea s pos h + 0x1530)).toNat 31 ∧
        ∃ y, (protOf u pos).replay = some y ∧ y.going = true ∧ y.haltAt = r.haltAt ∧ y.live = r.live)) ∧
    (∀ r n, (protOf s pos).replay = some r → serves s pos = .tile n → s.heldW = [] → r.mate = none → r.far = none →
      (r.going = true → (tileOf s n).retired.toNat = r.haltAt → Ends (.replayEnd t) s fun u =>
        recovering u pos = false ∧ (tileOf u n).retired = (tileOf s n).retired - word r.base ∧
        (protOf u pos).horizon = s.arrivals ∧
        ∀ q, q < 12 → ∃ more,
          queueOf (tileOf u n) q = queueOf (tileOf s n) q ++ look [] r.feed q ++ look [] r.live q ++ more) ∧
      (r.going = false ∨ (tileOf s n).retired.toNat ≠ r.haltAt → Ends (.replayEnd t) s fun u => u = s)) ∧
    (live → isProt s pos = false → spareFree s (pos / 16) = true → own → s.heldW = [] →
      (netUp s = true → Ends (.restart t) s fun u =>
        serves u pos = .tile sp ∧ tileRetired u pos = true ∧ (tileOf u pos).halted = true) ∧
      (netUp s = false → actOf s pos = none → Ends (.restart t) s fun u =>
        (∃ y, actOf u pos = some y ∧ y.action = 2 ∧ y.held = true) ∧ tileOf u pos = haltNow (tileOf s pos) ∧
        OtherTiles s u pos ∧ serves u pos = .tile pos ∧ u.mem = s.mem)) ∧
    (live → isProt s pos = true ∨ spareFree s (pos / 16) = false → s.heldW = [] → Ends (.restart t) s fun u => u = s) ∧
    (live → serves s pos = .tile pos → pairOf s pos = none → s.heldW = [] → Ends (.retireTile t) s fun u =>
      serves u pos = .retired ∧ halted u ∧ muted u ∧ recovering u pos = false ∧ u.mem = s.mem ∧ Filed s u pgDRCV 0x69 0 ∧
      (isProt s pos = true → flagF u pgDRCV DRCV.STATE_OUTSIDE = true ∧ Filed s u pgDRCV 0x56 (pgTSEQ pos)))

/-- Lockstep and pairs of devices: tokens that differ are withheld with the event 0x27; where one tile passes its
self-check the other is retired and the first goes on, and with no assayer both stay halted. PAIR_MIRROR sends the oldest
item that is not out over the pair link, PAIR_ACK takes the oldest as acknowledged with its round trip; a heartbeat of the
partner shows UP, and this device sends one each 1 µs; after 20 µs of silence the partner is lost: 0x3C is raised and this
device answers for its ID (R289 to R293, R410). -/
def Obligations.LockstepAndPairs : Prop :=
  ∀ (s : State) (r : RegN) (n : Fin 2) (okA okB : Bool),
    let p := pgRJNL r.val
    let a := 16 * r.val + getF s p (RJNL.LSTEP_FIRST n.val)
    let b := 16 * r.val + getF s p (RJNL.LSTEP_SECOND n.val)
    let differ := flagF s p (RJNL.LSTEP_EN n.val) = true ∧ look 0 (rjOf s r.val).split n.val = 0 ∧ pairDiffers s r.val n.val = true
    let two := serves s a = .tile a ∧ serves s b = .tile b ∧ a ≠ b
    let c := pgDACW
    let link := getF s c DACW.PAIR_CFG_LINK
    let at_ := s.mirrorAt.length
    let gone := pairOn s = true ∧ flagF s c DACW.PAIR_STAT_LOST = false ∧ s.strand.paired.heardAt + 2000 ≤ s.age
    s.heldW = [] →
    (¬differ → Ends (.lockstepMismatch r n okA okB) s fun u => u = s) ∧
    (differ → two → activeAssayer s = none → Ends (.lockstepMismatch r n okA okB) s fun u =>
        tileOf u a = haltNow (tileOf s a) ∧ tileOf u b = haltNow (tileOf s b) ∧
        (∀ m, m ≠ a → m ≠ b → tileOf u m = tileOf s m) ∧ look 0 (rjOf u r.val).split n.val = 3 ∧
        Reported s u p 0x27 0 ∧ u.mem = s.mem) ∧
    (differ → two → (activeAssayer s).isSome = true → okA = true → okB = false →
      Ends (.lockstepMismatch r n okA okB) s fun u =>
        (tileOf u a).halted = (tileOf s a).halted ∧ (tileOf u b).halted = true ∧ look 0 (rjOf u r.val).split n.val = 1 ∧
        Recorded s u p 0x27 0 ∧
        (spareFree s r.val = true → ∃ y, (protOf u b).replay = some y ∧ y.mate = some a ∧ y.going = false)) ∧
    (∀ m, s.mirror[at_]? = some m → pairOn s = true → lineUp s link = true → Ends .pairMirror s fun u =>
      u.mirrorAt = s.mirrorAt ++ [s.tb.toNat] ∧ u.mirror = s.mirror ∧ u.tiles = s.tiles ∧ u.mem = s.mem ∧ u.prot = s.prot) ∧
    (s.mirror[at_]? = none ∨ pairOn s = false ∨ lineUp s link = false → Ends .pairMirror s fun u => u = s) ∧
    (∀ m rest x xs, s.mirror = m :: rest → s.mirrorAt = x :: xs → Ends .pairAck s fun u =>
      u.mirrorAt = xs ∧ (∃ more, u.mirror = rest ++ more) ∧
      getF u c DACW.PAIR_STAT_RTT = min 65535 (s.tb.toNat - x)) ∧
    (s.mirror = [] ∨ s.mirrorAt = [] → Ends .pairAck s fun u => u = s) ∧
    (pairOn s = true → s.age < s.strand.paired.sendAt → Ends .heart s fun u =>
      flagF u c DACW.PAIR_STAT_UP = true ∧ flagF u c DACW.PAIR_STAT_LOST = flagF s c DACW.PAIR_STAT_LOST ∧
      RegsBut s u [regKey c DACW.PAIR_STAT_UP.off] ∧ u.strand.paired.heardAt = s.age ∧
      u = { s with regs := u.regs, strand := u.strand }) ∧
    (pairOn s = true → s.strand.paired.sendAt ≤ s.age → Ends .heart s fun u =>
      u.strand.paired.sendAt = s.age + 100 ∧ u.tiles = s.tiles ∧ u.mem = s.mem ∧
      (lineUp s link = true → typeAllowed s link ⟨5, 0, 0, [w64 (ownId s * 2 ^ 46)]⟩ = true → SentPlain s u link 5)) ∧
    (pairOn s = false → Ends .heart s fun u => u = s) ∧
    (gone → Ends .pairLost s fun u =>
      flagF u c DACW.PAIR_STAT_UP = false ∧ flagF u c DACW.PAIR_STAT_LOST = true ∧
      flagF u pgDSTR DSTR.ALIAS_VALID = true ∧ getF u pgDSTR DSTR.ALIAS_ID = getF s c DACW.PAIR_CFG_PARTNER ∧
      Recorded s u c 0x3C 0) ∧
    (¬gone → Ends .pairLost s fun u => u = s)

/-! ### Assayers, faults and degraded operation (chapter 10) -/

/-- TILE_STATE_FAULT (0x29) and CLOCK_STOPPED (0x4A, not for a gated island): with no assayer the tile only halts; with one
a protected position starts its recovery, an unprotected one restarts on the spare, and with no spare the position is
retired (0x69); a fault of the unused spare marks it bad (0x28). CORR_LIMIT retires a protected tile after its next locket and
moves a region bank onto its spare, at most three times a bank; SELFCHECK leaves its patterns in the spare's banks, and marks
a failing spare bad (R299, R301 to R304, R317). -/
def Obligations.TileFaults : Prop :=
  ∀ (s : State) (t : TileN) (r : RegN) (q : TileN) (b : Fin 16) (bt : Fin 8) (w : BitVec 15) (pass : Bool),
    let pos := posOf s t.val
    let page := pgTSEQ t.val
    let sp := spareOf pos
    let live := (activeAssayer s).isSome = true
    let idleSpare := redund s = true ∧ t.val % 16 = 15 ∧ spareUsed s (t.val / 16) = false
    let plain := serves s pos = .tile t.val ∧ pairOf s pos = none ∧ recovering s pos = false ∧ s.heldW = [] ∧ ¬idleSpare
    let out := fun (u : State) => tileOf u t.val = { haltNow (tileOf s t.val) with pageRun := none } ∧ OtherTiles s u t.val ∧
      u.mem = s.mem
    let halts := fun (code : Nat) (u : State) => tileOf u t.val = haltNow (tileOf s t.val) ∧ OtherTiles s u t.val ∧
      u.mem = s.mem ∧ u.prot = s.prot ∧ Reported s u page code 0
    let recovers := fun (code : Nat) (u : State) => out u ∧ recovering u pos = true ∧ Recorded s u page code 0 ∧
      ∃ x, actOf u pos = some x ∧ x.action = 1 ∧ x.step = 1 ∧ x.code = code
    let restarts := fun (code : Nat) (u : State) => serves u pos = .tile sp ∧ tileRetired u t.val = true ∧
      (tileOf u t.val).halted = true ∧ Recorded s u page code 0
    let retires := fun (code : Nat) (u : State) => out u ∧ serves u pos = .retired ∧ Recorded s u page code 0 ∧
      Filed s u pgDRCV 0x69 0
    let marks := fun (code : Nat) (u : State) => spareBad u (t.val / 16) = true ∧ u.tiles = s.tiles ∧ u.mem = s.mem ∧
      Recorded s u page code 0 ∧ Filed s u pgDRCV 0x28 0
    let ends := fun (post : Nat → State → Prop) =>
      Ends (.tileStateFault t) s (post 0x29) ∧ (tileGated s t.val = false → Ends (.clockStopped t) s (post 0x4A))
    let limited := fun (p n : Nat) => getF s pgDRCV DRCV.CORR_LIMIT ≠ 0 ∧ live ∧ look 0 s.recov.predicted (bankKey p n) < 3
    let m := pgRMEM r.val
    let bank := 16 * r.val + 15
    (serves s pos = .tile t.val → activeAssayer s = none → s.heldW = [] → ends halts) ∧
    (plain → live → spareFree s (pos / 16) = true → isProt s pos = true → ends recovers) ∧
    (plain → live → spareFree s (pos / 16) = true → isProt s pos = false → pos % 16 ≠ 15 → tileRetired s sp = false →
      netUp s = true → ends restarts) ∧
    (plain → live → spareFree s (pos / 16) = false → ends retires) ∧
    (idleSpare → live → s.heldW = [] → ends marks) ∧
    (tileGated s t.val = true → s.heldW = [] → Ends (.clockStopped t) s fun u => u = s) ∧
    (limited m b.val → bankUsed s r.val = false → bankCopying s r.val = false → polishing s m b.val = false →
      rbankState s r.val b.val = 2 → actOf s (keySpare r.val) = none → netUp s = true →
      Ends (.corrLimit (.region r b) w) s fun u =>
        bankCopying u r.val = true ∧ look 0 u.spareCopy r.val = b.val + 1 ∧ u.tiles = s.tiles ∧
        (∀ i, i < 32768 → memWord u (spareAddr r.val (4 * i)) = memWord s (rmemAddr r.val (0x20000 * b.val + 4 * i))) ∧
        MemBut s u (spareAddr r.val 0) 0x20000 ∧
        look 0 u.recov.predicted (bankKey m b.val) = look 0 s.recov.predicted (bankKey m b.val) + 1) ∧
    (¬limited m b.val ∨ bankUsed s r.val = true → Ends (.corrLimit (.region r b) w) s fun u => u = s) ∧
    (limited (pgTBNK q.val) bt.val → serves s q.val = .tile q.val → isProt s q.val = true →
      Ends (.corrLimit (.tile q bt) w) s fun u =>
        look 0 u.recov.waiting q.val = 0x21 ∧ u.tiles = s.tiles ∧ u.mem = s.mem ∧ u.regs = s.regs ∧ Silent s u) ∧
    (live → spareFree s r.val = true → Ends (.selfcheck r pass) s fun u =>
      spareBad u r.val = !pass ∧ u.tiles = s.tiles ∧ MemBut s u (bankAddr bank 0) 0x40000 ∧
      (∀ i, i < 65536 → markAt u (bankAddr bank i) = .clean) ∧
      (pass = false → Reported s u pgDRCV 0x28 0) ∧ (pass = true → Silent s u ∧ u.regs = s.regs)) ∧
    (activeAssayer s = none ∨ spareFree s r.val = false → Ends (.selfcheck r pass) s fun u => u = s)

/-- Spare parts of a region: BANK_SPARE copies a bank onto the spare, with every word that reads bad poisoned, and with 0x22 a
spare of poisoned words where the bank cannot be read at all; SPARE_SWITCH maps the logical bank onto it; BANK_RETIRE refuses
every access to a bank from then on (0x15, event 0x65); CH_MOVE maps a channel onto the reserve with its descriptor from the
first beat, CH_WITHDRAW halts it. Each step is logged as INTENT and DONE (R168, R169, R299, R305, R310). -/
def Obligations.SpareBanksAndChannels : Prop :=
  ∀ (s : State) (r : RegN) (b n : Fin 16) (dead staging : Bool),
    let m := pgRMEM r.val
    let d := pgRDMA r.val
    let k := 32 * r.val + n.val
    let base := rmemAddr r.val (0x20000 * b.val)
    let spare := spareAddr r.val 0
    let live := failStaticOn s = false ∧ (activeAssayer s).isSome = true ∧ netUp s = true
    let act := actOf s (keySpare r.val)
    let unqueued := ∀ i, i < 16 → look 0 s.pwrQ (bankKey m i) = 0
    let noRings := ∀ i, i < 128 → ringInBank s r.val b.val i = false
    let steady := polishing s m b.val = false ∧ rbankState s r.val b.val ≠ 3
    let retires := bankUsed s r.val = true ∧ bitOf (getF s m RMEM.SPARE_MAP_RETIRED) b.val = false ∧ steady
    let reserve := reserveFree s r.val = true ∧ n.val ≠ 15
    let gone := bitOf (regAt s pgDRCV (DRCV.CH_WD (r.val / 2)).off).toNat (16 * (r.val % 2) + n.val) = true
    let code := if staging then 0x22 else 0x29
    live →
    (bankUsed s r.val = false → bankCopying s r.val = false → steady → act = none → Ends (.bankSpare r (b, dead)) s fun u =>
      bankCopying u r.val = true ∧ bankUsed u r.val = false ∧ look 0 u.spareCopy r.val = b.val + 1 ∧ u.tiles = s.tiles ∧
      u.recov.next = s.recov.next + 11 ∧ (∀ a, a < spare ∨ spare + 0x20000 ≤ a → markAt u a = markAt s a) ∧
      MemBut s u spare 0x20000 ∧
      (dead = false → rbankState s r.val b.val = 2 → ∀ i, i < 32768 →
        memWord u (spare + 4 * i) = memWord s (base + 4 * i) ∧
        markAt u (spare + 4 * i) = if isBad (markCode (markAt s (base + 4 * i))) then .poison else .clean) ∧
      (dead = true → (∀ i, i < 32768 → markAt u (spare + 4 * i) = .poison) ∧ flagF u pgDRCV DRCV.STATE_OUTSIDE = true ∧
        Recorded s u m 0x22 (base % 2 ^ 32))) ∧
    (bankUsed s r.val = true ∨ bankCopying s r.val = true ∨ ¬steady → Ends (.bankSpare r (b, dead)) s fun u => u = s) ∧
    (∀ x, act = some x → x.held = false → x.sub = b.val → unqueued → noRings → Ends (.spareSwitch r) s fun u =>
      bankUsed u r.val = true ∧ bankCopying u r.val = false ∧ actOf u (keySpare r.val) = none ∧
      (∀ off, off / 0x20000 = b.val → rmemStore u r.val off = spareAddr r.val off) ∧ rbankState u r.val b.val = 2 ∧
      look 0 u.spareCopy r.val = 0 ∧ u.recov.next = s.recov.next + 5 ∧ MemBut s u base 0x20000 ∧
      (∀ a, a < base ∨ base + 0x20000 ≤ a → markAt u a = markAt s a) ∧ Silent s u) ∧
    (act = none → Ends (.spareSwitch r) s fun u => u = s) ∧
    (retires → noRings → actOf s (keyRetire r.val b.val) = none → Ends (.bankRetire r b) s fun u =>
      (∀ off, off / 0x20000 = b.val → placeRefusal u (.rmem r.val off) = 0x15) ∧ Recorded s u m 0x65 0 ∧
      u.recov.next = s.recov.next + 2 ∧ u.mem = s.mem ∧ u.tiles = s.tiles) ∧
    (¬retires → Ends (.bankRetire r b) s fun u => u = s) ∧
    (reserve → chQuiet s k = true → Ends (.chMove r (n, staging)) s fun u =>
      bitOf (getF u pgDRCV DRCV.CH_MOVED) r.val = true ∧ Recorded s u d code 0 ∧ u.recov.next = s.recov.next + 2 ∧
      (chState s k = 2 ∨ chState s k = 3 →
        chState u k = 2 ∧ (dmaOf u k).staged = [] ∧ (dmaOf u k).elem = 0 ∧ (dmaOf u k).desc = (dmaOf s k).desc) ∧
      (chState s k ≠ 2 → chState s k ≠ 3 → chState u k = chState s k ∧ dmaOf u k = dmaOf s k) ∧ u.mem = s.mem) ∧
    (¬reserve ∨ chQuiet s k = false → Ends (.chMove r (n, staging)) s fun u => u = s) ∧
    (¬reserve → chQuiet s k = true → ¬gone → chState s k = 0 ∨ chState s k = 6 ∨ chState s k = 7 →
      Ends (.chWithdraw r (n, staging)) s fun u =>
        bitOf (regAt u pgDRCV (DRCV.CH_WD (r.val / 2)).off).toNat (16 * (r.val % 2) + n.val) = true ∧
        chState u k = 7 ∧ Recorded s u d code 0 ∧ u.recov.next = s.recov.next + 2 ∧ u.mem = s.mem) ∧
    (reserve ∨ chQuiet s k = false ∨ gone → Ends (.chWithdraw r (n, staging)) s fun u => u = s)

/-- Links, PLLs and cooling: LINK_REPAIR sets the withdrawn directions UP, each on its own spare group, LINK_DETOUR puts their
traffic on detours; PLL_MOVE re-enables an unlocked PLL and moves its islands back or onto the other PLL, and
PLL_RELOCK_TIMEOUT does what R307 says after 40 µs; COOL_STEP moves the unpinned islands of the hotter side one divider
down, or those that the boundary holds down one back up below 25 °C; an island whose switch R244 refuses stays (R244, R306
to R308). -/
def Obligations.LinksPllsAndCooling : Prop :=
  ∀ (s : State) (l : Fin 42) (r : RegN) (b : Bool) (side : Fin 4),
    let live := failStaticOn s = false ∧ (activeAssayer s).isSome = true ∧ netUp s = true
    let mend := (withdrawn s l.val).filter fun e => !(spareIn s e) && !(detoured s e.1 e.2)
    let out := (withdrawn s l.val).filter fun e => !(detoured s e.1 e.2)
    let n := b2n b
    let o := 1 - n
    let p := pgRCLK r.val
    let key := keyPll r.val n
    let since := pllSince s r.val n
    let spare := pllLocked s r.val o = true ∧ pllMult s r.val o = pllMult s r.val n
    let late := since + 4000 ≤ s.age + 1
    let calm := ∀ t ∈ fallen s r.val n, tileGated s t = false
    let moved := fun (u : State) (dst : Nat) => pllSince u r.val n = 0 ∧ actOf u key = none ∧ u.tiles = s.tiles ∧
      ∀ t ∈ fallen s r.val n, clkRefused s t dst (steppedDiv s t (baseDiv s t)) = false →
        tileGated u t = true ∧ clkSwitchOf u t = ⟨dst, steppedDiv s t (baseDiv s t)⟩
    let far := regionBeside r.val side.val
    let diff : Int := match far with
      | some q => tempOf s r.val - tempOf s q
      | none => tempOf s r.val - sext 16 (look 0 s.bezelTemp side.val)
    let hot : List Nat := match far with
      | some q => if diff < 0 then [q] else [r.val]
      | none => if diff < 0 then [] else [r.val]
    let both := unpinned s r.val ++ (match far with | some q => unpinned s q | none => [])
    let k := boundaryOf r.val side.val
    let waits := s.age < look 0 s.recov.coolAt k
    let can := (hot.flatMap (unpinned s)).filter fun t => decide (steppedDiv s t (baseDiv s t) < 5)
    let held := both.filter fun t => look 0 s.recov.coolBy (256 * k + t) != 0
    let wide := flagF s p (neighF side.val 2) = true ∧ 480 ≤ diff.natAbs ∧ can ≠ []
    let stays := fun (u : State) (t : Nat) => look 0 u.coolA t = look 0 s.coolA t ∧
      look 0 u.recov.coolBy (256 * k + t) = look 0 s.recov.coolBy (256 * k + t) ∧ clkSwitchOf u t = clkSwitchOf s t
    let steps := fun (u : State) (t all mine : Nat) =>
      let goal := clkTarget { s with coolA := put 0 s.coolA t all } t
      if clkRefused s t goal.src goal.div = false then
        look 0 u.coolA t = all ∧ look 0 u.recov.coolBy (256 * k + t) = mine ∧ tileGated u t = true ∧ clkSwitchOf u t = goal
      else stays u t
    live →
    (mend ≠ [] → Ends (.linkRepair l) s fun u =>
      (∀ e ∈ mend, linkStat u e.1 e.2 = 1 ∧ spareIn u e = true) ∧ flagF u pgDRCV (spareGroup l.val) = true ∧
      u.recov.next = s.recov.next + 2 ∧ u.mem = s.mem ∧ u.tiles = s.tiles) ∧
    (mend = [] → Ends (.linkRepair l) s fun u => u = s) ∧
    (out ≠ [] → Ends (.linkDetour l) s fun u =>
      (∀ e ∈ out, detoured u e.1 e.2 = true ∧ linkStat u e.1 e.2 = 3) ∧ u.recov.next = s.recov.next + 2 ∧
      (32 ≤ l.val → spokeOut s (16 + (l.val - 32) / 2) (1 - (l.val - 32) % 2) = true →
        flagF u pgDRCV DRCV.STATE_OUTSIDE = true ∧ Recorded s u pgDRCV 0x56 (pgDRCV + l.val * 2 ^ 16)) ∧
      u.mem = s.mem ∧ u.tiles = s.tiles) ∧
    (out = [] → Ends (.linkDetour l) s fun u => u = s) ∧
    (actOf s key = none →
      (pllEn s r.val n = false ∨ (pllLocked s r.val n = true ∧ fallen s r.val n = []) →
        Ends (.pllMove r b) s fun u => u = s) ∧
      (pllEn s r.val n = true → pllLocked s r.val n = false → Ends (.pllMove r b) s fun u =>
        pllSince u r.val n = s.age + 1 ∧ (∃ x, actOf u key = some x ∧ x.action = 10 ∧ x.held = false) ∧
        u.recov.next = s.recov.next + 1 ∧ u.clkSw = s.clkSw ∧ u.tiles = s.tiles) ∧
      (pllEn s r.val n = true → pllLocked s r.val n = true → fallen s r.val n ≠ [] → calm →
        Ends (.pllMove r b) s fun u => moved u n)) ∧
    (∀ x, actOf s key = some x → x.held = false →
      (pllLocked s r.val n = true → calm → Ends (.pllMove r b) s fun u => moved u n) ∧
      (pllLocked s r.val n = false → spare → late → calm → Ends (.pllMove r b) s fun u => moved u o) ∧
      (pllLocked s r.val n = false → ¬(spare ∧ late) → Ends (.pllMove r b) s fun u => u = s) ∧
      (since ≠ 0 → pllLocked s r.val n = false → late →
        (spare → pllEn s r.val o = true → calm → Ends (.pllRelockTimeout r b) s fun u => moved u o) ∧
        (¬(spare ∧ pllEn s r.val o = true) → pllInUse s r.val o = false → Ends (.pllRelockTimeout r b) s fun u =>
          pllMult u r.val o = pllMult s r.val n ∧ pllEn u r.val o = true ∧ pllLocked u r.val o = false ∧ u.tiles = s.tiles ∧
          u.clkSw = s.clkSw ∧ Silent s u) ∧
        (¬(spare ∧ pllEn s r.val o = true) → pllInUse s r.val o = true → Ends (.pllRelockTimeout r b) s fun u =>
          pllSince u r.val n = 0 ∧ actOf u key = none ∧ Reported s u pgDRCV 0x56 (p + n * 2 ^ 16) ∧
          u.clkSw = s.clkSw ∧ u.tiles = s.tiles))) ∧
    (actOf s key = none ∨ since = 0 ∨ pllLocked s r.val n = true ∨ ¬late → Ends (.pllRelockTimeout r b) s fun u => u = s) ∧
    (waits → Ends (.coolStep r side) s fun u => u = s) ∧
    (¬waits → wide → Ends (.coolStep r side) s fun u =>
      (∀ t ∈ can, steps u t (look 0 s.coolA t + 1) (look 0 s.recov.coolBy (256 * k + t) + 1)) ∧
      (∀ t, t ∉ can → stays u t) ∧
      look 0 u.recov.coolAt k = s.age + 10000 ∧ u.tiles = s.tiles ∧ u.mem = s.mem) ∧
    (¬waits → diff.natAbs < 400 → Ends (.coolStep r side) s fun u =>
      flagF u p (neighF side.val 2) = false ∧
      (∀ t ∈ held, steps u t (look 0 s.coolA t - 1) (look 0 s.recov.coolBy (256 * k + t) - 1)) ∧
      (∀ t, t ∉ held → stays u t) ∧
      u.tiles = s.tiles ∧ u.mem = s.mem)

/-- The assayers: a heartbeat counts at the other; silence of 8 µs or a fault line declares an assayer lost, a standby with
0x48 and SINGLE, an active by its fence; TAKEOVER makes the standby active and orphans the old one's locks; a FAILED
assayer restarts and joins by its self-test; four silent RC periods enter fail-static (0x49), where NOTE, a write of
`DRCV.CMD`, is refused outside fail-static or with no such action; PHASE_LOST sheds a phase (R299, R312 to R318, R460). -/
def Obligations.Assayers : Prop :=
  ∀ (s : State) (b : Bool) (v : Word) (k : Fin 29) (ph : Fin 8) (src : BitVec 10) (okA okB line : Bool),
    let i := b2n b
    let o := 1 - i
    let p := pgDASY i
    let c := pgDRCV
    let mode := fun (u : State) => getF u c DRCV.STATE_MODE
    let beats := (roleOf s i = 1 ∨ roleOf s i = 2) ∧ isDead s i = false
    let quiet := line = true ∨ faultLine s i = true ∨ heardAt s i + 800 ≤ s.age
    let takes := roleOf s i = 2 ∧ roleOf s o = 3 ∧ flagF s (pgDASY o) DASY.ROLE_FENCED = true
    let live := fun j => roleOf s j = 1 ∨ roleOf s j = 2
    let last := if live 0 ∧ live 1 then max (heardAt s 0) (heardAt s 1) else if live 0 then heardAt s 0
      else if live 1 then heardAt s 1 else max (heardAt s 0) (heardAt s 1)
    let fails := failStaticOn s = false ∧ s.recov.testing = 0 ∧ last + 11400 ≤ s.age
    let w := pgDPWR
    let sheds := ph.val < getF s w (DPWR.RAIL_STAT_PHASES k.val) ∧ bitOf (getF s w (DPWR.RAIL_STAT_LOST k.val)) ph.val = false
    let a := bitsOf v.toNat 7 0
    let busy := flagF s c DRCV.CMD_STAT_BUSY
    (beats → Ends (.assayerHeartbeat b) s fun u =>
      getF u (pgDASY o) DASY.HB_RX = (getF s (pgDASY o) DASY.HB_RX + 1) % 2 ^ 32 ∧ heardAt u i = s.age ∧
      u = { s with regs := u.regs, recov := u.recov } ∧ RegsBut s u [regKey (pgDASY o) DASY.HB_RX.off]) ∧
    (¬beats → Ends (.assayerHeartbeat b) s fun u => u = s) ∧
    (quiet → roleOf s i = 2 → roleOf s o = 1 → Ends (.assayerLost (b, line)) s fun u =>
      roleOf u i = 3 ∧ roleOf u o = 1 ∧ mode u = 1 ∧ Filed s u p 0x48 0 ∧ u.tiles = s.tiles ∧ u.mem = s.mem ∧ u.net = s.net) ∧
    (quiet → roleOf s i = 1 → roleOf s o = 2 → Ends (.assayerLost (b, line)) s fun u =>
      roleOf u i = 3 ∧ roleOf u o = 2 ∧ flagF u p DASY.ROLE_FENCED = true ∧ u.tiles = s.tiles ∧ u.mem = s.mem ∧
      u.net = s.net) ∧
    (line = true → Ends (.assayerLost (b, line)) s fun u => faultLine u i = true) ∧
    (¬quiet → Ends (.assayerLost (b, line)) s fun u => u = s) ∧
    (takes → Ends (.takeover b) s fun u =>
      activeAssayer u = some i ∧ mode u = 1 ∧ Filed s u p 0x48 0 ∧
      getF u p DASY.TAKEOVERS = min (getF s p DASY.TAKEOVERS + 1) (2 ^ 32 - 1) ∧ u.mem = s.mem ∧ u.tiles = s.tiles ∧
      ∀ r n, r < 16 → n < 32 →
        let x := (RMEM.LOCK_STATE n).off
        bitsOf (regAt s (pgRMEM r) x).toNat 31 30 = 1 → bitsOf (regAt s (pgRMEM r) x).toNat 9 0 = 0x230 + o →
          bitsOf (regAt u (pgRMEM r) x).toNat 31 30 = 2) ∧
    (¬takes → Ends (.takeover b) s fun u => u = s) ∧
    (Open s p → roleOf s i = 3 → Ends (.assayerRestart b) s fun u =>
      flagF u p DASY.ROLE_FENCED = false ∧ flagF u p DASY.ROLE_SELFOK = false ∧ roleOf u i = 3 ∧
      bitOf u.recov.testing i = true ∧ faultLine u i = false ∧ u.evq = s.evq ∧ u.tiles = s.tiles) ∧
    (Open s p → roleOf s i ≠ 3 → Ends (.assayerRestart b) s fun u =>
      Counted s u p ∧ OnlyRegs s u [regKey p HDR.ERR_COUNT.off]) ∧
    (s.recov.testing = 2 ^ i → isDead s i = false →
      let pass := if b then okB else okA
      (pass = true → activeAssayer s = none → failStaticOn s = true → Ends (.assayerSelfTest okA okB) s fun u =>
        roleOf u i = 1 ∧ flagF u p DASY.ROLE_SELFOK = true ∧ mode u = 1 ∧ flagF u w DPWR.ALERT_FAILSTATIC = false ∧
        u.recov.testing = 0 ∧ Silent s u) ∧
      (pass = true → roleOf s o = 1 → roleOf s i = 3 → Ends (.assayerSelfTest okA okB) s fun u =>
        roleOf u i = 2 ∧ roleOf u o = 1 ∧ mode u = 0 ∧ flagF u p DASY.ROLE_SELFOK = true ∧ u.recov.testing = 0 ∧
        Silent s u) ∧
      (pass = false → Ends (.assayerSelfTest okA okB) s fun u =>
        roleOf u i = 3 ∧ roleOf u o = roleOf s o ∧ u.recov.testing = 0 ∧ Reported s u p 0x28 0 ∧ u.tiles = s.tiles)) ∧
    (fails → Ends .failStatic s fun u =>
      mode u = 2 ∧ flagF u w DPWR.ALERT_FAILSTATIC = true ∧ alertAsserted u = true ∧ activeAssayer u = none ∧
      Reported s u c 0x49 0 ∧ u.tiles = s.tiles ∧ u.mem = s.mem ∧ u.net = s.net) ∧
    (¬fails → Ends .failStatic s fun u => u = s) ∧
    (OpenTo s src.toNat c → failStaticOn s = false ∨ busy = true → Ends (.note v src) s fun u =>
      Counted s u c ∧ OnlyRegs s u [regKey c HDR.ERR_COUNT.off]) ∧
    (OpenTo s src.toNat c → failStaticOn s = true → busy = false →
      actionOk s a (getF s c DRCV.CMD_ARG_PAGE) (getF s c DRCV.CMD_ARG_SUB) = false → Ends (.note v src) s fun u =>
        Counted s u c ∧ getF u c DRCV.CMD_STAT_CODE = 0x31 ∧ getF u c DRCV.CMD_STAT_ACTION = a ∧
        flagF u c DRCV.CMD_STAT_BUSY = false ∧ OnlyRegs s u [regKey c HDR.ERR_COUNT.off, regKey c DRCV.CMD_STAT_BUSY.off]) ∧
    (sheds → Ends (.phaseLost k ph) s fun u =>
      bitOf (getF u w (DPWR.RAIL_STAT_LOST k.val)) ph.val = true ∧ Recorded s u w 0x6C (k.val * 256 + ph.val) ∧
      (activeAssayer s = none → phasesLost s k.val = 0 → OnlyRegsEvents s u [regKey w (DPWR.RAIL_STAT_LOST k.val).off]) ∧
      (phasesLost s k.val = 1 → flagF u w DPWR.ALERT_PHASE = true) ∧ u.tiles = s.tiles ∧ u.mem = s.mem) ∧
    (¬sheds → Ends (.phaseLost k ph) s fun u => u = s)

/-! ### Configuration image and start-up (chapter 11) -/

/-- From power to the image: POWER_ON, PWR_GOOD and NRESET; BOOT with its source, WAITSRC, the bank waves of LOAD, the bytes
of LOAD_DATA, LOAD with its header and its sections, DONEWAIT and its limit. BOOT shows the identity record of the flash. A failure disables the outputs and shows FAILED
with its code; the first of FLASH mode goes over to the other slot (R327, R330, R335 to R340, R344, R347, R351, R462). -/
def Obligations.ImageLoad : Prop :=
  ∀ (s : State) (m : BitVec 3) (v : Word),
    let d := pgDCFG
    let st := loadState s
    let src := m.toNat
    let off := s.power.up = false ∧ s.power.rising = false
    let kept := loadSource s ≠ 0 ∨ flagF s d DCFG.STATUS_FELLBACK = true
    let failed := fun (u : State) (code : Nat) => loadState u = 6 ∧ getF u d DCFG.STATUS_CODE = code % 256 ∧
      flagF u d DCFG.PINS_ERR = true ∧ flagF u d DCFG.PINS_DONEREL = false ∧ u.outRel = false ∧ u.released = false ∧
      ∀ t, t < 256 → (tileOf u t).halted = true
    let again := fun (u : State) (code : Nat) => loadState u = 1 ∧ flagF u d DCFG.STATUS_FELLBACK = true ∧
      getF u d DCFG.STATUS_FIRSTCODE = code % 256 ∧ getF u d DCFG.STATUS_SLOT = 1 - getF s d DCFG.STATUS_SLOT ∧
      flagF u d DCFG.PINS_ERR = false ∧ u.mem = [] ∧ u.tiles = []
    let h := imageBytes s 256
    let wave := s.load.wave
    let due := st = 2 ∧ wave < 33 ∧ s.load.begun + waveAt wave ≤ s.age
    let ready := s.load.passed = true ∧ 33 ≤ wave ∧ s.load.begun + 13400 ≤ s.age
    let first := st = 1 ∧ (loadSource s ≤ 2 ∨ s.loadBuf ≠ [])
    let limit := st = 3 ∧ s.load.doneWait ≠ 0 ∧ s.load.since + 100000 * s.load.doneWait ≤ s.age
    (off → Ends .powerOn s fun u =>
      u.power.rising = true ∧ u.power.stby = true ∧ u.power.switchOff = false ∧ (∀ k, k < 29 → phasesLost u k = 0) ∧
      getF u pgDPWR DPWR.OFF_CAUSE = (if s.power.stby then getF s pgDPWR DPWR.OFF_CAUSE else 0)) ∧
    (¬off → Ends .powerOn s fun u => u = s) ∧
    (s.power.rising = true → s.power.failing = false → Ends .pwrGood s fun u =>
      u.power.good = true ∧ u.power.up = true ∧ u.power.rising = false ∧
      ∀ k, k < 29 → flagF u pgDPWR (DPWR.RAIL_STAT_INWIN k) = true) ∧
    (s.power.rising = false ∨ s.power.failing = true → Ends .pwrGood s fun u => u = s) ∧
    (Ends .nreset s fun u =>
      loadState u = 0 ∧ u.mem = [] ∧ u.tiles = [] ∧ u.evq = [] ∧ u.tb = 0 ∧ u.age = 0 ∧ u.outRel = false ∧
      u.released = false ∧ u.writesOpen = false ∧ u.hostMem = s.hostMem ∧ u.flash.bytes = s.flash.bytes ∧
      u.flash.slot = s.flash.slot ∧ u.power.good = s.power.good) ∧
    (st = 0 → dieReset s = false → s.load.src = none → Ends (.boot m) s fun u =>
      loadState u = (if 6 ≤ src then 7 else 1) ∧ loadSource u = src ∧ getF u d DCFG.PINS_MODE = src ∧
      flagF u pgDCLK DCLK.NET_PLL = true ∧ flagF u pgMEMC MEMC.STAT_TRAINED = true ∧
      (∀ i, i < 6 → regAt u pgDCAL (DCAL.ID_SERIAL_LO.off + 4 * i) = flashWord s (identityAt + 4 * i)) ∧
      (∀ r, r < 16 → getF u (pgRCLK r) RCLK.RAIL_MEAS = 800) ∧ u.tiles = s.tiles ∧ u.mem = s.mem) ∧
    (st ≠ 0 ∨ dieReset s = true → Ends (.boot m) s fun u => u = s) ∧
    (first → Ends .waitsrc s fun u =>
      loadState u = 2 ∧ u.load.begun = s.age ∧ u.load.wave = 0 ∧ u.load.passed = false ∧
      getF u d DCFG.STATUS_SLOT = (if loadSource s = 0 then
        (if flagF s d DCFG.STATUS_FELLBACK then getF s d DCFG.STATUS_SLOT else s.flash.slot % 2) else b2n (loadSource s == 2)) ∧
      (∀ t, t < 256 → curSrc u t = 3) ∧ u.tiles = s.tiles ∧ u.mem = s.mem) ∧
    (¬first → Ends .waitsrc s fun u => u = s) ∧
    (due → Ends .bankWave s fun u =>
      u.load.wave = wave + 1 ∧ u.mem = s.mem ∧ u.tiles = s.tiles ∧
      (∀ r b, r < 16 → b < 8 → wave < 16 → bankState u (16 * r + wave) b = 2) ∧
      (∀ r, r < 16 → 16 ≤ wave → wave < 32 → rbankState u r (wave - 16) = 2) ∧
      (∀ t b, t < 256 → b < 8 → (wave < 16 → t % 16 ≠ wave) → bankState u t b = bankState s t b)) ∧
    (¬due → Ends .bankWave s fun u => u = s) ∧
    (Open s d → loadSource s = 3 → st = 1 ∨ st = 2 → Ends (.loadData v) s fun u =>
      u = { s with loadBuf := s.loadBuf ++ toBytes 4 v.toNat }) ∧
    (Open s d → loadSource s ≠ 3 ∨ (st ≠ 1 ∧ st ≠ 2) → Ends (.loadData v) s fun u => u = s) ∧
    (st ≠ 2 → Ends .load s fun u => u = s) ∧
    (st = 2 → s.load.passed = false → h.length = 256 →
      (headerFailure h = none → Ends .load s fun u =>
        u.load.passed = true ∧ u.load.flags = fieldAt h 0x18 4 ∧ u.load.phases = fieldAt h 0x1C 4 ∧
        u.load.len = fieldAt h 8 4 ∧ getF u d DCFG.IMG_ID = fieldAt h 0x10 4 ∧ getF u d DCFG.IMG_VER = fieldAt h 0x14 4 ∧
        u.mem = s.mem ∧ u.tiles = s.tiles) ∧
      (∀ f, headerFailure h = some f →
        (kept → Ends .load s fun u => failed u f.code) ∧ (¬kept → Ends .load s fun u => again u f.code))) ∧
    (st = 2 → s.load.passed = true → ¬ready → Ends .load s fun u => u = s) ∧
    (st = 2 → ready → kept →
      (∀ f s', readImage s (imageBytes s s.load.len) = .bad f s' → loadSource s' = loadSource s →
        flagF s' d DCFG.STATUS_FELLBACK = flagF s d DCFG.STATUS_FELLBACK → Ends .load s fun u => failed u f.code) ∧
      (∀ s' s'' bs, readImage s (imageBytes s s.load.len) = .ok s' bs → singleFailure s' = none → ruleFailure s' = none →
        loadAllSlots (List.range 256) (takeTiles s') = (none, s'') → Ends .load s fun u =>
          loadState u = (if bitOf s''.load.flags 1 then 3 else 4) ∧ u.loadBuf = [] ∧ u.railsGo = true ∧
          getF u 0 DDEV.POSITIONS = (if redund s'' then 240 else 256))) ∧
    (st = 3 → Ends .donewait s fun u => loadState u = 4 ∧ flagF u d DCFG.PINS_DONELINE = true ∧ u.mem = s.mem ∧ u.tiles = s.tiles) ∧
    (st ≠ 3 → Ends .donewait s fun u => u = s) ∧
    (limit → kept → Ends .doneTimeout s fun u => failed u 0x7D) ∧
    (limit → ¬kept → Ends .doneTimeout s fun u => again u 0x7D) ∧
    (¬limit → Ends .doneTimeout s fun u => u = s)

/-- The four start-up phases, in the image's order: CLK_LOCK locks the PLLs and moves the islands to their clocks, or fails
with 0x7C after 100 µs; OUT_REL releases the outputs, SR_REL the units with every page of a protected tile dirty, WR_EN the
writes; after the last the image runs. LOAD_CMD starts a load in FAILED and HOLD, and in RUN with the key; HANDOVER and
HANDOVER_MESSAGE move the service of a pair: a position named in the message whose locket the mirror holds is recovered on its
standby (R293, R341 to R343, R349, R350). -/
def Obligations.StartUpPhases : Prop :=
  ∀ (s : State) (v : Word) (late : Bool),
    let d := pgDCFG
    let st := loadState s
    let phase := phaseNow s
    let done := getF s d DCFG.STATUS_PHDONE
    let ended := fun (u : State) (c : Nat) =>
      getF u d DCFG.STATUS_PHDONE = setBits done c c 1 ∧ loadState u = (if setBits done c c 1 = 15 then 5 else 4)
    let src := bitsOf v.toNat 2 0
    let key := bitsOf v.toNat 31 16 = 0x10AD
    let msg := s.strand.paired.message.getD (2 ^ 256 - 1, false)
    (phase ≠ some 0 → Ends (.clkLock late) s fun u => u = s) ∧
    (phase ≠ some 1 → Ends .outRel s fun u => u = s) ∧
    (phase ≠ some 2 → Ends .srRel s fun u => u = s) ∧
    (phase ≠ some 3 → Ends .wrEn s fun u => u = s) ∧
    (phase = some 0 → s.load.clk = none → Ends (.clkLock late) s fun u =>
      u.load.clk = some s.age ∧ loadState u = 4 ∧ getF u d DCFG.STATUS_PHDONE = done ∧ u.tiles = s.tiles ∧ u.mem = s.mem) ∧
    (∀ a, phase = some 0 → s.load.clk = some a → late = false → Ends (.clkLock late) s fun u =>
      ended u 0 ∧ u.tiles = s.tiles ∧ u.mem = s.mem ∧
      (∀ r n, r < 16 → n < 2 → pllEn s r n = true → pllLocked u r n = true) ∧
      (∀ g, g < 4 → flagF u (pgDBZL g) DBZL.CLK_LOCK = true) ∧
      (∀ t, t < 256 → (redund s = true → t % 16 ≠ 15) → (baseSrc s t < 2 → pllEn s (t / 16) (baseSrc s t) = true) →
        curSrc u t = baseSrc s t ∧ curDiv u t = steppedDiv s t (baseDiv s t) ∧ tileGated u t = false)) ∧
    (∀ a, phase = some 0 → s.load.clk = some a → late = true →
      (a + 10000 ≤ s.age → Ends (.clkLock late) s fun u =>
        loadState u = 6 ∧ getF u d DCFG.STATUS_CODE = 0x7C ∧ flagF u d DCFG.PINS_ERR = true ∧ u.outRel = false) ∧
      (s.age < a + 10000 → Ends (.clkLock late) s fun u => u = s)) ∧
    (phase = some 1 → Ends .outRel s fun u =>
      ended u 1 ∧ u.outRel = true ∧ u.tiles = s.tiles ∧ u.mem = s.mem ∧
      ∀ n, n < 6 → getF u (pgZLNK n) ZLNK.STAT_STATE =
        if getF s (pgZLNK n) ZLNK.CFG_MODE = 0 then getF s (pgZLNK n) ZLNK.STAT_STATE else 1) ∧
    (phase = some 2 → Ends .srRel s fun u =>
      ended u 2 ∧ u.released = true ∧ u.nextEpoch = boundaryAfter s s.tb.toNat ∧
      (∀ t, t < 256 → isProt s t = true → dirtyPages u t = List.range 256) ∧
      (s.writesOpen = true → ∀ t, t < 256 → emptyTile s t = false →
        (tileOf u t).halted = decide (regAt s (pgTSEQ t) TSEQ.CTRL_HALT.off ≠ 0))) ∧
    (phase = some 3 → s.heldW = [] → Ends .wrEn s fun u =>
      ended u 3 ∧ u.writesOpen = true ∧ u.mem = s.mem ∧
      (s.released = true → ∀ t, t < 256 → emptyTile s t = false →
        (tileOf u t).halted = decide (regAt s (pgTSEQ t) TSEQ.CTRL_HALT.off ≠ 0)) ∧
      (s.released = false → u.tiles = s.tiles)) ∧
    (Open s d → st = 6 ∨ st = 7 → Ends (.loadCmd v) s fun u =>
      loadState u = (if 6 ≤ src then 7 else 1) ∧ loadSource u = src ∧ flagF u d DCFG.PINS_ERR = false ∧ u.mem = [] ∧
      u.tiles = [] ∧ u.evq = s.evq ∧ u.tb = s.tb) ∧
    (Open s d → st = 5 → key → pairUp s = false → Ends (.loadCmd v) s fun u =>
      loadState u = 0 ∧ u.load.src = some src ∧ u.mem = [] ∧ u.tiles = [] ∧ u.evq = [] ∧ u.tb = 0) ∧
    (Open s d → st = 5 → key → pairUp s = true → Ends (.loadCmd v) s fun u => u = { s with load := { s.load with handing := some src } }) ∧
    (Open s d → st < 5 ∨ (st = 5 ∧ ¬key) → Ends (.loadCmd v) s fun u =>
      Counted s u d ∧ OnlyRegs s u [regKey d HDR.ERR_COUNT.off]) ∧
    (Open s d → ¬key ∨ pairUp s = false → Ends (.handover v) s fun u =>
      Counted s u d ∧ OnlyRegs s u [regKey d HDR.ERR_COUNT.off]) ∧
    (Open s d → key → pairUp s = true → bitOf v.toNat 0 = true → Ends (.handover v) s fun u =>
      u = { s with strand := { s.strand with paired := { s.strand.paired with yields := true } } }) ∧
    (Open s d → key → pairUp s = true → bitOf v.toNat 0 = false → Ends (.handover v) s fun u => u = s) ∧
    (pairOn s = true → Ends .handoverMessage s fun u =>
      u.strand.paired.message = none ∧ (msg.2 = true → u.strand.paired.served = []) ∧ u.strand.paired.lkt = s.strand.paired.lkt ∧
      u.mem = s.mem ∧
      ∀ p, p < 256 → bitOf msg.1 p = true → mirrorHolds s p = true →
        let q := Config.standby p % 256
        recovering s q = false → isProt s q = true → (servedBy s q).isSome = true →
          ∃ y p', (protOf u q).replay = some y ∧ y.far = some p' ∧ Config.standby p' % 256 = q ∧ bitOf msg.1 p' = true) ∧
    (pairOn s = false → Ends .handoverMessage s fun u => u = s)

/-- The flash: ERASE, PROGRAM, READ and BOOT_SEL start with their key while none runs (else they only count), are refused
with 0x18, 0x6B or 0x7F as R329 says, and take effect when FLASH_DONE ends them. COMMIT programs the working calibration as
a record with the next `SEQ` into the other block, which is then in force; RELOAD returns to the record in force (R328,
R329, R345, R346, R350). -/
def Obligations.FlashAndCalibration : Prop :=
  ∀ (s : State) (v : Word),
    let d := pgDCFG
    let c := pgDCAL
    let a := getF s d DCFG.FL_ADDR
    let key := bitsOf v.toNat 31 16 = 0x10AD
    let takes := Open s d ∧ key ∧ flashBusy s = false ∧ 5 ≤ loadState s
    let counted := fun (p : Nat) (u : State) => Counted s u p ∧ OnlyRegs s u [regKey p HDR.ERR_COUNT.off]
    let starts := fun (n arg : Nat) (u : State) =>
      u.flash.run = some (n, arg) ∧ flashBusy u = true ∧ u.flash.bytes = s.flash.bytes ∧ u.flash.wear = s.flash.wear ∧
      u.mem = s.mem ∧ u.tiles = s.tiles
    let refused := fun (code : Nat) (u : State) =>
      getF u d DCFG.FL_STAT_CODE = code ∧ OnlyRegs s u [regKey d DCFG.FL_STAT_CODE.off]
    let ck := bitsOf v.toNat 31 16 = 0xCA1B
    let calBusy := flagF s c DCAL.CAL_STAT_BUSY
    let other := fun k : Nat => 1 - k
    let blank := fun k : Nat => ∀ x ∈ s.flash.pages, x.1 / 256 ≠ calAddr k / 65536
    let early := Open s d ∧ key ∧ flashBusy s = false ∧ loadState s < 5
    let turned := Open s d ∧ (¬key ∨ flashBusy s = true)
    (turned → Ends (.flashErase v) s (counted d) ∧ Ends (.flashProgram v) s (counted d) ∧ Ends (.flashRead v) s (counted d)) ∧
    (early → Ends (.flashErase v) s (· = s) ∧ Ends (.flashProgram v) s (· = s) ∧ Ends (.flashRead v) s (· = s)) ∧
    (takes → a / 65536 < 496 → flashWear s (a / 65536) < 100000 → Ends (.flashErase v) s (starts 1 (a / 65536))) ∧
    (takes → a / 65536 < 496 → 100000 ≤ flashWear s (a / 65536) → Ends (.flashErase v) s (refused 0x6B)) ∧
    (takes → 496 ≤ a / 65536 → Ends (.flashErase v) s (refused 0x18)) ∧
    (takes → a / 65536 < 496 → look 0 s.flash.pages (a / 256) ≠ 1 → Ends (.flashProgram v) s (starts 2 (a / 256))) ∧
    (takes → a / 65536 < 496 → look 0 s.flash.pages (a / 256) = 1 → Ends (.flashProgram v) s (refused 0x7F)) ∧
    (takes → Ends (.flashRead v) s (starts 3 (a / 256))) ∧
    (Open s d → flashBusy s = true → Ends (.bootSel v) s (counted d)) ∧
    (Open s d → flashBusy s = false → flashWear s bootBlock < 100000 → Ends (.bootSel v) s (starts 4 (bitsOf v.toNat 0 0))) ∧
    (Open s d → flashBusy s = false → 100000 ≤ flashWear s bootBlock → Ends (.bootSel v) s (refused 0x6B)) ∧
    (∀ b, s.flash.run = some (1, b) → Ends .flashDone s fun u =>
      flashBusy u = false ∧ (∀ x, x / 65536 = b → flashByte u x = 0xFF) ∧ (∀ x, x / 65536 ≠ b → flashByte u x = flashByte s x) ∧
      flashWear u b = flashWear s b + 1 ∧ u.flash.run = none ∧ u.mem = s.mem) ∧
    (∀ p, s.flash.run = some (2, p) → Ends .flashDone s fun u =>
      flashBusy u = false ∧ (∀ i, i < 256 → flashByte u (256 * p + i) = s.flash.buf.getD i 0xFF) ∧
      (∀ x, x / 256 ≠ p → flashByte u x = flashByte s x) ∧ look 0 u.flash.pages p = 1 ∧ u.flash.run = none) ∧
    (∀ p, s.flash.run = some (3, p) → Ends .flashDone s fun u =>
      flashBusy u = false ∧ (∀ i, i < 64 → regAt u d (DCFG.FL_BUF i).off = flashWord s (256 * p + 4 * i)) ∧
      u.flash.bytes = s.flash.bytes ∧ u.flash.run = none) ∧
    (∀ n, s.flash.run = some (4, n) → n < 2 → Ends .flashDone s fun u =>
      flashBusy u = false ∧ u.flash.slot = n ∧ getF u d DCFG.BOOT_SEL = n ∧ flashWear u bootBlock = flashWear s bootBlock + 1) ∧
    (s.flash.run = none → s.flash.calRun = none → Ends .flashDone s fun u => u = s) ∧
    (Open s c → ¬ck ∨ calBusy = true → Ends (.commit v) s (counted c) ∧ Ends (.reload v) s (counted c)) ∧
    (∀ k, s.load.calBlock = some k → k < 2 → Open s c → ck → calBusy = false →
      blank (other k) → calSeq s k < 2 ^ 32 - 1 → Ends (.commit v) s fun u =>
        calValid u (other k) = true ∧ calSeq u (other k) = calSeq s k + 1 ∧
        flashBytes u (calAddr (other k) + 16) 512 = calBytes s ∧ flagF u c DCAL.CAL_STAT_BUSY = true ∧
        u.flash.calRun = some (other k) ∧ (∀ x, x / 65536 = calAddr k / 65536 → flashByte u x = flashByte s x)) ∧
    (s.load.calBlock = none → Open s c → ck → calBusy = false → blank 0 → Ends (.commit v) s fun u =>
      calValid u 0 = true ∧ calSeq u 0 = 1 ∧ flashBytes u (calAddr 0 + 16) 512 = calBytes s ∧
      flagF u c DCAL.CAL_STAT_BUSY = true ∧ u.flash.calRun = some 0) ∧
    (∀ k b, s.load.calBlock = some k → s.flash.run = none → s.flash.calRun = some b → k < 2 → b < 2 → b ≠ k →
      flashWear s (calAddr k / 65536) < 100000 → calSeq s b < 65536 → Ends .flashDone s fun u =>
        u.load.calBlock = some b ∧ getF u c DCAL.CAL_STAT_SEQ = calSeq s b ∧ flagF u c DCAL.CAL_STAT_BUSY = false ∧
        getF u c DCAL.CAL_RESULT = 0 ∧ (∀ x, x / 65536 = calAddr k / 65536 → flashByte u x = 0xFF)) ∧
    (Open s c → ck → calBusy = false → Ends (.reload v) s fun u =>
      (∀ b, s.load.calBlock = some b → ∀ i, i < 128 → regAt u c (0x80 + 4 * i) = flashWord s (calAddr b + 16 + 4 * i)) ∧
      getF u c DCAL.CAL_RESULT = 0 ∧ u.flash = s.flash)

/-! ### Bezel, machine interface and loupe (chapter 12) -/

/-- A segment's cycle: every flip-flop takes its table entry, an input pin is sampled and reaches the cells after six
cycles, an immediate word leaves the pin after two, ports in offer what their cells hold; before SR_REL no flip-flop moves.
A frame starts once past its time; a framed pin takes its word at its slot or counts SLOT_MISS; a token port in launches or
discards, and a taken head leaves a port out (R342, R357, R361 to R366). -/
def Obligations.BezelSegments : Prop :=
  ∀ (s : State) (g : Fin 4) (pins : BitVec 384) (pin : Fin 48) (j : Fin 32),
    let p := pgDBZL g.val
    let b := bezelOf s g.val
    let m := bzCells s g.val
    let settled := b.launches = [] ∧ b.takes = 0 ∧ b.loads = []
    let due := b.nextFrame ≠ 0 ∧ b.nextFrame ≤ s.tb.toNat
    let len := 10 * getF s p DBZL.FRAME_LEN
    let slot := s.released = true ∧ pinOuts s g.val pin.val = true ∧ pinFramed s g.val pin.val = true ∧ b.framed = true ∧
      bitOf b.slotDone pin.val = false ∧ b.frameAge + getF s p (DBZL.PIN_OUT_TICK pin.val) ≤ s.age
    let sg := j.val / 8
    let e := bezelOf s sg
    let q := pgDBZL sg
    (settled → Ends (.bezelCycle g pins) s fun u =>
      let c := bezelOf u g.val
      (∀ i, i < 5 → c.pinIn.getD (i + 1) 0 = b.pinIn.getD i 0) ∧
      (∀ n, n < 48 → pinMode s g.val n = 1 → n < 40 →
        pinBits (c.pinIn.headD 0) n = pinBits pins.toNat n % 2 ^ pinSer s g.val n) ∧
      (∀ g', g' ≠ g.val → bezelOf u g' = bezelOf s g') ∧ u.tiles = s.tiles ∧ u.mem = s.mem ∧ u.portOut = s.portOut ∧
      u.clasps = s.clasps ∧ Silent s u ∧
      (s.released = false → c.ff = b.ff ∧ c.out = b.out ∧ c.launches = []) ∧
      (s.released = true →
        (∀ n, n < 1024 → bitOf c.ff n = ((bcell s g.val n).reg && cellValue s g.val m (bcell s g.val n))) ∧
        (∀ n, n < 48 → pinOuts s g.val n = true → pinFramed s g.val n = false →
          pinBits c.out n = pinBits b.outNext n ∧ pinBits c.outNext n = loadWord s g.val m n) ∧
        (∀ i k, i < 8 → portOffer s g.val m i = some k → ⟨i, k, portCredit s (8 * g.val + i)⟩ ∈ c.launches) ∧
        c.frame = false)) ∧
    (due → getF s p DBZL.FRAME_LEN ≠ 0 → Ends (.frame g) s fun u =>
      let c := bezelOf u g.val
      c.frame = true ∧ c.slotDone = 0 ∧ c.frameAge = s.age ∧ s.tb.toNat < c.nextFrame ∧
      (c.nextFrame - 10 * getF s p DBZL.FRAME_PHASE) % len = 0 ∧
      getF u p DBZL.FRAME_CNT = (getF s p DBZL.FRAME_CNT + 1) % 2 ^ 32 ∧ c.ff = b.ff ∧ c.out = b.out ∧
      OnlyRegs { s with bezel := u.bezel, dacs := u.dacs } u [regKey p DBZL.FRAME_CNT.off] ∧
      (∀ i, i < 8 → 2 ≤ g.val → flagF s pgDMIF (DMIF.DAC_CFG_SYNC (anaCh g.val i)) = true →
        (dacOf s (anaCh g.val i)).waiting.isSome = true →
        (dacOf u (anaCh g.val i)).due = (dacOf s (anaCh g.val i)).waiting ∧ (dacOf u (anaCh g.val i)).waiting = none)) ∧
    (¬due → Ends (.frame g) s fun u => u = s) ∧
    (slot → bitOf b.frFresh pin.val = true → Ends (.framedSlot g pin) s fun u =>
      let c := bezelOf u g.val
      pinBits c.out pin.val = b2n (bitOf b.frLast pin.val) ∧ bitOf c.frFresh pin.val = false ∧
      bitOf c.slotDone pin.val = true ∧ u = { s with bezel := u.bezel } ∧
      ∀ n, n ≠ pin.val → pinBits c.out n = pinBits b.out n) ∧
    (slot → bitOf b.frFresh pin.val = false → Ends (.framedSlot g pin) s fun u =>
      (bezelOf u g.val).out = b.out ∧ bitOf (bezelOf u g.val).slotDone pin.val = true ∧
      getF u p DBZL.SLOT_MISS = min (getF s p DBZL.SLOT_MISS + 1) (2 ^ 32 - 1) ∧
      (bitOf (getF s p HDR.EVT_EN) 1 = true → Reported s u p 0x4C 0) ∧
      (bitOf (getF s p HDR.EVT_EN) 1 = false → Silent s u)) ∧
    (¬slot → Ends (.framedSlot g pin) s fun u => u = s) ∧
    (∀ x, e.launches.find? (fun x => x.port == j.val % 8) = some x →
      (∀ k, portInKey s j.val = some k → x.credit = true → Ends (.tokenPortIn j) s fun u =>
        (claspOf u k).toks = (claspOf s k).toks ++ [⟨x.tok, false⟩] ∧ u.regs = s.regs ∧ u.tiles = s.tiles) ∧
      (x.credit = false → Ends (.tokenPortIn j) s fun u =>
        u.clasps = s.clasps ∧ getF u q (DBZL.OVR (j.val % 8)) = min (getF s q (DBZL.OVR (j.val % 8)) + 1) (2 ^ 32 - 1) ∧
        (bitOf (getF s q HDR.EVT_EN) 0 = true → Reported s u q 0x6D 0))) ∧
    (e.launches.find? (fun x => x.port == j.val % 8) = none → Ends (.tokenPortIn j) s fun u => u = s) ∧
    (bitOf e.takes (j.val % 8) = true → Ends (.tokenPortOutTake j) s fun u =>
      portShown u j.val = (portShown s j.val).tail ∧ bitOf (bezelOf u sg).takes (j.val % 8) = false ∧
      (∀ i, i ≠ j.val → portShown u i = portShown s i) ∧ u = { s with bezel := u.bezel, portOut := u.portOut }) ∧
    (bitOf e.takes (j.val % 8) = false → Ends (.tokenPortOutTake j) s fun u => u = s)

/-- Analog channels: a load latches the code and ends STALE, an update converts it with the calibration of R371 at least
2.5 µs after the one before, SYNC channels together; the watchdog acts by SAFE with 0x4B; CONN closes the switch; inputs
sample together, and a sample that finds VALID is discarded. 24 V: edges enter a FIFO of 64, an overload (0x6E) keeps its
output off until its bit is cleared, and without field supply every output is off (R371 to R376). -/
def Obligations.MachineInterface : Prop :=
  ∀ (s : State) (k : Fin 16) (i : Fin 32) (v : Bool) (w : Word) (raw : List Word),
    let p := pgDMIF
    let d := dacOf s k.val
    let sg := chSeg k.val
    let conv := fun (n c : Nat) => half16 (calibrate (sext 16 c) (getF s pgDCAL (DCAL.DAC_GAIN n)) (getF s pgDCAL (DCAL.DAC_OFS n)))
    let lim := getF s p DMIF.DAC_WD
    let stale := dacClosed s k.val = true ∧ lim ≠ 0 ∧ flagF s p (DMIF.DAC_CFG_STALE k.val) = false ∧ d.loadAt + 100 * lim ≤ s.age
    let due := s.adcNext ≠ 0 ∧ s.adcNext ≤ s.tb.toNat
    let fly := look [] s.adcFly k.val
    let lvl : Fld := ⟨DMIF.DI_LEVEL.off, i.val, i.val⟩
    let counted := fun (u : State) (f : Fld) => getF u p f = min (getF s p f + 1) (2 ^ 32 - 1) ∧
      (bitOf (getF s p HDR.EVT_EN) 0 = true → Reported s u p 0x6D 0)
    (∀ x, (bezelOf s sg).loads.find? (fun x => x.1 == k.val) = some x → Ends (.dacLoad k) s fun u =>
      getF u p (DMIF.DAC_CODE_CODE k.val) = x.2 % 65536 ∧ (dacOf u k.val).waiting = some x.2 ∧ (dacOf u k.val).level = d.level ∧
      (dacOf u k.val).loadAt = s.age ∧ (d.opened = false → flagF u p (DMIF.DAC_CFG_STALE k.val) = false) ∧ Silent s u) ∧
    ((bezelOf s sg).loads.find? (fun x => x.1 == k.val) = none → Ends (.dacLoad k) s fun u => u = s) ∧
    (∀ c, flagF s p (DMIF.DAC_CFG_SYNC k.val) = false → d.waiting = some c →
      (d.nextAt ≤ s.age → Ends (.dacUpdate k) s fun u =>
        (dacOf u k.val).level = conv k.val c ∧ (dacOf u k.val).waiting = none ∧ (dacOf u k.val).nextAt = s.age + 250 ∧
        getF u p (DMIF.DAC_CODE_CORR k.val) = conv k.val c ∧ (∀ n, n ≠ k.val → dacOf u n = dacOf s n) ∧
        OnlyRegs { s with dacs := u.dacs } u [regKey p (DMIF.DAC_CODE_CORR k.val).off]) ∧
      (s.age < d.nextAt → Ends (.dacUpdate k) s fun u => u = s)) ∧
    (flagF s p (DMIF.DAC_CFG_SYNC k.val) = true → d.due.isSome = true → Ends (.dacUpdate k) s fun u =>
      ∀ n c, n < 8 → (dacOf s (anaCh sg n)).due = some c →
        (dacOf u (anaCh sg n)).level = conv (anaCh sg n) c ∧ (dacOf u (anaCh sg n)).due = none) ∧
    (stale → Ends (.analogStale k) s fun u =>
      flagF u p (DMIF.DAC_CFG_STALE k.val) = true ∧ Reported s u p 0x4B 0 ∧
      (getF s p (DMIF.DAC_CFG_SAFE k.val) = 0 → u.dacs = s.dacs) ∧
      (getF s p (DMIF.DAC_CFG_SAFE k.val) = 1 → (dacOf u k.val).level = conv k.val 0 ∧ dacClosed u k.val = true) ∧
      (2 ≤ getF s p (DMIF.DAC_CFG_SAFE k.val) → dacClosed u k.val = false)) ∧
    (¬stale → Ends (.analogStale k) s fun u => u = s) ∧
    (Open s p → Ends (.conn k v) s fun u =>
      flagF u p (DMIF.DAC_CFG_CONN k.val) = v ∧ getF u p (DMIF.DAC_CFG_SAFE k.val) = getF s p (DMIF.DAC_CFG_SAFE k.val) ∧
      dacClosed u k.val = (s.outRel && v) ∧
      (v = true → d.opened = true → flagF u p (DMIF.DAC_CFG_STALE k.val) = false) ∧
      OnlyRegs { s with dacs := u.dacs } u [regKey p (DMIF.DAC_CFG_CONN k.val).off]) ∧
    (due → getF s p DMIF.ADC_CFG_PERIOD ≠ 0 → Ends (.adcSample raw) s fun u =>
      s.tb.toNat < u.adcNext ∧ u = { s with adcNext := u.adcNext, adcFly := u.adcFly } ∧
      ∀ n, n < 16 → look [] u.adcFly n = look [] s.adcFly n ++ [(s.age, adcWord s n (sext 16 (raw.getD n 0).toNat))]) ∧
    (¬due → Ends (.adcSample raw) s fun u => u = s) ∧
    (∀ a x rest, fly = (a, x) :: rest → a + 70 ≤ s.age →
      (look 0 s.adcVal k.val ≠ 1 → Ends (.adcDeliver k) s fun u =>
        look 0 u.adcVal k.val = 1 ∧ regAt u p (DMIF.ADC_DATA_SAMPLE k.val).off = word x ∧ look [] u.adcFly k.val = rest ∧
        Silent s u) ∧
      (look 0 s.adcVal k.val = 1 → Ends (.adcDeliver k) s fun u =>
        look [] u.adcFly k.val = rest ∧ u.adcVal = s.adcVal ∧ counted u DMIF.ADC_OVR ∧
        regAt u p (DMIF.ADC_DATA_SAMPLE k.val).off = regAt s p (DMIF.ADC_DATA_SAMPLE k.val).off)) ∧
    (fly = [] ∨ (∃ a x rest, fly = (a, x) :: rest ∧ s.age < a + 70) → Ends (.adcDeliver k) s fun u => u = s) ∧
    (flagF s p lvl = v → Ends (.diChange i v) s fun u => u = s) ∧
    (flagF s p lvl ≠ v → Ends (.diChange i v) s fun u =>
      flagF u p lvl = v ∧
      (flagF s p (DMIF.DI_CFG_EDGE_EN i.val) = false → u.diQ = s.diQ ∧ Silent s u) ∧
      (flagF s p (DMIF.DI_CFG_EDGE_EN i.val) = true → s.diQ.length < 64 →
        u.diQ = s.diQ ++ [⟨i.val, v, s.tb.toNat⟩] ∧ Silent s u) ∧
      (flagF s p (DMIF.DI_CFG_EDGE_EN i.val) = true → 64 ≤ s.diQ.length → u.diQ = s.diQ ∧ counted u DMIF.DI_OVR)) ∧
    (∀ x rest, s.diQ = x :: rest → Ends .diEvt s fun u =>
      u.diQ = rest ∧ u.lastRead = toBytes 4 (2 ^ 31 + 256 * b2n x.rise + x.input) ∧
      regAt u p DMIF.DI_TLO.off = word x.time ∧ regAt u p DMIF.DI_THI.off = word (x.time / 2 ^ 32) ∧
      RegsBut s u [regKey p DMIF.DI_TLO.off, regKey p DMIF.DI_THI.off]) ∧
    (s.diQ = [] → Ends .diEvt s fun u => u = { s with lastRead := [0, 0, 0, 0] }) ∧
    (doOn s k.val = true → Ends (.outputOverload k) s fun u =>
      bitOf (getF u p DMIF.DO_FAULT) k.val = true ∧ doOn u k.val = false ∧ Reported s u p 0x6E k.val ∧
      OnlyRegsEvents s u [regKey p DMIF.DO_FAULT.off]) ∧
    (doOn s k.val = false → Ends (.outputOverload k) s fun u => u = s) ∧
    (flagF s p DMIF.MIF_STAT = true → Ends .fieldLow s fun u =>
      flagF u p DMIF.MIF_STAT = false ∧ (∀ n, doOn u n = false) ∧ Reported s u p 0x6E 0xFF ∧
      OnlyRegsEvents s u [regKey p DMIF.MIF_STAT.off]) ∧
    (flagF s p DMIF.MIF_STAT = false → Ends .fieldLow s fun u => u = s) ∧
    (Ends .fieldRestored s fun u => flagF u p DMIF.MIF_STAT = true ∧ OnlyRegs s u [regKey p DMIF.MIF_STAT.off]) ∧
    (Open s p → Ends (.doFaultClear w) s fun u =>
      regAt u p DMIF.DO_FAULT.off = regAt s p DMIF.DO_FAULT.off &&& ~~~w ∧ OnlyRegs s u [regKey p DMIF.DO_FAULT.off])

/-- The loupe: a write of EN arms a trace or stops it, a reserved mode only counts; the matching entry, or FORCE, triggers
it with POST entries to follow; MEM_ALO starts a read, which returns the word (where a free value puts it into the bank
cycle of writes, as it was before them; log 82) or its fault code and changes nothing that it observes: no memory, no mark, no register of another page but
the transaction counts, no queue (R154, R225, R380 to R383). -/
def Obligations.Loupe : Prop :=
  ∀ (s : State) (v : Word),
    let p := pgDLPE
    let n := v.toNat
    let st := traceState s
    let post := getF s p DLPE.TRACE_CFG_POST
    let trig := fun (u : State) (at_ : Nat) =>
      getF u p DLPE.TRACE_STAT_TRIGPOS = at_ % 16384 ∧ traceState u = (if post = 0 then 3 else 2) ∧ u.loupe.left = post ∧
      u.loupe.trace = s.loupe.trace ∧ OnlyRegs { s with loupe := u.loupe } u [regKey p DLPE.TRACE_STAT_STATE.off]
    let shown := fun (u : State) (d : Word) (bad : Bool) (code : Nat) =>
      regAt u p DLPE.MEM_DATA.off = d ∧ flagF u p DLPE.MEM_STAT_BAD = bad ∧ getF u p DLPE.MEM_STAT_CODE = code ∧
      u.loupe.read = none ∧ u.mem = s.mem ∧ u.marks = s.marks ∧ u.wback = s.wback ∧ u.tiles = s.tiles ∧ u.diQ = s.diQ ∧
      u.tsFifo = s.tsFifo
    let quiet := fun (u : State) => Silent s u ∧ ∀ k, k ∉ [regKey p DLPE.MEM_DATA.off, regKey p DLPE.MEM_STAT_CODE.off] →
      (∀ r, r < 16 → k / 1024 ≠ pgRSTAT r) → look 0 u.regs k = look 0 s.regs k
    (Open s p → bitsOf n 30 29 = 3 → Ends (.traceEn v) s fun u => Counted s u p ∧ OnlyRegs s u [regKey p HDR.ERR_COUNT.off]) ∧
    (Open s p → bitsOf n 30 29 ≠ 3 → bitOf n 28 = false → Ends (.traceEn v) s fun u =>
      traceState u = (if bitOf n 31 then (if st = 0 ∨ st = 3 then 1 else st) else 0) ∧
      getF u p DLPE.TRACE_CFG_EN = bitsOf n 31 31 ∧ getF u p DLPE.TRACE_CFG_MODE = bitsOf n 30 29 ∧
      getF u p DLPE.TRACE_CFG_SEG = bitsOf n 25 24 ∧ getF u p DLPE.TRACE_CFG_POST = bitsOf n 13 0 ∧
      u.loupe.trace = s.loupe.trace ∧
      OnlyRegs { s with loupe := u.loupe } u [regKey p DLPE.TRACE_CFG_EN.off, regKey p DLPE.TRACE_STAT_STATE.off]) ∧
    (Open s p → st = 1 → s.loupe.hit = none → Ends .force s fun u => trig u (getF s p DLPE.TRACE_STAT_WPTR)) ∧
    (Open s p → st ≠ 1 → Ends .force s fun u => u = s) ∧
    (∀ x, s.loupe.hit = some x → st = 1 → Ends .traceTrigger s fun u => trig u x) ∧
    (s.loupe.hit = none ∨ st ≠ 1 → Ends .traceTrigger s fun u => u = s) ∧
    (Open s p → Ends (.memAlo v) s fun u =>
      u.loupe.read = some (n / 4 * 4 + getF s p DLPE.MEM_AHI * 2 ^ 32) ∧ regAt u p DLPE.MEM_ALO.off = v ∧
      u.loupe.trace = s.loupe.trace ∧ OnlyRegs { s with loupe := u.loupe } u [regKey p DLPE.MEM_ALO.off]) ∧
    (s.loupe.read = none → Ends .loupeReadDone s fun u => u = s) ∧
    (∀ a, s.loupe.read = some a →
      (∀ st', (∀ q o, placeOf a ≠ .page q o) → placeRefusal s (placeOf a) = 0 → storageOf s (placeOf a) = some st' →
        let was := if Config.freeNat s.free % 2 = 1 then oldWord s st' else (memWord s st', markAt s (wordKey st'))
        let code := markCode was.2
        Ends .loupeReadDone s fun u => shown u was.1 (isBad code) (if isBad code then code else 0) ∧ quiet u) ∧
      (∀ q o f, placeOf a = .page q o → placeRefusal s (.page q o) = 0 → physPage s q = some f →
        a ≠ 0x1200004054 → a ≠ 0x1200004058 → Ends .loupeReadDone s fun u => shown u (regValue s f o) false 0 ∧ quiet u) ∧
      (∀ c, placeOf a = .bad c → Ends .loupeReadDone s fun u =>
        shown u 0 false c ∧ Counted s u p ∧ Reported s u p c (a % 2 ^ 32)))

/-! ### Links, strands and Ethernet (chapter 13) -/

/-- LINK_TRAIN ends UP at the widest width, and its lowest group, whose lanes are all good at both ends, else DOWN; the link
that brings an image becomes LOADING. LANE_FAULT marks the lane and goes on narrower; LINK_DOWN discards unacknowledged
frames and completes the requests carried; LINK_RETRY, RETRAIN and CLRLANE train again; CFGTX; OUTBOUND_RESEND; RTFLUSH
(R387, R388, R390, R398, R402, R404, R424; OUTBOUND_RESEND takes back
the credit that its tokens hold, log 54). -/
def Obligations.LinksUpAndDown : Prop :=
  ∀ (s : State) (n : Fin 6) (md mw : BitVec 2) (good : BitVec 8) (lane : Fin 8) (e : Fin 64) (v : Bool),
    let p := pgZLNK n.val
    let st := lineState s n.val
    let bad := getF s p ZLNK.STAT_LANEBAD
    let cfgtx := regKey p ZLNK.CTRL_CFGTX.off
    let stat := regKey p ZLNK.STAT_STATE.off
    let fits := fun (ok : Nat → Prop) (c g : Nat) => c ≤ 3 ∧ 8 / 2 ^ c * (g + 1) ≤ 8 ∧
      ∀ l, 8 / 2 ^ c * g ≤ l → l < 8 / 2 ^ c * (g + 1) → ok l
    let best := fun (ok : Nat → Prop) (m c g : Nat) => m ≤ c ∧ fits ok c g ∧
      ∀ c' g', m ≤ c' → fits ok c' g' → c < c' ∨ c = c' ∧ g ≤ g'
    let trained := fun l => bitOf good.toNat l = true ∧ bitOf bad l = false
    let most := max mw.toNat (getF s p ZLNK.CFG_MAXW)
    let mode := getF s p ZLNK.CFG_MODE
    let left := fun l => bitOf (lineOf s n.val).good l = true ∧ bitOf bad l = false ∧ l ≠ lane.val
    let down := fun (u : State) => lineState u n.val = 4 ∧ (lineOf u n.val).unacked = [] ∧ u.mem = s.mem ∧ u.tiles = s.tiles ∧
      getF u p ZLNK.DOWNS = min (getF s p ZLNK.DOWNS + 1) (2 ^ 32 - 1) ∧ Recorded s u p 0x4D 0 ∧
      ∀ i t, (i, some t) ∈ s.txns → carriedBy s n.val t = true → look none u.txns i = none
    let again := fun (u : State) =>
      lineState u n.val = (if st = 2 then 3 else if st = 4 then 1 else st) ∧
      getF u p ZLNK.RETRAINS = (if st = 2 then min (getF s p ZLNK.RETRAINS + 1) (2 ^ 32 - 1) else getF s p ZLNK.RETRAINS) ∧
      OnlyRegs s u [cfgtx, stat, regKey p ZLNK.RETRAINS.off]
    let key := zilKey n.val e.val
    let due := key ∈ s.strand.resend ∧ entEn s key = true ∧ entOutbound s key = true ∧
      (lineTo s (getE s key 0x10 31 14)).any (lineUp s) = true
    (loadLink s n.val = false → mode ≠ 0 → st = 1 ∨ st = 3 →
      (∀ c g, md.toNat = mode → best trained most c g → Ends (.linkTrain n md mw good) s fun u =>
        lineState u n.val = 2 ∧ getF u p ZLNK.STAT_WIDTH = c ∧ getF u p ZLNK.STAT_GROUP = g ∧ u.mem = s.mem ∧
        u.tiles = s.tiles ∧ Silent s u ∧ (st = 3 → (lineOf u n.val).unacked = (lineOf s n.val).unacked)) ∧
      (md.toNat ≠ mode ∨ (∀ c g, most ≤ c → ¬fits trained c g) → Ends (.linkTrain n md mw good) s fun u =>
        lineState u n.val = 4 ∧ (st = 1 → OnlyRegs s u [stat]) ∧ (st = 3 → down u))) ∧
    (loadLink s n.val = false → mode = 0 ∨ (st ≠ 1 ∧ st ≠ 3) → Ends (.linkTrain n md mw good) s fun u => u = s) ∧
    (loadLink s n.val = true → bitOf good.toNat 0 = true → st ≠ 5 → Ends (.linkTrain n md mw good) s fun u =>
      lineState u n.val = 5 ∧ getF u p ZLNK.STAT_WIDTH = 3 ∧ getF u p ZLNK.STAT_GROUP = 0 ∧ u.mem = s.mem ∧ Silent s u) ∧
    (st = 2 → bitOf bad lane.val = false →
      (∀ c g, best left (getF s p ZLNK.STAT_WIDTH) c g → Ends (.laneFault n lane) s fun u =>
        lineState u n.val = 2 ∧ getF u p ZLNK.STAT_WIDTH = c ∧ getF u p ZLNK.STAT_GROUP = g ∧
        (∀ l, l < 8 → (bitOf (getF u p ZLNK.STAT_LANEBAD) l = true ↔ bitOf bad l = true ∨ l = lane.val)) ∧
        (lineOf u n.val).unacked = (lineOf s n.val).unacked ∧ Reported s u p 0x2A 0 ∧ u.mem = s.mem ∧ u.tiles = s.tiles) ∧
      ((∀ c g, getF s p ZLNK.STAT_WIDTH ≤ c → ¬fits left c g) → Ends (.laneFault n lane) s fun u =>
        lineState u n.val = 4 ∧ (lineOf u n.val).unacked = [] ∧ bitOf (getF u p ZLNK.STAT_LANEBAD) lane.val = true ∧
        Recorded s u p 0x2A 0 ∧ u.mem = s.mem ∧ u.tiles = s.tiles)) ∧
    (st ≠ 2 ∨ bitOf bad lane.val = true → Ends (.laneFault n lane) s fun u => u = s) ∧
    (loadLink s n.val = false → st = 2 ∨ st = 3 ∨ st = 5 → Ends (.linkDown n) s down) ∧
    (loadLink s n.val = true → st = 5 → Ends (.linkDown n) s fun u =>
      loadState u = 6 ∧ getF u pgDCFG DCFG.STATUS_CODE = 0x7B ∧ flagF u pgDCFG DCFG.PINS_ERR = true ∧ u.outRel = false) ∧
    (st ≠ 2 → st ≠ 3 → st ≠ 5 → Ends (.linkDown n) s fun u => u = s) ∧
    (st = 4 → Ends (.linkRetry n) s fun u => lineState u n.val = 1 ∧ OnlyRegs s u [stat]) ∧
    (st ≠ 4 → Ends (.linkRetry n) s fun u => u = s) ∧
    (Open s p → Ends (.cfgtx n v) s fun u => flagF u p ZLNK.CTRL_CFGTX = v ∧ OnlyRegs s u [cfgtx]) ∧
    (Open s p → Ends (.clrlane n) s fun u => again u ∧ getF u p ZLNK.STAT_LANEBAD = 0 ∧
      getF u p ZLNK.CTRL_CFGTX = getF s p ZLNK.CTRL_CFGTX) ∧
    (Open s p → Ends (.retrain n) s fun u => again u ∧ getF u p ZLNK.STAT_LANEBAD = bad ∧
      getF u p ZLNK.CTRL_CFGTX = getF s p ZLNK.CTRL_CFGTX) ∧
    (due → Ends (.outboundResend n e) s fun u =>
      u.strand.resend = s.strand.resend.filter (fun k => k != key) ∧ u.mem = s.mem ∧ u.tiles = s.tiles ∧
      (endOf u key).sent + (endOf u key).credits = (endOf s key).sent + (endOf s key).credits ∧
      (mayEmit s key 0 1 = 0 → (endOf u key).sent = 0)) ∧
    (¬due → Ends (.outboundResend n e) s fun u => u = s) ∧
    (Open s pgDSTR → Ends .rtflush s fun u =>
      u = { s with routes := u.routes } ∧
      ∀ i, i < 4096 → routeEntry u i = ofBytes (memBytes s (getF s pgDSTR DSTR.RT_BASE * 65536 + 8 * i) 8))

/-- Frames: DATA is delivered at its device, or forwarded with a TTL one lower, wrapped where its entry says PUSH, or
dropped with 0x3F; CTRL and NACK acknowledge, NACK and FRAME_RESEND_TIMEOUT resend, a gap is answered by one NACK; CONFIG
brings image bytes; TIME carries and takes times and steers by their offset; TIME_LOST follows ALT or holds; IDLE does
nothing (R392 to R398, R404, R412, R413; how the half of an odd sum of times rounds is free, log 53). -/
def Obligations.FramesAndTime : Prop :=
  ∀ (s : State) (n : Fin 6) (ws : List (BitVec 64)),
    let p := pgZLNK n.val
    let x := lineOf s n.val
    let h := linkHdr (ws.headD 0)
    let rhs := (ws.drop 1).take h.nrh
    let flits := (ws.drop (1 + h.nrh)).dropLast
    let r0 := rhs.headD 0
    let left := if isOwn s (rhDst r0) then rhs.drop 1 else rhs
    let k := pktOfWords flits
    let still := fun (u : State) => u.mem = s.mem ∧ u.tiles = s.tiles
    let d := pgDSTR
    let uses := getF s d DSTR.TIME_STAT_USING
    let lost := getF s d DSTR.TIME_CFG_SRC = 1 ∧ flagF s d DSTR.TIME_STAT_HOLD = false ∧ lineState s uses ≠ 2
    let alt := getF s d DSTR.TIME_CFG_ALT
    let away := timeDiff (wordAt ws 3) (wordAt ws 2)
    let back := timeDiff s.tb.toNat (wordAt ws 1)
    Ends (.idle n) s (fun u => u = s) ∧
    (∀ r more, Arrives s n.val 1 ws → left = r :: more → rhTtl r ≠ 0 →
      let f : Frame := ⟨1, h.cls, left.length, rhWord (rhDst r) (rhSrc r) (rhTtl r - 1) :: more ++ flits⟩
      (∀ m, wayTo s (rhDst r) = .line m → Ends (.data n ws) s fun u => Queued u m f ∧ still u ∧ u.regs = s.regs ∧ Silent s u) ∧
      (∀ via m, wayTo s (rhDst r) = .push via → left.length < 4 → wayTo s via = .line m → Ends (.data n ws) s fun u =>
        Queued u m { f with nrh := f.nrh + 1, body := rhWord via (ownId s) 63 :: f.body } ∧ still u ∧ u.regs = s.regs)) ∧
    (∀ r more, Arrives s n.val 1 ws → left = r :: more → rhTtl r = 0 ∨ wayTo s (rhDst r) = .drop → h.cls ≠ 0 →
      Ends (.data n ws) s fun u => getF u p ZLNK.ROUTE_MISS = min (getF s p ZLNK.ROUTE_MISS + 1) (2 ^ 32 - 1) ∧
        Reported s u p 0x3F 0 ∧ still u) ∧
    (Arrives s n.val 1 ws → left = [] →
      (h.cls = 3 → pairOn s = true → rhSrc r0 = getF s pgDACW DACW.PAIR_CFG_PARTNER → k.tag = 0 → Ends (.data n ws) s fun u =>
        let key := ofBytes ((k.data.drop 8).take 4)
        look [] u.strand.paired.toks key = look [] s.strand.paired.toks key ++
          [tokOf (word (ofBytes (k.data.take 8))) (bitsOf (ofBytes (k.data.take 8)) 35 32)] ∧
        (∀ i, i ≠ key → look [] u.strand.paired.toks i = look [] s.strand.paired.toks i) ∧ still u) ∧
      (h.cls = 3 → pairOn s = false ∨ rhSrc r0 ≠ getF s pgDACW DACW.PAIR_CFG_PARTNER → Ends (.data n ws) s fun u =>
        u.strand.paired = s.strand.paired ∧ still u ∧ u.regs = s.regs ∧ Silent s u) ∧
      (∀ m, h.cls = 0 → k.addr / 65536 < getF s d DSTR.RWIN_BASE ∨ getF s d DSTR.RWIN_LIMIT < k.addr / 65536 →
        ownId s ≠ noId → wayTo s (rhSrc r0) = .line m → Ends (.data n ws) s fun u =>
          Queued u m (dataFrame s (rhSrc r0) { blankPkt with
            cls := .rsp, src := k.src, tag := k.tag, write := k.write, code := 0x19, data := [] }) ∧ still u ∧ u.net = s.net) ∧
      (∀ t ch off side, h.cls = 1 → look none s.txns (256 * k.src + k.tag) = some t → t.purpose = .dmaRead ch off side →
        look [] s.strand.remote (k.src - 0x221) = [] → Ends (.data n ws) s fun u =>
          look none u.txns (256 * k.src + k.tag) = none ∧ (dmaOf u ch).outR = (dmaOf s ch).outR - 1 ∧ still u)) ∧
    (h.typ = 1 → trailerOk ws = false → Ends (.data n ws) s fun u => u = s) ∧
    (h.typ = 1 → lineTakes s n.val 1 = true → trailerOk ws = true → h.seq ≠ x.rxSeq → x.rxSeq < 1024 →
      (h.seq + 1024 - x.rxSeq) % 1024 < 512 → x.nacked = false → Ends (.data n ws) s fun u =>
        SentPlain s u n.val 3 ∧ (lineOf u n.val).rxSeq = x.rxSeq ∧ still u ∧ u.regs = s.regs) ∧
    (lineUp s n.val = true → Ends (.ctrl n []) s fun u =>
      SentPlain s u n.val 2 ∧ (lineOf u n.val).unacked = x.unacked ∧ still u ∧ u.regs = s.regs) ∧
    (∀ older f newer, Arrives s n.val 2 ws → x.unacked = older ++ (h.ack, f) :: newer → (∀ g ∈ older, g.1 ≠ h.ack) →
      Ends (.ctrl n ws) s fun u => (∃ more, (lineOf u n.val).unacked = newer ++ more) ∧ still u ∧ u.regs = s.regs ∧ Silent s u) ∧
    (∀ older f newer, Arrives s n.val 3 ws → x.unacked = older ++ (h.ack, f) :: newer → (∀ g ∈ older, g.1 ≠ h.ack) →
      x.waiting = [] → Ends (.nack n ws) s fun u =>
        (lineOf u n.val).unacked = newer ∧ getF u p ZLNK.RESEND = min (getF s p ZLNK.RESEND + newer.length) (2 ^ 32 - 1) ∧
        RegsBut s u [regKey p ZLNK.RESEND.off] ∧ still u ∧ Silent s u) ∧
    (lineUp s n.val = true → Ends (.frameResendTimeout n) s fun u =>
      (lineOf u n.val).unacked = x.unacked ∧
      getF u p ZLNK.RESEND = min (getF s p ZLNK.RESEND + x.unacked.length) (2 ^ 32 - 1) ∧
      RegsBut s u [regKey p ZLNK.RESEND.off] ∧ still u ∧ Silent s u) ∧
    (lineUp s n.val = false → Ends (.frameResendTimeout n) s fun u => u = s) ∧
    (Arrives s n.val 7 ws → loadLink s n.val = true → Ends (.config n ws) s fun u =>
      u.loadBuf = s.loadBuf ++ wordBytes ((ws.drop 1).take 8) ∧ still u ∧ u.regs = s.regs) ∧
    (n.val ∈ memberLines s → x.only = false → flagF s p ZLNK.CTRL_CFGTX = false → Ends (.time n []) s fun u =>
      SentPlain s u n.val 4 ∧ ((lineOf u n.val).sent.drop 1).take 3 = [s.tb, w64 x.gotT3, w64 x.gotAt] ∧ still u ∧
      u.regs = s.regs) ∧
    (n.val ∉ memberLines s → Ends (.time n []) s fun u => u = s) ∧
    (Arrives s n.val 4 ws → wordAt ws 2 ≠ 0 → Ends (.time n ws) s fun u =>
      (lineOf u n.val).gotT3 = wordAt ws 1 ∧ (lineOf u n.val).gotAt = s.tb.toNat ∧ still u ∧
      ∃ o dly : Int, (2 * o - (away - back)).natAbs ≤ 1 ∧ (2 * dly - (away + back)).natAbs ≤ 1 ∧
        getF u d DSTR.TIME_OFS = satWord o ∧ getF u d DSTR.TIME_DLY = min (2 ^ 32 - 1) dly.toNat ∧
        (getF s d DSTR.TIME_CFG_SRC = 1 → uses = n.val → flagF s d DSTR.TIME_STAT_HOLD = false →
          (1000 ≤ o → u.tbStep = s.tbStep + o.natAbs) ∧
          (o < 1000 → u.tbStep = s.tbStep ∧
            (o.natAbs < 10 → getF u pgDCLK DCLK.TB_SLEW_EN = 0) ∧
            (10 ≤ o.natAbs → getF u pgDCLK DCLK.TB_SLEW_EN = 1 ∧ (flagF u pgDCLK DCLK.TB_SLEW_DIR = true ↔ o < 0) ∧
              getF u pgDCLK DCLK.TB_SLEW_PERIOD = max 100 (min 1048575 (10 ^ 7 / o.natAbs))))) ∧
        (getF s d DSTR.TIME_CFG_SRC ≠ 1 ∨ uses ≠ n.val → u.tbStep = s.tbStep ∧
          getF u pgDCLK DCLK.TB_SLEW_EN = getF s pgDCLK DCLK.TB_SLEW_EN)) ∧
    (lost → Ends .timeLost s fun u =>
      Reported s u d 0x4E 0 ∧ still u ∧
      (flagF s d DSTR.TIME_CFG_ALTEN = true → uses ≠ alt →
        getF u d DSTR.TIME_STAT_USING = alt ∧ flagF u d DSTR.TIME_STAT_HOLD = false) ∧
      (flagF s d DSTR.TIME_CFG_ALTEN = false ∨ uses = alt →
        flagF u d DSTR.TIME_STAT_HOLD = true ∧ getF u pgDCLK DCLK.TB_SLEW_EN = 0 ∧ getF u d DSTR.TIME_STAT_USING = uses)) ∧
    (¬lost → Ends .timeLost s fun u => u = s)

/-- Joining: HELLO carries and takes an ID, and one already held restricts the link; REQ asks, is granted the lowest free
number or refused by the head or the root, or goes on toward the head; GRANT and REFUSE end it or return the way the
request came; ANNOUNCE and MOVE set the route to a member; REJOIN, FREE_STRAND, FREE_MEMBER and JOIN_REQUEST_EXPIRY
(R405 to R410; which number a second request gets and how often an ANNOUNCE goes on are the choices of log 52). -/
def Obligations.JoiningAndIds : Prop :=
  ∀ (s : State) (n : Fin 6) (ws : List (BitVec 64)) (num : BitVec 12) (i : Fin 16),
    let d := pgDSTR
    let x := lineOf s n.val
    let nrh := (linkHdr (ws.headD 0)).nrh
    let rhs := (ws.drop 1).take nrh
    let w := wordAt ws (1 + nrh)
    let serial := wordAt ws (2 + nrh)
    let id := bitsOf w 59 42
    let head := bitsOf w 41 24
    let arg := bitsOf w 23 16
    let m := id % 64
    let comes := fun jt => Arrives s n.val 6 ws ∧ bitsOf w 63 60 = jt
    let mine := serial = ownSerial s ∧ ownId s = noId
    let still := fun (u : State) => u.mem = s.mem ∧ u.tiles = s.tiles
    let quiet := fun (u : State) => still u ∧ u.regs = s.regs ∧ Silent s u
    let known := flagF s d (DSTR.MEMBER_VALID m) = true
    let last := if ownId s / 64 = 4095 then 62 else 63
    let kept := fun (q : JoinReq) => s.strand.reqs.find? (fun q => q.serial == serial) = some q
    let free := fun k => 1 ≤ k ∧ k ≤ last ∧ look 0 s.strand.members k = 0 ∧ flagF s d (DSTR.MEMBER_VALID k) = false
    (x.hello = true → lineState s n.val = 2 → Ends (.hello n []) s fun u =>
      Queued u n.val (joinFrame 1 (ownId s) (headId s) 0 (ownSerial s) []) ∧ (lineOf u n.val).hello = false ∧ quiet u) ∧
    (x.hello = false ∨ lineState s n.val ≠ 2 → Ends (.hello n []) s fun u => u = s) ∧
    (comes 1 → Ends (.hello n ws) s fun u => getF u (pgZLNK n.val) ZLNK.PEER = id ∧ still u ∧
      (id = ownId s → id ≠ noId → (lineOf u n.val).only = true ∧ getF u d DSTR.JOIN_STAT_CODE = 0x57 ∧ Reported s u d 0x57 0) ∧
      (id = noId ∨ (id ≠ ownId s ∧ id / 64 ≠ ownId s / 64) →
        (lineOf u n.val).only = x.only ∧ Silent s u ∧ RegsBut s u [regKey (pgZLNK n.val) ZLNK.PEER.off])) ∧
    (ownId s = noId → getF s d DSTR.JOIN_STAT_STATE ≠ 3 → idMode s = 3 → n.val ∈ memberLines s → Ends (.req n []) s fun u =>
      Queued u n.val (joinFrame 2 noId 0 0 (ownSerial s) []) ∧ getF u d DSTR.JOIN_STAT_STATE = 1 ∧ still u ∧ Silent s u) ∧
    (∀ l, ownId s = noId → getF s d DSTR.JOIN_STAT_STATE ≠ 3 → idMode s = 2 → flagF s d DSTR.ID_CFG_SREQ = true →
      wayTo s 0 = .line l → Ends (.req n []) s fun u =>
        Queued u l (joinFrame 2 noId 0 1 (ownSerial s) [rhWord 0 noId 63]) ∧ getF u d DSTR.JOIN_STAT_STATE = 1 ∧ still u) ∧
    (ownId s ≠ noId ∨ getF s d DSTR.JOIN_STAT_STATE = 3 → Ends (.req n []) s fun u => u = s) ∧
    (comes 2 → arg ≠ 1 → isHead s = true → (∀ g ∈ s.strand.members, g.2 ≠ serial + 1) →
      (∀ k, free k → (∀ j, j < k → ¬free j) → Ends (.req n ws) s fun u =>
        Queued u n.val (joinFrame 3 (headId s + k) (headId s) 0 serial []) ∧ look 0 u.strand.members k = serial + 1 ∧
        (∀ l ∈ memberLines s, Queued u l (joinFrame 5 (headId s + k) (headId s) 1 serial [])) ∧
        flagF u d (DSTR.MEMBER_VALID k) = true ∧ getF u d (DSTR.MEMBER_LINK k) = n.val ∧ still u ∧ Silent s u) ∧
      ((∀ k, ¬free k) → Ends (.req n ws) s fun u =>
        Queued u n.val (joinFrame 4 noId (headId s) 0x6A serial []) ∧ u.strand = s.strand ∧ quiet u)) ∧
    (comes 2 → arg ≠ 1 → ownId s ≠ noId → isHead s = false → flagF s d (DSTR.MEMBER_VALID 0) = true →
      (∀ q ∈ s.strand.reqs, q.serial ≠ serial) → s.strand.reqs.length < 16 → Ends (.req n ws) s fun u =>
        Queued u (getF s d (DSTR.MEMBER_LINK 0)) (joinFrame 2 noId 0 0 serial []) ∧
        u.strand.reqs = s.strand.reqs ++ [⟨serial, n.val, s.age⟩] ∧ quiet u) ∧
    (∀ r more k, comes 2 → arg = 1 → ownId s ≠ noId → rhs = r :: more → isOwn s (rhDst r) = true → idMode s = 1 →
      (∀ g ∈ s.strand.strands, g.2 ≠ serial + 1) → 1 ≤ k → k ≤ 4095 → look 0 s.strand.strands k = 0 →
      (∀ j, 1 ≤ j → j < k → look 0 s.strand.strands j ≠ 0) → Ends (.req n ws) s fun u =>
        Queued u n.val (joinFrame 3 (64 * k) 0 0 serial []) ∧ look 0 u.strand.strands k = serial + 1 ∧ quiet u) ∧
    (comes 3 → mine → Ends (.grant n ws) s fun u =>
      ownId u = id ∧ getF u d DSTR.JOIN_STAT_STATE = 2 ∧ still u) ∧
    (∀ q, comes 3 → ¬mine → kept q → Ends (.grant n ws) s fun u => Queued u q.line (joinFrame 3 id head arg serial []) ∧ quiet u) ∧
    (comes 4 → mine → Ends (.refuse n ws) s fun u =>
      ownId u = noId ∧ getF u d DSTR.JOIN_STAT_STATE = 3 ∧ getF u d DSTR.JOIN_STAT_CODE = arg ∧ Reported s u d arg 0 ∧ still u) ∧
    (∀ q, comes 4 → ¬mine → kept q → Ends (.refuse n ws) s fun u => Queued u q.line (joinFrame 4 id head arg serial []) ∧ quiet u) ∧
    (ownId s ≠ noId → idMode s ≠ 3 → n.val ∈ memberLines s → Ends (.announce n []) s fun u =>
      Queued u n.val (joinFrame 5 (ownId s) (headId s) 1 (ownSerial s) []) ∧ quiet u) ∧
    (comes 5 → id / 64 = ownId s / 64 → id ≠ ownId s →
      (¬known ∨ arg < getF s d (DSTR.MEMBER_HOPS m) → Ends (.announce n ws) s fun u =>
        flagF u d (DSTR.MEMBER_VALID m) = true ∧ getF u d (DSTR.MEMBER_LINK m) = n.val ∧ getF u d (DSTR.MEMBER_HOPS m) = arg ∧
        (∀ l ∈ memberLines s, l ≠ n.val → Queued u l (joinFrame 5 id head (min 255 (arg + 1)) serial [])) ∧
        RegsBut s u [regKey d (DSTR.MEMBER_VALID m).off] ∧ still u ∧ Silent s u) ∧
      (known → getF s d (DSTR.MEMBER_HOPS m) ≤ arg → Ends (.announce n ws) s quiet)) ∧
    (comes 6 → id / 64 = ownId s / 64 → head ≠ ownId s → ¬known ∨ getF s d (DSTR.MEMBER_LINK m) ≠ n.val →
      Ends (.move n ws) s fun u =>
        flagF u d (DSTR.MEMBER_VALID m) = true ∧ getF u d (DSTR.MEMBER_LINK m) = n.val ∧
        (∀ l ∈ memberLines s, l ≠ n.val → Queued u l (joinFrame 6 id head 0 serial [])) ∧
        RegsBut s u [regKey d (DSTR.MEMBER_VALID m).off] ∧ still u ∧ Silent s u) ∧
    (Open s d → getF s d DSTR.JOIN_STAT_STATE = 3 → Ends .rejoin s fun u =>
      getF u d DSTR.JOIN_STAT_STATE = 1 ∧ OnlyRegs s u [regKey d DSTR.JOIN_STAT_STATE.off]) ∧
    (Open s d → getF s d DSTR.JOIN_STAT_STATE ≠ 3 → Ends .rejoin s fun u => u = s) ∧
    (Open s d → idMode s = 1 → Ends (.freeStrand num) s fun u =>
      look 0 u.strand.strands num.toNat = 0 ∧ (∀ k, k ≠ num.toNat → look 0 u.strand.strands k = look 0 s.strand.strands k) ∧
      u = { s with strand := { s.strand with strands := u.strand.strands } }) ∧
    (Open s d → idMode s ≠ 1 → Ends (.freeStrand num) s fun u => u = s) ∧
    (Open s d → isHead s = true → 1 ≤ num.toNat → num.toNat < 64 → Ends (.freeMember num) s fun u =>
      look 0 u.strand.members num.toNat = 0 ∧ flagF u d (DSTR.MEMBER_VALID num.toNat) = false ∧
      RegsBut s u [regKey d (DSTR.MEMBER_VALID num.toNat).off] ∧
      u = { s with strand := { s.strand with members := u.strand.members }, regs := u.regs }) ∧
    (Open s d → isHead s = false ∨ num.toNat = 0 ∨ 64 ≤ num.toNat → Ends (.freeMember num) s fun u => u = s) ∧
    (∀ q, s.strand.reqs[i.val]? = some q → q.at_ + 1000000 ≤ s.age → Ends (.joinRequestExpiry i) s fun u =>
      u = { s with strand := { s.strand with reqs := s.strand.reqs.eraseIdx i.val } }) ∧
    ((∀ q, s.strand.reqs[i.val]? = some q → s.age < q.at_ + 1000000) → Ends (.joinRequestExpiry i) s fun u => u = s)

/-- Ethernet: a received frame is dropped and counted, goes to the ring of its rule's entry as tokens, or finds no room;
ETH_TRANSMIT sends the oldest frame of the highest queue that may start; the gate schedule, SWAP and TS_ID; PORT_FAULT,
PORT_DOWN and PORT_UP; a bridge link's datagram, resend, idle CTRL and end (R416 to R423; logs 51 and 55). -/
def Obligations.EthernetAndBridges : Prop :=
  ∀ (s : State) (n : Fin 8) (f : List Byte) (br : Fin 16),
    let p := pgETHP n.val
    let st := portState s n.val
    let b := f.take (f.length - 4)
    let w := walk b
    let rx := fun (c : Fld) (u : State) => getF u p c = min (getF s p c + 1) (2 ^ 32 - 1)
    let whole := st = 2 ∧ 64 ≤ f.length ∧ f.drop (f.length - 4) = fcsOf b ∧ addressOk s n.val b = true
    let good := whole ∧ f.length ≤ getF s p ETHP.CFG_MAXLEN ∧ beAt b 12 2 ≠ 0x8808
    let plain := w.why = .done ∧ lengthsBad b w = false
    let rule := fun i => i < 32 ∧ ruleMatches s n.val i b w = true ∧ ∀ j, j < i → ruleMatches s n.val j b w = false
    let noExc := ∀ e, e < 32 → entEn s (ethKey n.val e) = true → entOutbound s (ethKey n.val e) = false →
      flagF s p (ETHP.EP_CTL_EXC e) = false
    let goes := fun q => ∃ x rest, ethQueue s n.val q = x :: rest ∧ mayStart s n.val q x.bytes.length = true
    let g := gateOf s n.val
    let cycle := max 1 (getF s p ETHP.GCL_CYCLE)
    let due := flagF s p ETHP.GCL_CTL_EN = true ∧ (if g.going then g.next else cycleFrom s n.val 0) ≤ s.tb.toNat
    let ended := g.going = true ∧ g.idx + 1 < g.active.length ∧ g.ends ≤ s.tb.toNat ∧ g.ends < g.next
    let l := 8 + br.val
    let bp := pgETHP (brPort s br.val)
    (st ≠ 2 → Ends (.ethReceive n f) s fun u => u = s) ∧
    (st = 2 → f.length < 5 ∨ f.drop (f.length - 4) ≠ fcsOf b → Ends (.ethReceive n f) s fun u =>
      rx ETHP.RX_FCS u ∧ OnlyRegs s u [regKey p ETHP.RX_FCS.off]) ∧
    (whole → getF s p ETHP.CFG_MAXLEN < f.length → Ends (.ethReceive n f) s fun u =>
      rx ETHP.RX_BIG u ∧ OnlyRegs s u [regKey p ETHP.RX_BIG.off]) ∧
    (whole → f.length ≤ getF s p ETHP.CFG_MAXLEN → beAt b 12 2 = 0x8808 → Ends (.ethReceive n f) s fun u =>
      rx ETHP.RX_DROP u ∧ OnlyRegs s u [regKey p ETHP.RX_DROP.off]) ∧
    (good → w.why = .tags ∨ w.why = .depth ∨ (plain ∧ ∀ i, i < 32 → ruleMatches s n.val i b w = false) → noExc →
      Ends (.ethReceive n f) s fun u => rx ETHP.RX_FRAMES u ∧ rx ETHP.RX_DEPTH u ∧
        OnlyRegs s u [regKey p ETHP.RX_FRAMES.off, regKey p ETHP.RX_DEPTH.off]) ∧
    (good → w.why = .done ∨ w.why = .short → lengthsBad b w = true → Ends (.ethReceive n f) s fun u =>
      rx ETHP.RX_LEN u ∧ Reported s u p 0x34 0 ∧
      OnlyRegsEvents s u [regKey p ETHP.RX_FRAMES.off, regKey p ETHP.RX_LEN.off]) ∧
    (∀ i, good → plain → rule i → getF s p (ETHP.RULE0_ACT i) = 0 ∨ getF s p (ETHP.RULE0_ACT i) = 3 →
      Ends (.ethReceive n f) s fun u => rx ETHP.RX_FRAMES u ∧ OnlyRegs s u [regKey p ETHP.RX_FRAMES.off]) ∧
    (∀ i, good → plain → rule i → getF s p (ETHP.RULE0_ACT i) = 1 →
      let key := ethKey n.val (getF s p (ETHP.RULE0_TARGET i))
      let m := (b.length + 3) / 4
      let room := entEn s key = true ∧ entOutbound s key = false ∧ m + 3 ≤ entRoom s key
      (room → f.length ≤ 9216 → Ends (.ethReceive n f) s fun u =>
        entSeq u key = (entSeq s key + m + 3) % 2 ^ 32 ∧
        memWord u (entSlot s key (entSeq s key)) = word b.length ∧
        (∀ j, j < m → memWord u (entSlot s key (entSeq s key + 3 + j)) = word (ofBytes ((b.drop (4 * j)).take 4))) ∧
        MemBut s u (entRing s key) (8 * entSize s key) ∧ u.tiles = s.tiles) ∧
      (¬room → f.length ≤ 9216 → Ends (.ethReceive n f) s fun u =>
        rx ETHP.RX_OVR u ∧ u.mem = s.mem ∧ u.tiles = s.tiles ∧
        (bitOf (getF s p HDR.EVT_EN) 0 = true → Reported s u p 0x6D 0) ∧
        (bitOf (getF s p HDR.EVT_EN) 0 = false → Silent s u))) ∧
    (st ≠ 2 ∨ (∀ q, q < 8 → ¬goes q) → Ends (.ethTransmit n) s fun u => u = s) ∧
    (∀ q x rest, st = 2 → q < 8 → goes q → (∀ q', q < q' → q' < 8 → ¬goes q') → ethQueue s n.val q = x :: rest →
      Ends (.ethTransmit n) s fun u => u.tiles = s.tiles ∧ u.mem = s.mem ∧
        (∃ more, ethQueue u n.val q = rest ++ more) ∧ getF u p ETHP.TX_FRAMES = min (getF s p ETHP.TX_FRAMES + 1) (2 ^ 32 - 1) ∧
        ∃ T e, e < 40 ∧ (T + 30) % 2 ^ 64 = (s.tb.toNat + e + getF s p ETHP.TS_ADJ_TXLAT) % 2 ^ 64 ∧
          look [] u.ethSent n.val = sentFrame x T ∧
          (x.tsMode ≠ 1 → look [] u.tsFifo n.val = look [] s.tsFifo n.val) ∧
          (x.tsMode = 1 → (look [] s.tsFifo n.val).length < 16 →
            look [] u.tsFifo n.val = look [] s.tsFifo n.val ++ [⟨x.stream, x.seq, T⟩])) ∧
    (due → Ends (.gateCycleStart n) s fun u =>
      let h := gateOf u n.val
      h.going = true ∧ h.idx = 0 ∧ s.tb.toNat < h.next ∧ (∃ k, h.next = gclBase s n.val + k * cycle) ∧
      (flagF s p ETHP.GCL_CTL_PEND = true → h.active = g.swap) ∧
      (flagF s p ETHP.GCL_CTL_PEND = false → g.active ≠ [] → h.active = g.active) ∧
      flagF u p ETHP.GCL_CTL_PEND = false ∧ u = { s with gates := u.gates, regs := u.regs } ∧
      RegsBut s u [regKey p ETHP.GCL_CTL_PEND.off]) ∧
    (¬due → Ends (.gateCycleStart n) s fun u => u = s) ∧
    (ended → Ends (.gateIntervalEnd n) s fun u =>
      gateOf u n.val = { g with idx := g.idx + 1, ends := g.ends + (g.active.getD (g.idx + 1) (0, 0)).2 } ∧
      u = { s with gates := u.gates }) ∧
    (¬ended → Ends (.gateIntervalEnd n) s fun u => u = s) ∧
    (Open s p →
      ((∃ e, e ≤ getF s p ETHP.GCL_CTL_LAST ∧ getF s p (ETHP.GCL1 e) < 100) → Ends (.swap n) s fun u =>
        Counted s u p ∧ OnlyRegs s u [regKey p HDR.ERR_COUNT.off]) ∧
      ((∀ e, e ≤ getF s p ETHP.GCL_CTL_LAST → 100 ≤ getF s p (ETHP.GCL1 e)) → Ends (.swap n) s fun u =>
        flagF u p ETHP.GCL_CTL_PEND = true ∧ (gateOf u n.val).active = g.active ∧
        (gateOf u n.val).swap.length = getF s p ETHP.GCL_CTL_LAST + 1 ∧
        (∀ e, e ≤ getF s p ETHP.GCL_CTL_LAST →
          (gateOf u n.val).swap.getD e (0, 0) = (getF s p (ETHP.GCL0 e), getF s p (ETHP.GCL1 e))))) ∧
    (∀ t rest, look [] s.tsFifo n.val = t :: rest → Ends (.tsId n) s fun u =>
      look [] u.tsFifo n.val = rest ∧ u.lastRead = toBytes 4 (word (2 ^ 31 + t.stream)).toNat ∧
      getF u p ETHP.TS_SEQ = t.seq % 2 ^ 32 ∧ getF u p ETHP.TS_LO = t.time % 2 ^ 32 ∧
      getF u p ETHP.TS_HI = t.time / 2 ^ 32 % 2 ^ 32 ∧ u.mem = s.mem ∧ Silent s u) ∧
    (look [] s.tsFifo n.val = [] → Ends (.tsId n) s fun u => u = { s with lastRead := [0, 0, 0, 0] }) ∧
    (st ≠ 3 → (activeAssayer s).isSome = true → Ends (.portFault n) s fun u =>
      portState u n.val = 3 ∧ Recorded s u p 0x2B 0 ∧ (∀ e, e < 32 → entEn u (ethKey n.val e) = false) ∧
      (∀ c, c < 16 → brEn s c = true → brPort s c = n.val → lineState s (8 + c) = 2 → lineState u (8 + c) = 4) ∧
      u.mem = s.mem ∧ u.tiles = s.tiles) ∧
    (st ≠ 3 → activeAssayer s = none → Ends (.portFault n) s fun u => Reported s u p 0x2B 0 ∧ OnlyRegsEvents s u []) ∧
    (st = 3 → Ends (.portFault n) s fun u => u = s) ∧
    (st = 2 → Ends (.portDown n) s fun u =>
      portState u n.val = 1 ∧ Reported s u p 0x4D 0 ∧ OnlyRegsEvents s u [regKey p ETHP.STAT.off]) ∧
    (st ≠ 2 → Ends (.portDown n) s fun u => u = s) ∧
    (s.outRel = true → st = 0 ∨ st = 1 → Ends (.portUp n) s fun u =>
      portState u n.val = 2 ∧ OnlyRegs s u [regKey p ETHP.STAT.off]) ∧
    (s.outRel = false ∨ 2 ≤ st → Ends (.portUp n) s fun u => u = s) ∧
    (brEn s br.val = false → Ends (.bridgeDatagram br f) s fun u => u = s) ∧
    (brEn s br.val = true → f.length % 8 ≠ 0 ∨ splitFrames 1200 (wordsOf 1200 f) = none → Ends (.bridgeDatagram br f) s fun u =>
      getF u bp ETHP.RX_LEN = min (getF s bp ETHP.RX_LEN + 1) (2 ^ 32 - 1) ∧ Reported s u bp 0x34 0 ∧
      OnlyRegsEvents s u [regKey bp ETHP.RX_LEN.off]) ∧
    (∀ ws, brEn s br.val = true → f.length % 8 = 0 → splitFrames 1200 (wordsOf 1200 f) = some [ws] →
      (linkHdr (ws.headD 0)).typ = 2 → Ends (.bridgeDatagram br f) s fun u =>
        lineState u l = 2 ∧ (lineState s l ≠ 2 → (lineOf u l).upAt = s.age) ∧ u.mem = s.mem ∧ u.tiles = s.tiles ∧ Silent s u) ∧
    (brEn s br.val = true → Ends (.bridgeResendTimeout br) s fun u =>
      (lineOf u l).unacked = (lineOf s l).unacked ∧ u.mem = s.mem ∧ u.tiles = s.tiles ∧
      getF u pgDSTR (DSTR.BR_RESEND br.val) =
        min (getF s pgDSTR (DSTR.BR_RESEND br.val) + (lineOf s l).unacked.length) (2 ^ 32 - 1)) ∧
    (brEn s br.val = false → Ends (.bridgeResendTimeout br) s fun u => u = s) ∧
    (brEn s br.val = true → s.outRel = true → Ends (.bridgeIdleCtrl br) s fun u =>
      SentPlain s u l 2 ∧ (lineOf u l).unacked = (lineOf s l).unacked ∧ u.mem = s.mem ∧ u.regs = s.regs) ∧
    (brEn s br.val = false ∨ s.outRel = false → Ends (.bridgeIdleCtrl br) s fun u => u = s) ∧
    (lineState s l = 2 → Ends (.bridgeDown br) s fun u =>
      lineState u l = 4 ∧ (lineOf u l).unacked = [] ∧ Reported s u pgDSTR 0x4D 0 ∧ u.mem = s.mem ∧ u.tiles = s.tiles) ∧
    (lineState s l ≠ 2 → Ends (.bridgeDown br) s fun u => u = s)

/-! ### Host port, module memory and maintenance port (chapter 14) -/

/-- The endpoint's link, its resets and its vectors: PCIE_LINK_TRAIN with the personality that holds, PERSONALITY_RETRAIN,
PCIE_PERST, HOT_RESET and FUNCTION_LEVEL_RESET with what a function reset does, PCIE_LANE_FAULT; SWVEC sets a software
vector pending and MSIX_MESSAGE sends an unmasked one; BACKGROUND_FILL and SCRUB (R429 to R431, R436, R437, R448, R449; that a hot
reset takes the link to Detect uncounted is the choice of log 56). -/
def Obligations.HostLinkAndResets : Prop :=
  ∀ (s : State) (low : Bool) (lane : Fin 8) (errs : BitVec 16) (w sp : Fin 4) (vec : BitVec 9) (v : Word),
    let p := pgHPCI
    let up := hostUp s = true
    let bad := getF s p HPCI.LINK_LANEBAD
    let state := fun (u : State) => getF u p HPCI.LINK_STATE
    let full := b2n (loadState s == 5)
    let reset := fun (u : State) =>
      u.host.table = [] ∧ u.host.unmasked = [] ∧ u.host.queue = s.host.queue.filter (fun q => !q.write) ∧
      u.mem = s.mem ∧ u.tiles = s.tiles ∧
      (∀ c, c < 32 → (chState s (512 + c) = 2 ∨ chState s (512 + c) = 3) →
        chState u (512 + c) = 3 ∧ (dmaOf u (512 + c)).code = 0x38 ∧ (dmaOf u (512 + c)).resetting = true) ∧
      (∀ c, c < 32 → chState s (512 + c) < 2 ∨ 4 < chState s (512 + c) → chState u (512 + c) = 0) ∧
      (∀ r n, r < 16 → n < 32 → getF s (pgRMEM r) (RMEM.LOCK_STATE n) = 1 → 0x200 ≤ getF s (pgRMEM r) (RMEM.LOCK_OWNER n) →
        getF s (pgRMEM r) (RMEM.LOCK_OWNER n) ≤ 0x220 → getF u (pgRMEM r) (RMEM.LOCK_STATE n) = 2) ∧
      (∀ k, k < 64 → entEn s (hostKey k) = true → (endOf u (hostKey k)).stall = true)
    let down := fun (u : State) => state u = 0 ∧ reset u ∧
      (up → getF u p HPCI.DOWNS = min (getF s p HPCI.DOWNS + 1) (2 ^ 32 - 1) ∧ Recorded s u p 0x4D 0)
    let may := state s = 0 ∧ s.host.perst = false ∧ s.host.dark ≤ s.age ∧ (loadState s = 5 ∨ s.host.hold ≤ s.age)
    let fits := fun n => (n = 1 ∨ n = 2 ∨ n = 4 ∨ n = 8) ∧ ∀ l, l < n → bitOf bad l = false
    let widest := fun n m => fits n ∧ n ≤ m ∧ ∀ k, fits k → k ≤ m → k ≤ n
    let sends := hostFull s = true ∧ look 0 s.vecPend vec.toNat = 1 ∧ look 0 s.host.unmasked vec.toNat = 1 ∧
      look 0 s.host.imod vec.toNat ≤ s.age
    let at_ := (look 0 s.host.table (4 * vec.toNat)).toNat / 4 * 4 + (look 0 s.host.table (4 * vec.toNat + 1)).toNat * 2 ^ 32
    (∀ n, may → widest n (2 ^ w.val) → Ends (.pcieLinkTrain w sp) s fun u =>
      state u = 2 ∧ getF u p HPCI.LINK_WIDTH = n ∧ getF u p HPCI.LINK_SPEED = sp.val + 1 ∧ getF u p HPCI.LINK_PERS = full ∧
      OnlyRegs s u [regKey p HPCI.LINK_STATE.off]) ∧
    (¬may ∨ bitOf bad 0 = true → Ends (.pcieLinkTrain w sp) s fun u => u = s) ∧
    (up → getF s p HPCI.LINK_PERS ≠ full → Ends .personalityRetrain s fun u =>
      down u ∧ u.host.dark = s.age + 200000 ∧ u.host.hold = s.age + 200000) ∧
    (¬up ∨ getF s p HPCI.LINK_PERS = full → Ends .personalityRetrain s fun u => u = s) ∧
    (low = true → Ends (.pciePerst low) s fun u => down u ∧ u.host.perst = true) ∧
    (low = false → Ends (.pciePerst low) s fun u => u = { s with host := { s.host with perst := false, hold := 0 } }) ∧
    (up → low = true → Ends (.hotReset low) s down) ∧
    (up → low = false → Ends (.hotReset low) s fun u => state u = 0 ∧ reset u ∧ getF u p HPCI.DOWNS = getF s p HPCI.DOWNS) ∧
    (¬up → Ends (.hotReset low) s fun u => u = s) ∧
    (up → Ends .functionLevelReset s fun u => state u = 2 ∧ reset u) ∧
    (¬up → Ends .functionLevelReset s fun u => u = s) ∧
    (up → 16 < errs.toNat → lane.val < getF s p HPCI.LINK_WIDTH → Ends (.pcieLaneFault lane errs) s fun u =>
      bitOf (getF u p HPCI.LINK_LANEBAD) lane.val = true ∧ u.host.aerCorr = s.host.aerCorr ||| 1 ∧ Recorded s u p 0x2A 0 ∧
      getF u p HPCI.RX_ERR = min (getF s p HPCI.RX_ERR + errs.toNat) (2 ^ 32 - 1) ∧ u.mem = s.mem ∧ u.tiles = s.tiles ∧
      (lane.val = 0 → state u = 0) ∧
      (lane.val ≠ 0 → bitOf bad 0 = false → state u = 2 ∧ getF u p HPCI.LINK_WIDTH ≤ lane.val)) ∧
    (¬up ∨ errs.toNat ≤ 16 ∨ getF s p HPCI.LINK_WIDTH ≤ lane.val → Ends (.pcieLaneFault lane errs) s fun u =>
      getF u p HPCI.RX_ERR = min (getF s p HPCI.RX_ERR + errs.toNat) (2 ^ 32 - 1) ∧ OnlyRegs s u [regKey p HPCI.RX_ERR.off]) ∧
    (sends → Ends (.msixMessage vec) s fun u =>
      hostBytes u at_ 4 = toBytes 4 (look 0 s.host.table (4 * vec.toNat + 2)).toNat ∧ look 0 u.vecPend vec.toNat = 0 ∧
      look 0 u.host.imod vec.toNat = s.age + 100 * getF s p HPCI.IMOD ∧
      (∀ a, a < at_ ∨ at_ + 4 ≤ a → look 0 u.hostMem a = look 0 s.hostMem a) ∧
      u = { s with hostMem := u.hostMem, vecPend := u.vecPend, host := { s.host with imod := u.host.imod } }) ∧
    (¬sends → Ends (.msixMessage vec) s fun u => u = s) ∧
    (Open s p → v.toNat % 512 < 400 → Ends (.swvec v) s fun u =>
      look 0 u.vecPend (112 + v.toNat % 512) = 1 ∧ u = { s with vecPend := u.vecPend } ∧
      ∀ k, k ≠ 112 + v.toNat % 512 → look 0 u.vecPend k = look 0 s.vecPend k) ∧
    (Open s p → 400 ≤ v.toNat % 512 → Ends (.swvec v) s fun u => Counted s u p ∧ OnlyRegs s u [regKey p HDR.ERR_COUNT.off]) ∧
    (loadState s = 5 → Ends .backgroundFill s fun u =>
      flagF u pgMEMC MEMC.STAT_INIT_DONE = true ∧ OnlyRegs s u [regKey pgMEMC MEMC.STAT_INIT_DONE.off]) ∧
    (loadState s ≠ 5 → Ends .backgroundFill s fun u => u = s) ∧
    (s.released = true → flagF s pgMEMC MEMC.SCRUB_EN = true → Ends .scrub s fun u =>
      let b := getF s pgMEMC MEMC.SCRUB_POS
      getF u pgMEMC MEMC.SCRUB_POS = (b + 1) % 2 ^ 29 ∧ u.mem = s.mem ∧ u.tiles = s.tiles ∧
      ∀ i, i < 8 → markAt s (64 * b + 8 * i) = .corr → look 0 u.wback (64 * b + 8 * i) = 1) ∧
    (s.released = false ∨ flagF s pgMEMC MEMC.SCRUB_EN = false → Ends .scrub s fun u => u = s)

/-- Host accesses and rings: BAR_WRITE and BAR_READ map their offset to a device address, go out in order under initiator
0x220, or are refused and recorded; CONFIG reaches its pages only; BAR4 is the MSI-X table; a request not supported; the
host's index writes, and a ring slot written with its index and vector (R428, R429, R432 to R435, R439 to R441). -/
def Obligations.HostAccessesAndRings : Prop :=
  ∀ (s : State) (a : BitVec 48) (be : BitVec 64) (d : List Byte) (ep : Bool) (n : Nat) (k : Fin 64) (v : Word),
    let p := pgHPCI
    let o := a.toNat
    let len := min n (64 - o % 64)
    let dev := fun (bar2 : Bool) =>
      if bar2 then (if bitOf o 35 then 0x1000000000 + bitsOf o 32 0 + bitsOf o 34 33 * 2 ^ 44 else bitsOf o 34 0)
      else 0x1200000000 + o % 2 ^ 24
    let bar := fun (bar2 : Bool) => if bar2 then (1 : Fin 3) else 0
    let reached := fun (bar2 : Bool) => hostUp s = true ∧
      if bar2 then flagF s p HPCI.LINK_PERS = true else flagF s p HPCI.LINK_PERS = true ∨ configReach o = true
    let wr := fun (bar2 : Bool) => (⟨true, bar2, dev bar2, 0, be.toNat, d, ep⟩ : BarReq)
    let rd := fun (bar2 : Bool) => (⟨false, bar2, dev bar2, len, 0, [], false⟩ : BarReq)
    let idle := s.host.queue = []
    let room := fun (w : Bool) => (freeTag s 0x220).isSome = true ∧
      localRoom s { blankPkt with flits := if w then 2 else 1, rtr := (initIf 0x220).1 } = true
    let sent := fun (u : State) (q : BarReq) => u.mem = s.mem ∧ u.regs = s.regs ∧
      ∃ x, Sends s u x ∧ x.cls = .req ∧ x.write = q.write ∧ x.addr = q.addr ∧ x.be = q.be ∧ x.data = q.data ∧
        x.poison = q.poison ∧ x.nbytes = q.nbytes ∧ x.src = 0x220
    let refused := fun (u : State) (q : BarReq) =>
      getF u p HPCI.LAST_ERR_CODE = barCode s q ∧ flagF u p HPCI.LAST_ERR_BAR = q.bar2 ∧
      getF u p HPCI.ERR_ADDR_LO = q.addr % 2 ^ 32 ∧ getF u p HPCI.ERR_ADDR_HI = q.addr / 2 ^ 32 % 65536 ∧ Counted s u p ∧
      Reported s u p (barCode s q) (addrDetail (barCode s q) q.addr) ∧ u.net = s.net ∧ u.mem = s.mem
    let ur := fun (u : State) => (∃ c, u.host.cpl = some c ∧ c.ur = true) ∧ u.host.aerUncorr = s.host.aerUncorr ||| 2 ^ 20 ∧
      u.net = s.net ∧ u.regs = s.regs ∧ u.mem = s.mem
    let word4 := fun j => o % 0x4000 / 64 * 16 + j
    let key := hostKey k.val
    let new := v.toNat % 65536
    let hidx := getE s key 0x18 15 0
    let didx := getE s key 0x14 15 0
    let keep := Open s p ∧ s.released = true
    (∀ bar2, reached bar2 → idle → barCode s (wr bar2) = 0 →
      (∀ x ∈ barWritesOut s, x = destOf (placeOf (dev bar2))) → room true →
      Ends (.barWrite (bar bar2) a be d ep) s fun u => sent u (wr bar2) ∧ u.host = s.host) ∧
    (∀ bar2, reached bar2 → idle → barCode s (wr bar2) = 0 → (∃ x ∈ barWritesOut s, x ≠ destOf (placeOf (dev bar2))) →
      Ends (.barWrite (bar bar2) a be d ep) s fun u => u = { s with host := { s.host with queue := [wr bar2] } }) ∧
    (∀ bar2, reached bar2 → idle → barCode s (wr bar2) ≠ 0 → Ends (.barWrite (bar bar2) a be d ep) s fun u =>
      refused u (wr bar2)) ∧
    (∀ bar2, reached bar2 → idle → barCode s (rd bar2) = 0 → barWritesOut s = [] → room false →
      Ends (.barRead (bar bar2) a n) s fun u => sent u (rd bar2) ∧ u.host = s.host) ∧
    (∀ bar2, reached bar2 → idle → barCode s (rd bar2) = 0 → barWritesOut s ≠ [] → Ends (.barRead (bar bar2) a n) s fun u =>
      u = { s with host := { s.host with queue := [rd bar2] } }) ∧
    (∀ bar2, reached bar2 → idle → barCode s (rd bar2) ≠ 0 → Ends (.barRead (bar bar2) a n) s fun u =>
      refused u (rd bar2) ∧ u.host.cpl = some ⟨dev bar2, false, false, List.replicate len 0⟩) ∧
    (hostUp s = true → flagF s p HPCI.LINK_PERS = false → configReach o = false →
      (Ends (.barWrite 0 a be d ep) s fun u => u = s) ∧
      (Ends (.barRead 0 a n) s fun u => u.host.cpl = some ⟨dev false, false, false, List.replicate len 0⟩ ∧ u.net = s.net ∧
        u.regs = s.regs)) ∧
    (hostUp s = true → flagF s p HPCI.LINK_PERS = false → Ends (.barWrite 1 a be d ep) s ur ∧ Ends (.barRead 1 a n) s ur) ∧
    (hostFull s = true → ∀ j, j < 16 → word4 j < 2048 → be.toNat / 2 ^ (4 * j) % 16 = 15 → Ends (.barWrite 2 a be d ep) s fun u =>
      bar4Word u (4 * word4 j) = (if word4 j % 4 = 3 then blockWord d (4 * j) &&& 1 else blockWord d (4 * j)) ∧
      u.mem = s.mem ∧ u.regs = s.regs ∧ u.net = s.net) ∧
    (hostFull s = true → Ends (.barRead 2 a n) s fun u => u.net = s.net ∧ u.regs = s.regs ∧
      ∃ c, u.host.cpl = some c ∧ c.ur = false ∧ (o % 4 = 0 → len = 4 → c.data = toBytes 4 (bar4Word s (o % 0x4000)).toNat)) ∧
    (hostUp s = false → ∀ b, (Ends (.barWrite b a be d ep) s fun u => u = s) ∧ Ends (.barRead b a n) s fun u => u = s) ∧
    (hostUp s = true → Ends .unsupportedRequest s ur) ∧
    (hostUp s = false → Ends .unsupportedRequest s fun u => u = s) ∧
    (keep → entOutbound s key = false → (new + 65536 - didx) % 65536 ≤ entSize s key →
      (entEn s key = false → Ends (.hidxInbound k v) s fun u => getE u key 0x18 15 0 = new ∧ (endOf u key).stall = false ∧
        u.mem = s.mem ∧ u.hostMem = s.hostMem) ∧
      (entEn s key = true → (new + 65536 - didx) % 65536 ≤ entRoom s key → Ends (.hidxInbound k v) s fun u =>
        getE u key 0x18 15 0 = new ∧ getE u key 0x14 15 0 = new ∧ MemBut s u (entRing s key) (8 * entSize s key) ∧
        u.tiles = s.tiles)) ∧
    (keep → entOutbound s key = false → entSize s key < (new + 65536 - didx) % 65536 → Ends (.hidxInbound k v) s fun u =>
      Counted s u p ∧ OnlyRegs s u [regKey p HDR.ERR_COUNT.off]) ∧
    (keep → entOutbound s key = true → (new + 65536 - hidx) % 65536 ≤ (didx + 65536 - hidx) % 65536 →
      Ends (.hidxOutbound k v) s fun u => getE u key 0x18 15 0 = new ∧ getE u key 0x14 15 0 = didx ∧
        (endOf u key).stall = false ∧ u.mem = s.mem ∧ u.hostMem = s.hostMem ∧ u.tiles = s.tiles) ∧
    (keep → entOutbound s key = true → (didx + 65536 - hidx) % 65536 < (new + 65536 - hidx) % 65536 →
      Ends (.hidxOutbound k v) s fun u => Counted s u p ∧ OnlyRegs s u [regKey p HDR.ERR_COUNT.off]) ∧
    (∀ t rest, hostFull s = true → s.released = true → (endOf s key).held = t :: rest → entEn s key = true →
      entOutbound s key = true → (endOf s key).stall = false → mayEmit s key 0 1 = 1 → Ends (.hostRingWrite k) s fun u =>
        (endOf u key).held = rest ∧ getE u key 0x14 15 0 = (didx + 1) % 65536 ∧
        hostBytes u (hostRing s key + 8 * (didx % entSize s key)) 8 = toBytes 8 (t.data.toNat + tagsOf t * 2 ^ 32) ∧
        hostBytes u (hostRing s key + 8 * entSize s key) 4 = toBytes 4 ((didx + 1) % 65536) ∧
        (getE s key 8 0 0 = 1 → look 0 u.vecPend (48 + k.val) = 1) ∧ u.mem = s.mem ∧ u.tiles = s.tiles) ∧
    (hostFull s = false ∨ s.released = false ∨ (endOf s key).held = [] ∨ (endOf s key).stall = true ∨ mayEmit s key 0 1 = 0 →
      Ends (.hostRingWrite k) s fun u => u = s)

/-- Maintenance frames are served under initiator 0x233: a bad one replies 0x30, STATUS replies the status word, READ and
WRITE access their words, and before RUN only three pages are reached; the UARTs, the SPI target with LOAD, RDSR and
MFRAME, the I²C target, controller transfers, and the JTAG instructions (R452 to R457; logs 65 and 67). -/
def Obligations.MaintenanceAndSerial : Prop :=
  ∀ (s : State) (i : Fin 4) (f d : List Byte) (m : Fin 2) (b : Byte) (v : Word) (now pre : BitVec 585),
    let p := pgMSER
    let cmd := (f.getD 0 0).toNat
    let a := ofBytes ((f.drop 2).take 6)
    let one := (f.getD 1 0).toNat = 1
    let takes := fun j => dieReset s = false ∧ servesFrames s j = true ∧ frameOf s j = [] ∧ f ≠ [] ∧
      (j < 2 → (frameBytes f).any (fun n => decide (n ≤ f.length)) = true)
    let reply := fun (u : State) (j code : Nat) (bs : List Byte) =>
      look [] u.ser.reply j = replyOf code bs ∧ frameOf u j = [] ∧ u.tiles = s.tiles
    let quiet := fun (u : State) => u.mem = s.mem ∧ u.regs = s.regs ∧ Silent s u
    let counts := fun (u : State) => Silent s u ∧
      ∀ k, (∀ r, r < 16 → k / 1024 ≠ pgRSTAT r) → look 0 u.regs k = look 0 s.regs k
    let st := loadState s
    let go := v ||| word (2 ^ 31)
    let rx := look [] s.ser.rx m.val
    let tx := look [] s.ser.tx m.val
    let mode := uartMode s m.val
    let src4 := loadSource s = 4
    let target := dieReset s = false ∧ flagF s p MSER.SPI_CFG_ROLE = false
    let ready := src4 ∧ (st = 1 ∨ st = 2)
    let pins := st = 6 ∨ st = 7
    let shifts := fun (u : State) (ir : Nat) => u = { s with ser := { s.ser with ir := ir } }
    (takes i.val → frameOk f = false →
      (cmd = 1 → Ends (.maintRead i f) s fun u => reply u i.val 0x30 [] ∧ quiet u) ∧
      (cmd = 2 → Ends (.maintWrite i f) s fun u => reply u i.val 0x30 [] ∧ quiet u) ∧
      (cmd = 4 → Ends (.maintStatus i f) s fun u => reply u i.val 0x30 [] ∧ quiet u)) ∧
    (takes i.val → frameOk f = true → cmd = 4 → Ends (.maintStatus i f) s fun u =>
      reply u i.val 0 (toBytes 4 (regAt s pgDCFG DCFG.STATUS_STATE.off).toNat) ∧ quiet u) ∧
    (takes i.val → frameOk f = true → maintLimited s = true →
      (∀ q x, placeOf (a / 4 * 4) = .page q x → q ≠ 2 ∧ q ≠ 3 ∧ q ≠ 0x11C) →
      let denied := fun (u : State) => reply u i.val 0x18 [] ∧ u.mem = s.mem ∧ Counted s u p ∧
        Reported s u p 0x18 (a / 4 * 4 % 2 ^ 32)
      (cmd = 1 → Ends (.maintRead i f) s denied) ∧ (cmd = 2 → one → Ends (.maintWrite i f) s denied)) ∧
    (takes i.val → frameOk f = true → one → a < 0x800000000 → a % 4 = 0 → maintCode s a = 0 →
      markAt s (wordKey a) = .clean →
      (cmd = 1 → Ends (.maintRead i f) s fun u => reply u i.val 0 (memBytes s a 4) ∧ u.mem = s.mem ∧ counts u) ∧
      (cmd = 2 → s.writesOpen = true → reservedFor s 0x233 (.lpddr (a / 64 * 64)) = false → Ends (.maintWrite i f) s fun u =>
        reply u i.val 0 [] ∧ memBytes u a 4 = (f.drop 8).take 4 ∧ MemBut s u a 4 ∧ counts u)) ∧
    (servesFrames s i.val = false ∨ cmd ≠ 1 → Ends (.maintRead i f) s fun u => u = s) ∧
    (servesFrames s i.val = false ∨ cmd ≠ 2 → Ends (.maintWrite i f) s fun u => u = s) ∧
    (servesFrames s i.val = false ∨ cmd ≠ 4 → Ends (.maintStatus i f) s fun u => u = s) ∧
    (dieReset s = false →
      (mode = 1 → rx.length < 64 → Ends (.uartReceive m b) s fun u => look [] u.ser.rx m.val = rx ++ [b] ∧ quiet u) ∧
      (mode = 1 → 64 ≤ rx.length → Ends (.uartReceive m b) s fun u => look [] u.ser.rx m.val = rx ∧
        getF u p (MSER.UART_STAT_OVR m.val) = min 255 (getF s p (MSER.UART_STAT_OVR m.val) + 1) ∧ Reported s u p 0x6D 0) ∧
      (mode = 2 → (frameOf s m.val).length < 11 → Ends (.uartReceive m b) s fun u =>
        frameOf u m.val = frameOf s m.val ++ [b] ∧ quiet u) ∧
      (mode = 0 ∨ mode = 3 → Ends (.uartReceive m b) s fun u => u = s)) ∧
    (Open s p →
      (mode = 1 → tx.length < 64 → Ends (.uartDataWrite m b) s fun u => look [] u.ser.tx m.val = tx ++ [b] ∧ quiet u) ∧
      (mode ≠ 1 ∨ 64 ≤ tx.length → Ends (.uartDataWrite m b) s fun u => u = s)) ∧
    (target → ready → Ends (.qload d) s fun u => u = { s with loadBuf := s.loadBuf ++ d.take 4096 }) ∧
    (target → src4 → st = 3 ∨ st = 4 → Ends (.qload d) s fun u =>
      loadState u = 6 ∧ getF u pgDCFG DCFG.STATUS_CODE = 0x7B ∧ flagF u pgDCFG DCFG.PINS_ERR = true) ∧
    (¬target ∨ ¬src4 ∨ st = 0 ∨ 5 ≤ st → Ends (.qload d) s fun u => u = s) ∧
    (target → Ends .rdsr s fun u => quiet u ∧ ∃ r : Byte, u.lastRead = [r] ∧ (r.getLsbD 0 = true ↔ ready) ∧
      (r.getLsbD 1 = true ↔ st = 6) ∧ (r.getLsbD 2 = true ↔ st = 5) ∧ r.toNat < 8) ∧
    (¬target → Ends .rdsr s fun u => u = s) ∧
    (target → f = [] → Ends (.mframe f) s fun u => quiet u ∧
      u.lastRead = if look [] s.ser.reply 2 = [] then [0xFF] else look [] s.ser.reply 2) ∧
    (target → takes 2 → frameOk f = false → Ends (.mframe f) s fun u => reply u 2 0x30 [] ∧ quiet u) ∧
    (¬target → Ends (.mframe f) s fun u => u = s) ∧
    (dieReset s = false → f = [] → Ends (.i2cTargetFrame f) s fun u => quiet u ∧
      u.lastRead = if look [] s.ser.reply 3 = [] then [0xFF] else look [] s.ser.reply 3) ∧
    (takes 3 → frameOk f = false → Ends (.i2cTargetFrame f) s fun u => reply u 3 0x30 [] ∧ quiet u) ∧
    (dieReset s = true → Ends (.i2cTargetFrame f) s fun u => u = s) ∧
    (Open s p →
      (s.ser.spiRun.isSome = true → Ends (.spiGo v) s fun u => Counted s u p ∧ OnlyRegs s u [regKey p HDR.ERR_COUNT.off]) ∧
      (s.ser.spiRun = none → flagF s p MSER.SPI_CFG_ROLE = true → Ends (.spiGo v) s fun u =>
        u = { s with ser := { s.ser with spiRun := some (go, s.age + spiTicks s go.toNat) } }) ∧
      (s.ser.spiRun = none → flagF s p MSER.SPI_CFG_ROLE = false → Ends (.spiGo v) s fun u => u = s) ∧
      (s.ser.i2cRun.isSome = true → Ends (.i2cGo v) s fun u => Counted s u p ∧ OnlyRegs s u [regKey p HDR.ERR_COUNT.off]) ∧
      (s.ser.i2cRun = none → Ends (.i2cGo v) s fun u =>
        u.ser = { s.ser with i2cRun := some (go, s.age + i2cTicks s go.toNat) } ∧
        flagF u p MSER.I2C_STAT_NACK = false ∧ RegsBut s u [regKey p MSER.I2C_STAT_NACK.off] ∧ u.mem = s.mem)) ∧
    (Ends .extest s fun u => shifts u (if pins then 0 else 0xFF)) ∧ (Ends .clamp s fun u => shifts u (if pins then 3 else 0xFF)) ∧
    (pins → Ends .extest s fun u => chainPins u = .boundary) ∧ (¬pins → Ends .clamp s fun u => chainPins u = .device) ∧
    (Ends .highz s fun u => shifts u 4 ∧ chainPins u = .highZ) ∧
    (Ends .bypass s fun u => shifts u 0xFF ∧ chainPins u = .device) ∧
    (Ends .idcode s fun u => u = { s with ser := { s.ser with ir := 2, dr := 0x096405B3 } }) ∧
    (Ends (.sample now pre) s fun u => u = { s with ser := { s.ser with ir := 1, captured := now, boundary := pre } }) ∧
    (∀ x rest, dieReset s = false → s.ser.tdo = x :: rest → Ends (.maint b) s fun u =>
      u.lastRead = [x] ∧ u.ser.tdo = rest ∧ u.ser.ir = 0x10 ∧ quiet u) ∧
    (dieReset s = false → s.ser.tdo = [] → (frameOf s 4).length < 11 → Ends (.maint b) s fun u =>
      u.lastRead = [0xFF] ∧ frameOf u 4 = frameOf s 4 ++ [b] ∧ u.ser.ir = 0x10 ∧ quiet u) ∧
    (dieReset s = true → Ends (.maint b) s fun u => u = s)

/-! ### Module power (chapter 15) -/

/-- UNDERVOLTAGE, OVERVOLTAGE, CURRENT_LIMIT and RAIL_OUT_OF_WINDOW start the power-fail sequence with their cause, an
assayer's rail takes that assayer's supply instead; POWER_FAIL puts PWR_GOOD low, resets the die and takes the rails off;
POWER_RESTART and INPUT_SWITCH_CLOSE power up again; SUPPLY_RANGE and THERMAL_LIMIT report once per excursion, and a region
at 115 °C for 100 µs ends in the power-fail sequence; PWR_GOOD_HELD_LOW holds the die in reset; ALERT_FORCE (R460, R461,
R463, R464, R469, R474, R480). -/
def Obligations.ModulePower : Prop :=
  ∀ (s : State) (k : Fin 29) (stby held v : Bool),
    let p := pgDPWR
    let x := s.power
    let cause := getF s p DPWR.OFF_CAUSE
    let can := (x.up = true ∨ x.rising = true) ∧ x.failing = false
    let off := x.up = false ∧ x.rising = false
    let fails := fun (u : State) (c : Nat) =>
      u = { s with power := { x with failing := true }, regs := u.regs } ∧ getF u p DPWR.OFF_CAUSE = c ∧
      RegsBut s u [regKey p DPWR.OFF_CAUSE.off]
    let rises := fun (u : State) =>
      u.power.rising = true ∧ u.power.stby = true ∧ u.power.switchOff = false ∧ (∀ j, j < 29 → phasesLost u j = 0) ∧
      getF u p DPWR.OFF_CAUSE = (if x.stby then cause else 0) ∧ u.mem = s.mem ∧ u.tiles = s.tiles
    let fresh := fun (u : State) => loadState u = 0 ∧ u.mem = [] ∧ u.tiles = [] ∧ u.evq = [] ∧ u.tb = 0 ∧ u.outRel = false ∧
      u.released = false ∧ u.hostMem = s.hostMem ∧ u.flash.bytes = s.flash.bytes
    let temp := fun r => sext 16 (getF s (pgRCLK r) RCLK.TEMP)
    let tlim := 16 * (getF s p DPWR.GOV_CFG_TLIM : Int)
    let plate := sext 16 (getF s p DPWR.PLATE)
    let plateOver := 85 * 16 < plate ∧ x.plateHot = false
    let hot := fun r => r < 16 ∧ s.released = true ∧ tlim ≤ temp r ∧ bitOf x.hot r = false
    let burns := fun r => r < 16 ∧ 115 * 16 ≤ temp r ∧ look 0 x.hotSince r ≠ 0 ∧ look 0 x.hotSince r - 1 + 10000 ≤ s.age
    (can → Ends .undervoltage s (fun u => fails u 1) ∧ Ends .overvoltage s (fun u => fails u 2) ∧
      Ends .currentLimit s fun u => fails u 3) ∧
    (¬can → Ends .undervoltage s (fun u => u = s) ∧ Ends .overvoltage s (fun u => u = s) ∧ Ends .currentLimit s fun u => u = s) ∧
    (x.up = true → k.val = 2 ∨ k.val = 3 → Ends (.railOutOfWindow k) s fun u =>
      getF u p (DPWR.RAIL_STAT_INWIN k.val) = 0 ∧ bitOf u.recov.dead (k.val - 2) = true ∧ u.power = x ∧
      (if k.val = 2 then u.recov.lineA else u.recov.lineB) = true ∧ u.mem = s.mem ∧ u.tiles = s.tiles) ∧
    (x.up = true → k.val ≠ 2 → k.val ≠ 3 → Ends (.railOutOfWindow k) s fun u =>
      getF u p (DPWR.RAIL_STAT_INWIN k.val) = 0 ∧ u.power.failing = true ∧
      getF u p DPWR.OFF_CAUSE = (if x.failing then cause else 5) ∧ u.mem = s.mem ∧ u.tiles = s.tiles) ∧
    (x.up = false → Ends (.railOutOfWindow k) s fun u => u = s) ∧
    (x.failing = true → Ends (.powerFail stby) s fun u =>
      fresh u ∧ dieReset u = true ∧ u.power.up = false ∧ u.power.rising = false ∧ u.power.failing = false ∧
      u.power.stby = stby ∧ u.power.switchOff = decide (cause = 2) ∧
      (∀ j, j < 29 → (getF u p (DPWR.RAIL_STAT_INWIN j) = 1 ↔ stby = true ∧ j = 1)) ∧
      (canon 0 s.regs = true → getF u p DPWR.OFF_CAUSE = cause)) ∧
    (x.failing = false → Ends (.powerFail stby) s fun u => u = s) ∧
    (let cleared := cause = 3 ∨ cause = 5 ∨ (cause = 4 ∧ plate ≤ 80 * 16)
     (off → 100000000 ≤ s.age → cleared → Ends .powerRestart s rises) ∧
     (¬off ∨ s.age < 100000000 ∨ ¬cleared → Ends .powerRestart s fun u => u = s)) ∧
    (off → x.switchOff = true → Ends .inputSwitchClose s rises) ∧
    (¬off ∨ x.switchOff = false → Ends .inputSwitchClose s fun u => u = s) ∧
    (x.up = true → x.supplyOut = false → Ends .supplyRange s fun u =>
      Recorded s u p 0x61 0 ∧ u.power = { x with supplyOut := true } ∧ u.mem = s.mem ∧ u.tiles = s.tiles ∧
      (activeAssayer s = none → RegsBut s u [regKey pgDEVT DEVT.LOST.off]) ∧
      ((activeAssayer s).isSome = true → flagF u pgDRCV DRCV.STATE_OUTSIDE = true)) ∧
    (x.up = false ∨ x.supplyOut = true → Ends .supplyRange s fun u => u = s) ∧
    (x.up = true → Ends .thermalLimit s fun u => u.mem = s.mem ∧ u.tiles = s.tiles ∧
      (plateOver → flagF u p DPWR.ALERT_THERMAL = true ∧ u.power.plateHot = true ∧ Recorded s u p 0x60 0xFF) ∧
      (∀ r, hot r → bitOf u.power.hot r = true ∧ Filed s u p 0x60 r) ∧
      ((∃ r, burns r) → u.power.failing = true ∧ getF u p DPWR.OFF_CAUSE = (if x.failing then cause else 4)) ∧
      ((∀ r, ¬burns r) → u.power.failing = x.failing ∧ getF u p DPWR.OFF_CAUSE = cause) ∧
      (¬plateOver → (∀ r, ¬hot r) → (∀ r, ¬burns r) → u = s)) ∧
    (x.up = false → Ends .thermalLimit s fun u => u = s) ∧
    (held = true → Ends (.pwrGoodHeldLow held) s fun u => fresh u ∧ dieReset u = true ∧ u.power.heldLow = true) ∧
    (held = false → Ends (.pwrGoodHeldLow held) s fun u => u = { s with power := { x with heldLow := false } }) ∧
    (Open s p → Ends (.alertForce v) s fun u =>
      flagF u p DPWR.ALERT_FORCE = v ∧ (v = true → alertAsserted u = true) ∧
      (∀ b, b ≠ 4 → bitOf (regAt u p DPWR.ALERT_FORCE.off).toNat b = bitOf (regAt s p DPWR.ALERT_FORCE.off).toNat b) ∧
      OnlyRegs s u [regKey p DPWR.ALERT_FORCE.off])

/-- GOVERNOR_INTERVAL takes the measured values; above P_lim it steps one wave down: at most 16 unpinned islands, not at
DIV8, of the highest frequency, the highest tile numbers first; ten calm intervals reverse the wave stepped last.
POWER_LIMIT reports 1 ms of excess with no island left to step (R244, R247, R248, R465 to R468; islands step only once released, log 57; a switch that R244
refuses leaves its count, log 21). -/
def Obligations.PowerGovernor : Prop :=
  ∀ (s : State) (vin iin : BitVec 16) (pin : BitVec 20) (field plate : BitVec 16) (amps temps : List (BitVec 16)),
    let p := pgDPWR
    let after := fun (post : State → Prop) => Ends (.governorInterval vin iin pin field plate amps temps) s post
    let due := s.power.up = true ∧ s.power.govNext ≤ s.age
    let lim := powerLimit s vin.toNat
    let hyst := 1000 * max 1 (getF s p DPWR.GOV_CFG_HYST)
    let tlim := 16 * (getF s p DPWR.GOV_CFG_TLIM : Int)
    let temp := fun r => sext 16 (measured temps r)
    let weak := fun r => 2 ≤ phasesLost s (13 + r)
    let cool := ∀ r, r < 16 → temp r < tlim ∧ (weak r → measured amps (13 + r) ≤ 2700)
    let calm := pin.toNat + hyst ≤ lim ∧ ∀ r, r < 16 → temp r + 80 ≤ tlim ∧ (weak r → measured amps (13 + r) + 200 ≤ 2700)
    let takes := fun (u : State) => getF u p DPWR.VIN = vin.toNat ∧ getF u p DPWR.IIN = iin.toNat ∧
      getF u p DPWR.PIN = pin.toNat ∧ getF u p DPWR.FIELD = field.toNat ∧ getF u p DPWR.PLATE = plate.toNat ∧
      (∀ r, r < 16 → getF u (pgRCLK r) RCLK.TEMP = measured temps r) ∧
      (∀ k, k < 29 → getF u p (DPWR.RAIL_STAT_MA k) = measured amps k) ∧ u.power.govNext = s.age + 1000 ∧
      u.mem = s.mem ∧ u.tiles = s.tiles
    let able := fun t => t < 256 ∧ clkPinned s t = false ∧ baseDiv s t + clkSteps s t < 5 ∧ tileRetired s t = false
    let free := fun t => able t ∧ tileGated s t = false
    let g := look 0 s.govG
    let goal := fun (t d : Nat) => clkTarget { s with govG := put 0 s.govG t d } t
    let barred := fun (t d : Nat) => !(clkPinned s t) && clkRefused s t (goal t d).src (goal t d).div
    (due → s.released = false → after fun u => takes u ∧ Silent s u ∧ u.govG = s.govG ∧ u.clkSw = s.clkSw) ∧
    (due → s.released = true → cool → lim < pin.toNat → (∃ t, free t) → after fun u => takes u ∧
      ∃ w, u.power.waves = w :: s.power.waves ∧ w.length ≤ 16 ∧ w ≠ [] ∧ w.Nodup ∧ (∀ t ∈ w, free t) ∧
        (∀ t ∈ w, ∀ t', free t' → islandSpeed s t' ≤ islandSpeed s t ∧
          (islandSpeed s t' = islandSpeed s t → t' ∉ w → w.length = 16 ∧ t' < t)) ∧
        (∀ t, look 0 u.govG t = if t ∈ w ∧ barred t (g t + 1) = false then g t + 1 else g t) ∧
        (∀ t ∈ w, barred t (g t + 1) = false → clkSwitchOf u t = goal t (g t + 1) ∧ tileGated u t = true) ∧
        getF u p DPWR.GOV_STEPS = min (getF s p DPWR.GOV_STEPS + w.length) (2 ^ 32 - 1) ∧
        u.power.calm = 0 ∧
        ((∃ t ∈ w, barred t (g t + 1) = false) → flagF u p DPWR.GOV_STAT_ACTIVE = true)) ∧
    (due → s.released = true → cool → lim < pin.toNat → (∀ t, ¬able t) → after fun u => takes u ∧
      u.govG = s.govG ∧ u.power.full = (match s.power.full with | some a => some a | none => some s.age)) ∧
    (due → s.released = true → cool → pin.toNat ≤ lim → ¬calm → after fun u => takes u ∧
      u.govG = s.govG ∧ u.power.waves = s.power.waves ∧ u.power.calm = 0 ∧ flagF u p DPWR.GOV_STAT_EXHAUST = false ∧
      (activeAssayer s = none → Silent s u)) ∧
    (due → s.released = true → calm → s.power.calm < 9 → after fun u => takes u ∧
      u.govG = s.govG ∧ u.power.calm = s.power.calm + 1) ∧
    (∀ w ws, due → s.released = true → calm → 9 ≤ s.power.calm → s.power.waves = w :: ws → w.Nodup → after fun u =>
      takes u ∧ u.power.waves = ws ∧ u.power.calm = 0 ∧
      ∀ t, look 0 u.govG t = if t ∈ w ∧ barred t (g t - 1) = false then g t - 1 else g t) ∧
    (¬due → after fun u => u = s) ∧
    (capWatts s = 125 → powerLimit s 6000 = 72000 ∧ powerLimit s 12000 = 98500 ∧ powerLimit s 18000 = 125000) ∧
    (capWatts s ≤ 125) ∧ (2 ≤ phasesLost s 0 → capWatts s ≤ 96) ∧
    (∀ a, s.power.full = some a → a + 100000 ≤ s.age → flagF s p DPWR.GOV_STAT_EXHAUST = false → Ends .powerLimit s fun u =>
      flagF u p DPWR.GOV_STAT_EXHAUST = true ∧ flagF u p DPWR.ALERT_EXHAUST = true ∧ alertAsserted u = true ∧
      Reported s u p 0x6F 0 ∧
      OnlyRegsEvents s u [regKey p DPWR.GOV_STAT_EXHAUST.off, regKey p DPWR.ALERT_EXHAUST.off]) ∧
    (s.power.full = none ∨ flagF s p DPWR.GOV_STAT_EXHAUST = true → Ends .powerLimit s fun u => u = s)
end

