-- ==== Sys2Proof/Laws/Sparse.lean ====
section
/-! SUPPORT. Sparse tables: reading after writing, on any table; writing keeps the canonical form. -/

namespace Sys2Proof.Machine
open Sys2Proof

theorem look_drop {α : Type} (d : α) (m : SMap α) (k j : Nat) : look d (drop m k) j = if j = k then d else look d m j := by
  induction m with
  | nil => simp [drop, look]
  | cons x m ih =>
    obtain ⟨i, b⟩ := x
    simp only [drop] at ih
    by_cases h : i = k
    · subst h; simp only [drop, List.filter, bne_self_eq_false, look, ih]; split
      · rfl
      · rw [if_neg (by omega)]
    · simp only [drop, List.filter, bne_iff_ne.2 h, look, ih]; split
      · rw [if_neg (by omega)]
      · rfl

theorem look_enter {α : Type} (d : α) (m : SMap α) (k j : Nat) (a : α) (h : look d m k = d ∧ ∀ x ∈ m, x.1 ≠ k) :
    look d (enter k a m) j = if j = k then a else look d m j := by
  induction m with
  | nil => simp only [enter, look, eq_comm]
  | cons x m ih =>
    obtain ⟨i, b⟩ := x
    have hi : i ≠ k := h.2 _ List.mem_cons_self
    unfold enter
    split
    · simp only [look, eq_comm]
    · have := ih ⟨by simpa [look, hi] using h.1, fun y hy => h.2 y (List.mem_cons_of_mem _ hy)⟩
      simp only [look, this]
      by_cases e : i = j
      · subst e; simp [hi]
      · simp [e]

/-- Reading a key after writing one. -/
theorem look_put {α : Type} [DecidableEq α] (d : α) (m : SMap α) (k j : Nat) (a : α) :
    look d (put d m k a) j = if j = k then a else look d m j := by
  unfold put
  split
  · rename_i e; rw [look_drop, e]
  · rw [look_enter, look_drop]
    · split <;> rfl
    · exact ⟨by simp [look_drop], fun x hx => by simpa using (List.mem_filter.1 hx).2⟩

@[simp] theorem look_put_self {α : Type} [DecidableEq α] (d : α) (m : SMap α) (k : Nat) (a : α) :
    look d (put d m k a) k = a := by simp [look_put]

theorem look_put_of_ne {α : Type} [DecidableEq α] (d : α) (m : SMap α) {k j : Nat} (a : α) (h : j ≠ k) :
    look d (put d m k a) j = look d m j := by simp [look_put, h]

/-- A key above the bound. -/
def aboveLo (lo : Option Nat) (j : Nat) : Prop := ∀ l, lo = some l → l < j

theorem canonFrom_cons {α : Type} [DecidableEq α] (d : α) (lo : Option Nat) (j : Nat) (a : α) (m : SMap α) :
    canonFrom d lo ((j, a) :: m) = true ↔ aboveLo lo j ∧ a ≠ d ∧ canonFrom d (some j) m = true := by
  cases lo <;> simp [canonFrom, aboveLo, and_assoc]

theorem canonFrom_weaken {α : Type} [DecidableEq α] {d : α} {m : SMap α} {lo : Option Nat} {k : Nat}
    (h : canonFrom d (some k) m = true) (hl : ∀ l, lo = some l → l ≤ k) : canonFrom d lo m = true := by
  cases m with
  | nil => rfl
  | cons x m =>
    obtain ⟨j, a⟩ := x
    rw [canonFrom_cons] at h ⊢
    exact ⟨fun l e => Nat.lt_of_le_of_lt (hl l e) (h.1 k rfl), h.2⟩

/-- Leaving entries out keeps the canonical form. -/
theorem canonFrom_filter {α : Type} [DecidableEq α] {d : α} {m : SMap α} {lo : Option Nat} (q : Nat × α → Bool)
    (h : canonFrom d lo m = true) : canonFrom d lo (m.filter q) = true := by
  induction m generalizing lo with
  | nil => exact h
  | cons x m ih =>
    obtain ⟨j, a⟩ := x
    have hb := (canonFrom_cons ..).1 h
    simp only [List.filter]
    split
    · exact (canonFrom_cons ..).2 ⟨hb.1, hb.2.1, ih hb.2.2⟩
    · exact canonFrom_weaken (ih hb.2.2) fun l e => Nat.le_of_lt (hb.1 l e)

theorem canon_filter {α : Type} [DecidableEq α] {d : α} {m : SMap α} (q : Nat × α → Bool) (h : canon d m = true) :
    canon d (m.filter q) = true := canonFrom_filter q h

theorem canonFrom_enter {α : Type} [DecidableEq α] {d : α} {m : SMap α} {lo : Option Nat} {k : Nat} {a : α} (ha : a ≠ d)
    (h : canonFrom d lo m = true) (hm : ∀ x ∈ m, x.1 ≠ k) (hk : aboveLo lo k) : canonFrom d lo (enter k a m) = true := by
  induction m generalizing lo with
  | nil => exact (canonFrom_cons ..).2 ⟨hk, ha, rfl⟩
  | cons x m ih =>
    obtain ⟨j, b⟩ := x
    have hb := (canonFrom_cons ..).1 h
    have hj : j ≠ k := hm _ List.mem_cons_self
    unfold enter
    split
    · rename_i l
      exact (canonFrom_cons ..).2 ⟨hk, ha, (canonFrom_cons ..).2 ⟨fun q e => by cases e; exact l, hb.2⟩⟩
    · exact (canonFrom_cons ..).2 ⟨hb.1, hb.2.1, ih hb.2.2 (fun y hy => hm y (List.mem_cons_of_mem _ hy))
        fun q e => by cases e; omega⟩

/-- Writing a key keeps the canonical form. -/
theorem canon_put {α : Type} [DecidableEq α] {d : α} {m : SMap α} (k : Nat) (a : α) (h : canon d m = true) :
    canon d (put d m k a) = true := by
  unfold put
  split
  · exact canon_filter _ h
  · rename_i ha
    exact canonFrom_enter ha (canon_filter _ h) (fun x hx => by simpa using (List.mem_filter.1 hx).2) fun _ e => by cases e

end Sys2Proof.Machine
end

