-- ==== Sys2Proof/Laws/State.lean ====
section
/-! SUPPORT. What every update of the state leaves as it was: one lemma for each field and update. -/

namespace Sys2Proof.Machine
open Sys2Proof

variable (s : State)

/-! A register write: `setRegAt` changes `regs` alone. -/

section
variable (p off : Nat) (w : Word)
@[simp] theorem setRegAt_pending : (setRegAt s p off w).pending = s.pending := rfl
@[simp] theorem setRegAt_free : (setRegAt s p off w).free = s.free := rfl
@[simp] theorem setRegAt_tb : (setRegAt s p off w).tb = s.tb := rfl
@[simp] theorem setRegAt_ticks : (setRegAt s p off w).ticks = s.ticks := rfl
@[simp] theorem setRegAt_tbStep : (setRegAt s p off w).tbStep = s.tbStep := rfl
@[simp] theorem setRegAt_tbPast : (setRegAt s p off w).tbPast = s.tbPast := rfl
@[simp] theorem setRegAt_timeSeen : (setRegAt s p off w).timeSeen = s.timeSeen := rfl
@[simp] theorem setRegAt_age : (setRegAt s p off w).age = s.age := rfl
@[simp] theorem setRegAt_released : (setRegAt s p off w).released = s.released := rfl
@[simp] theorem setRegAt_outRel : (setRegAt s p off w).outRel = s.outRel := rfl
@[simp] theorem setRegAt_wide : (setRegAt s p off w).wide = s.wide := rfl
@[simp] theorem setRegAt_mem : (setRegAt s p off w).mem = s.mem := rfl
@[simp] theorem setRegAt_marks : (setRegAt s p off w).marks = s.marks := rfl
@[simp] theorem setRegAt_wback : (setRegAt s p off w).wback = s.wback := rfl
@[simp] theorem setRegAt_cyc : (setRegAt s p off w).cyc = s.cyc := rfl
@[simp] theorem setRegAt_hostMem : (setRegAt s p off w).hostMem = s.hostMem := rfl
@[simp] theorem setRegAt_tiles : (setRegAt s p off w).tiles = s.tiles := rfl
@[simp] theorem setRegAt_prot : (setRegAt s p off w).prot = s.prot := rfl
@[simp] theorem setRegAt_rj : (setRegAt s p off w).rj = s.rj := rfl
@[simp] theorem setRegAt_lockets : (setRegAt s p off w).lockets = s.lockets := rfl
@[simp] theorem setRegAt_lockHid : (setRegAt s p off w).lockHid = s.lockHid := rfl
@[simp] theorem setRegAt_nextEpoch : (setRegAt s p off w).nextEpoch = s.nextEpoch := rfl
@[simp] theorem setRegAt_mirrorAt : (setRegAt s p off w).mirrorAt = s.mirrorAt := rfl
@[simp] theorem setRegAt_clasps : (setRegAt s p off w).clasps = s.clasps := rfl
@[simp] theorem setRegAt_portOut : (setRegAt s p off w).portOut = s.portOut := rfl
@[simp] theorem setRegAt_clkSw : (setRegAt s p off w).clkSw = s.clkSw := rfl
@[simp] theorem setRegAt_govG : (setRegAt s p off w).govG = s.govG := rfl
@[simp] theorem setRegAt_coolA : (setRegAt s p off w).coolA = s.coolA := rfl
@[simp] theorem setRegAt_bezelTemp : (setRegAt s p off w).bezelTemp = s.bezelTemp := rfl
@[simp] theorem setRegAt_trims : (setRegAt s p off w).trims = s.trims := rfl
@[simp] theorem setRegAt_railsGo : (setRegAt s p off w).railsGo = s.railsGo := rfl
@[simp] theorem setRegAt_pwrTo : (setRegAt s p off w).pwrTo = s.pwrTo := rfl
@[simp] theorem setRegAt_pwrQ : (setRegAt s p off w).pwrQ = s.pwrQ := rfl
@[simp] theorem setRegAt_polish : (setRegAt s p off w).polish = s.polish := rfl
@[simp] theorem setRegAt_spareCopy : (setRegAt s p off w).spareCopy = s.spareCopy := rfl
@[simp] theorem setRegAt_lastRead : (setRegAt s p off w).lastRead = s.lastRead := rfl
@[simp] theorem setRegAt_net : (setRegAt s p off w).net = s.net := rfl
@[simp] theorem setRegAt_txns : (setRegAt s p off w).txns = s.txns := rfl
@[simp] theorem setRegAt_ends : (setRegAt s p off w).ends = s.ends := rfl
@[simp] theorem setRegAt_fails : (setRegAt s p off w).fails = s.fails := rfl
@[simp] theorem setRegAt_retry : (setRegAt s p off w).retry = s.retry := rfl
@[simp] theorem setRegAt_detour : (setRegAt s p off w).detour = s.detour := rfl
@[simp] theorem setRegAt_rr : (setRegAt s p off w).rr = s.rr := rfl
@[simp] theorem setRegAt_dma : (setRegAt s p off w).dma = s.dma := rfl
@[simp] theorem setRegAt_dmaRr : (setRegAt s p off w).dmaRr = s.dmaRr := rfl
@[simp] theorem setRegAt_zsend : (setRegAt s p off w).zsend = s.zsend := rfl
@[simp] theorem setRegAt_vecPend : (setRegAt s p off w).vecPend = s.vecPend := rfl
@[simp] theorem setRegAt_lines : (setRegAt s p off w).lines = s.lines := rfl
@[simp] theorem setRegAt_ethQ : (setRegAt s p off w).ethQ = s.ethQ := rfl
@[simp] theorem setRegAt_tsFifo : (setRegAt s p off w).tsFifo = s.tsFifo := rfl
@[simp] theorem setRegAt_mirror : (setRegAt s p off w).mirror = s.mirror := rfl
@[simp] theorem setRegAt_strand : (setRegAt s p off w).strand = s.strand := rfl
@[simp] theorem setRegAt_gates : (setRegAt s p off w).gates = s.gates := rfl
@[simp] theorem setRegAt_ethSent : (setRegAt s p off w).ethSent = s.ethSent := rfl
@[simp] theorem setRegAt_loadBuf : (setRegAt s p off w).loadBuf = s.loadBuf := rfl
@[simp] theorem setRegAt_routes : (setRegAt s p off w).routes = s.routes := rfl
@[simp] theorem setRegAt_writesOpen : (setRegAt s p off w).writesOpen = s.writesOpen := rfl
@[simp] theorem setRegAt_heldW : (setRegAt s p off w).heldW = s.heldW := rfl
@[simp] theorem setRegAt_arrivals : (setRegAt s p off w).arrivals = s.arrivals := rfl
@[simp] theorem setRegAt_bezel : (setRegAt s p off w).bezel = s.bezel := rfl
@[simp] theorem setRegAt_dacs : (setRegAt s p off w).dacs = s.dacs := rfl
@[simp] theorem setRegAt_adcFly : (setRegAt s p off w).adcFly = s.adcFly := rfl
@[simp] theorem setRegAt_adcVal : (setRegAt s p off w).adcVal = s.adcVal := rfl
@[simp] theorem setRegAt_adcNext : (setRegAt s p off w).adcNext = s.adcNext := rfl
@[simp] theorem setRegAt_diQ : (setRegAt s p off w).diQ = s.diQ := rfl
@[simp] theorem setRegAt_loupe : (setRegAt s p off w).loupe = s.loupe := rfl
@[simp] theorem setRegAt_host : (setRegAt s p off w).host = s.host := rfl
@[simp] theorem setRegAt_ser : (setRegAt s p off w).ser = s.ser := rfl
@[simp] theorem setRegAt_power : (setRegAt s p off w).power = s.power := rfl
@[simp] theorem setRegAt_flash : (setRegAt s p off w).flash = s.flash := rfl
@[simp] theorem setRegAt_load : (setRegAt s p off w).load = s.load := rfl
@[simp] theorem setRegAt_recov : (setRegAt s p off w).recov = s.recov := rfl
@[simp] theorem setRegAt_evq : (setRegAt s p off w).evq = s.evq := rfl
@[simp] theorem setRegAt_evLost : (setRegAt s p off w).evLost = s.evLost := rfl
end

/-! A field write: `setF` changes `regs` alone. -/

section
variable (p : Nat) (f : Fld) (v : Nat)
@[simp] theorem setF_pending : (setF s p f v).pending = s.pending := rfl
@[simp] theorem setF_free : (setF s p f v).free = s.free := rfl
@[simp] theorem setF_tb : (setF s p f v).tb = s.tb := rfl
@[simp] theorem setF_ticks : (setF s p f v).ticks = s.ticks := rfl
@[simp] theorem setF_tbStep : (setF s p f v).tbStep = s.tbStep := rfl
@[simp] theorem setF_tbPast : (setF s p f v).tbPast = s.tbPast := rfl
@[simp] theorem setF_timeSeen : (setF s p f v).timeSeen = s.timeSeen := rfl
@[simp] theorem setF_age : (setF s p f v).age = s.age := rfl
@[simp] theorem setF_released : (setF s p f v).released = s.released := rfl
@[simp] theorem setF_outRel : (setF s p f v).outRel = s.outRel := rfl
@[simp] theorem setF_wide : (setF s p f v).wide = s.wide := rfl
@[simp] theorem setF_mem : (setF s p f v).mem = s.mem := rfl
@[simp] theorem setF_marks : (setF s p f v).marks = s.marks := rfl
@[simp] theorem setF_wback : (setF s p f v).wback = s.wback := rfl
@[simp] theorem setF_cyc : (setF s p f v).cyc = s.cyc := rfl
@[simp] theorem setF_hostMem : (setF s p f v).hostMem = s.hostMem := rfl
@[simp] theorem setF_tiles : (setF s p f v).tiles = s.tiles := rfl
@[simp] theorem setF_prot : (setF s p f v).prot = s.prot := rfl
@[simp] theorem setF_rj : (setF s p f v).rj = s.rj := rfl
@[simp] theorem setF_lockets : (setF s p f v).lockets = s.lockets := rfl
@[simp] theorem setF_lockHid : (setF s p f v).lockHid = s.lockHid := rfl
@[simp] theorem setF_nextEpoch : (setF s p f v).nextEpoch = s.nextEpoch := rfl
@[simp] theorem setF_mirrorAt : (setF s p f v).mirrorAt = s.mirrorAt := rfl
@[simp] theorem setF_clasps : (setF s p f v).clasps = s.clasps := rfl
@[simp] theorem setF_portOut : (setF s p f v).portOut = s.portOut := rfl
@[simp] theorem setF_clkSw : (setF s p f v).clkSw = s.clkSw := rfl
@[simp] theorem setF_govG : (setF s p f v).govG = s.govG := rfl
@[simp] theorem setF_coolA : (setF s p f v).coolA = s.coolA := rfl
@[simp] theorem setF_bezelTemp : (setF s p f v).bezelTemp = s.bezelTemp := rfl
@[simp] theorem setF_trims : (setF s p f v).trims = s.trims := rfl
@[simp] theorem setF_railsGo : (setF s p f v).railsGo = s.railsGo := rfl
@[simp] theorem setF_pwrTo : (setF s p f v).pwrTo = s.pwrTo := rfl
@[simp] theorem setF_pwrQ : (setF s p f v).pwrQ = s.pwrQ := rfl
@[simp] theorem setF_polish : (setF s p f v).polish = s.polish := rfl
@[simp] theorem setF_spareCopy : (setF s p f v).spareCopy = s.spareCopy := rfl
@[simp] theorem setF_lastRead : (setF s p f v).lastRead = s.lastRead := rfl
@[simp] theorem setF_net : (setF s p f v).net = s.net := rfl
@[simp] theorem setF_txns : (setF s p f v).txns = s.txns := rfl
@[simp] theorem setF_ends : (setF s p f v).ends = s.ends := rfl
@[simp] theorem setF_fails : (setF s p f v).fails = s.fails := rfl
@[simp] theorem setF_retry : (setF s p f v).retry = s.retry := rfl
@[simp] theorem setF_detour : (setF s p f v).detour = s.detour := rfl
@[simp] theorem setF_rr : (setF s p f v).rr = s.rr := rfl
@[simp] theorem setF_dma : (setF s p f v).dma = s.dma := rfl
@[simp] theorem setF_dmaRr : (setF s p f v).dmaRr = s.dmaRr := rfl
@[simp] theorem setF_zsend : (setF s p f v).zsend = s.zsend := rfl
@[simp] theorem setF_vecPend : (setF s p f v).vecPend = s.vecPend := rfl
@[simp] theorem setF_lines : (setF s p f v).lines = s.lines := rfl
@[simp] theorem setF_ethQ : (setF s p f v).ethQ = s.ethQ := rfl
@[simp] theorem setF_tsFifo : (setF s p f v).tsFifo = s.tsFifo := rfl
@[simp] theorem setF_mirror : (setF s p f v).mirror = s.mirror := rfl
@[simp] theorem setF_strand : (setF s p f v).strand = s.strand := rfl
@[simp] theorem setF_gates : (setF s p f v).gates = s.gates := rfl
@[simp] theorem setF_ethSent : (setF s p f v).ethSent = s.ethSent := rfl
@[simp] theorem setF_loadBuf : (setF s p f v).loadBuf = s.loadBuf := rfl
@[simp] theorem setF_routes : (setF s p f v).routes = s.routes := rfl
@[simp] theorem setF_writesOpen : (setF s p f v).writesOpen = s.writesOpen := rfl
@[simp] theorem setF_heldW : (setF s p f v).heldW = s.heldW := rfl
@[simp] theorem setF_arrivals : (setF s p f v).arrivals = s.arrivals := rfl
@[simp] theorem setF_bezel : (setF s p f v).bezel = s.bezel := rfl
@[simp] theorem setF_dacs : (setF s p f v).dacs = s.dacs := rfl
@[simp] theorem setF_adcFly : (setF s p f v).adcFly = s.adcFly := rfl
@[simp] theorem setF_adcVal : (setF s p f v).adcVal = s.adcVal := rfl
@[simp] theorem setF_adcNext : (setF s p f v).adcNext = s.adcNext := rfl
@[simp] theorem setF_diQ : (setF s p f v).diQ = s.diQ := rfl
@[simp] theorem setF_loupe : (setF s p f v).loupe = s.loupe := rfl
@[simp] theorem setF_host : (setF s p f v).host = s.host := rfl
@[simp] theorem setF_ser : (setF s p f v).ser = s.ser := rfl
@[simp] theorem setF_power : (setF s p f v).power = s.power := rfl
@[simp] theorem setF_flash : (setF s p f v).flash = s.flash := rfl
@[simp] theorem setF_load : (setF s p f v).load = s.load := rfl
@[simp] theorem setF_recov : (setF s p f v).recov = s.recov := rfl
@[simp] theorem setF_evq : (setF s p f v).evq = s.evq := rfl
@[simp] theorem setF_evLost : (setF s p f v).evLost = s.evLost := rfl
end

/-! A counter: `incF` changes `regs` alone. -/

section
variable (p : Nat) (f : Fld) (n : Nat)
@[simp] theorem incF_pending : (incF s p f n).pending = s.pending := rfl
@[simp] theorem incF_free : (incF s p f n).free = s.free := rfl
@[simp] theorem incF_tb : (incF s p f n).tb = s.tb := rfl
@[simp] theorem incF_ticks : (incF s p f n).ticks = s.ticks := rfl
@[simp] theorem incF_tbStep : (incF s p f n).tbStep = s.tbStep := rfl
@[simp] theorem incF_tbPast : (incF s p f n).tbPast = s.tbPast := rfl
@[simp] theorem incF_timeSeen : (incF s p f n).timeSeen = s.timeSeen := rfl
@[simp] theorem incF_age : (incF s p f n).age = s.age := rfl
@[simp] theorem incF_released : (incF s p f n).released = s.released := rfl
@[simp] theorem incF_outRel : (incF s p f n).outRel = s.outRel := rfl
@[simp] theorem incF_wide : (incF s p f n).wide = s.wide := rfl
@[simp] theorem incF_mem : (incF s p f n).mem = s.mem := rfl
@[simp] theorem incF_marks : (incF s p f n).marks = s.marks := rfl
@[simp] theorem incF_wback : (incF s p f n).wback = s.wback := rfl
@[simp] theorem incF_cyc : (incF s p f n).cyc = s.cyc := rfl
@[simp] theorem incF_hostMem : (incF s p f n).hostMem = s.hostMem := rfl
@[simp] theorem incF_tiles : (incF s p f n).tiles = s.tiles := rfl
@[simp] theorem incF_prot : (incF s p f n).prot = s.prot := rfl
@[simp] theorem incF_rj : (incF s p f n).rj = s.rj := rfl
@[simp] theorem incF_lockets : (incF s p f n).lockets = s.lockets := rfl
@[simp] theorem incF_lockHid : (incF s p f n).lockHid = s.lockHid := rfl
@[simp] theorem incF_nextEpoch : (incF s p f n).nextEpoch = s.nextEpoch := rfl
@[simp] theorem incF_mirrorAt : (incF s p f n).mirrorAt = s.mirrorAt := rfl
@[simp] theorem incF_clasps : (incF s p f n).clasps = s.clasps := rfl
@[simp] theorem incF_portOut : (incF s p f n).portOut = s.portOut := rfl
@[simp] theorem incF_clkSw : (incF s p f n).clkSw = s.clkSw := rfl
@[simp] theorem incF_govG : (incF s p f n).govG = s.govG := rfl
@[simp] theorem incF_coolA : (incF s p f n).coolA = s.coolA := rfl
@[simp] theorem incF_bezelTemp : (incF s p f n).bezelTemp = s.bezelTemp := rfl
@[simp] theorem incF_trims : (incF s p f n).trims = s.trims := rfl
@[simp] theorem incF_railsGo : (incF s p f n).railsGo = s.railsGo := rfl
@[simp] theorem incF_pwrTo : (incF s p f n).pwrTo = s.pwrTo := rfl
@[simp] theorem incF_pwrQ : (incF s p f n).pwrQ = s.pwrQ := rfl
@[simp] theorem incF_polish : (incF s p f n).polish = s.polish := rfl
@[simp] theorem incF_spareCopy : (incF s p f n).spareCopy = s.spareCopy := rfl
@[simp] theorem incF_lastRead : (incF s p f n).lastRead = s.lastRead := rfl
@[simp] theorem incF_net : (incF s p f n).net = s.net := rfl
@[simp] theorem incF_txns : (incF s p f n).txns = s.txns := rfl
@[simp] theorem incF_ends : (incF s p f n).ends = s.ends := rfl
@[simp] theorem incF_fails : (incF s p f n).fails = s.fails := rfl
@[simp] theorem incF_retry : (incF s p f n).retry = s.retry := rfl
@[simp] theorem incF_detour : (incF s p f n).detour = s.detour := rfl
@[simp] theorem incF_rr : (incF s p f n).rr = s.rr := rfl
@[simp] theorem incF_dma : (incF s p f n).dma = s.dma := rfl
@[simp] theorem incF_dmaRr : (incF s p f n).dmaRr = s.dmaRr := rfl
@[simp] theorem incF_zsend : (incF s p f n).zsend = s.zsend := rfl
@[simp] theorem incF_vecPend : (incF s p f n).vecPend = s.vecPend := rfl
@[simp] theorem incF_lines : (incF s p f n).lines = s.lines := rfl
@[simp] theorem incF_ethQ : (incF s p f n).ethQ = s.ethQ := rfl
@[simp] theorem incF_tsFifo : (incF s p f n).tsFifo = s.tsFifo := rfl
@[simp] theorem incF_mirror : (incF s p f n).mirror = s.mirror := rfl
@[simp] theorem incF_strand : (incF s p f n).strand = s.strand := rfl
@[simp] theorem incF_gates : (incF s p f n).gates = s.gates := rfl
@[simp] theorem incF_ethSent : (incF s p f n).ethSent = s.ethSent := rfl
@[simp] theorem incF_loadBuf : (incF s p f n).loadBuf = s.loadBuf := rfl
@[simp] theorem incF_routes : (incF s p f n).routes = s.routes := rfl
@[simp] theorem incF_writesOpen : (incF s p f n).writesOpen = s.writesOpen := rfl
@[simp] theorem incF_heldW : (incF s p f n).heldW = s.heldW := rfl
@[simp] theorem incF_arrivals : (incF s p f n).arrivals = s.arrivals := rfl
@[simp] theorem incF_bezel : (incF s p f n).bezel = s.bezel := rfl
@[simp] theorem incF_dacs : (incF s p f n).dacs = s.dacs := rfl
@[simp] theorem incF_adcFly : (incF s p f n).adcFly = s.adcFly := rfl
@[simp] theorem incF_adcVal : (incF s p f n).adcVal = s.adcVal := rfl
@[simp] theorem incF_adcNext : (incF s p f n).adcNext = s.adcNext := rfl
@[simp] theorem incF_diQ : (incF s p f n).diQ = s.diQ := rfl
@[simp] theorem incF_loupe : (incF s p f n).loupe = s.loupe := rfl
@[simp] theorem incF_host : (incF s p f n).host = s.host := rfl
@[simp] theorem incF_ser : (incF s p f n).ser = s.ser := rfl
@[simp] theorem incF_power : (incF s p f n).power = s.power := rfl
@[simp] theorem incF_flash : (incF s p f n).flash = s.flash := rfl
@[simp] theorem incF_load : (incF s p f n).load = s.load := rfl
@[simp] theorem incF_recov : (incF s p f n).recov = s.recov := rfl
@[simp] theorem incF_evq : (incF s p f n).evq = s.evq := rfl
@[simp] theorem incF_evLost : (incF s p f n).evLost = s.evLost := rfl
end

/-! ERR_COUNT: `errCount` changes `regs` alone. -/

section
variable (p : Nat)
@[simp] theorem errCount_pending : (errCount s p).pending = s.pending := rfl
@[simp] theorem errCount_free : (errCount s p).free = s.free := rfl
@[simp] theorem errCount_tb : (errCount s p).tb = s.tb := rfl
@[simp] theorem errCount_ticks : (errCount s p).ticks = s.ticks := rfl
@[simp] theorem errCount_tbStep : (errCount s p).tbStep = s.tbStep := rfl
@[simp] theorem errCount_tbPast : (errCount s p).tbPast = s.tbPast := rfl
@[simp] theorem errCount_timeSeen : (errCount s p).timeSeen = s.timeSeen := rfl
@[simp] theorem errCount_age : (errCount s p).age = s.age := rfl
@[simp] theorem errCount_released : (errCount s p).released = s.released := rfl
@[simp] theorem errCount_outRel : (errCount s p).outRel = s.outRel := rfl
@[simp] theorem errCount_wide : (errCount s p).wide = s.wide := rfl
@[simp] theorem errCount_mem : (errCount s p).mem = s.mem := rfl
@[simp] theorem errCount_marks : (errCount s p).marks = s.marks := rfl
@[simp] theorem errCount_wback : (errCount s p).wback = s.wback := rfl
@[simp] theorem errCount_cyc : (errCount s p).cyc = s.cyc := rfl
@[simp] theorem errCount_hostMem : (errCount s p).hostMem = s.hostMem := rfl
@[simp] theorem errCount_tiles : (errCount s p).tiles = s.tiles := rfl
@[simp] theorem errCount_prot : (errCount s p).prot = s.prot := rfl
@[simp] theorem errCount_rj : (errCount s p).rj = s.rj := rfl
@[simp] theorem errCount_lockets : (errCount s p).lockets = s.lockets := rfl
@[simp] theorem errCount_lockHid : (errCount s p).lockHid = s.lockHid := rfl
@[simp] theorem errCount_nextEpoch : (errCount s p).nextEpoch = s.nextEpoch := rfl
@[simp] theorem errCount_mirrorAt : (errCount s p).mirrorAt = s.mirrorAt := rfl
@[simp] theorem errCount_clasps : (errCount s p).clasps = s.clasps := rfl
@[simp] theorem errCount_portOut : (errCount s p).portOut = s.portOut := rfl
@[simp] theorem errCount_clkSw : (errCount s p).clkSw = s.clkSw := rfl
@[simp] theorem errCount_govG : (errCount s p).govG = s.govG := rfl
@[simp] theorem errCount_coolA : (errCount s p).coolA = s.coolA := rfl
@[simp] theorem errCount_bezelTemp : (errCount s p).bezelTemp = s.bezelTemp := rfl
@[simp] theorem errCount_trims : (errCount s p).trims = s.trims := rfl
@[simp] theorem errCount_railsGo : (errCount s p).railsGo = s.railsGo := rfl
@[simp] theorem errCount_pwrTo : (errCount s p).pwrTo = s.pwrTo := rfl
@[simp] theorem errCount_pwrQ : (errCount s p).pwrQ = s.pwrQ := rfl
@[simp] theorem errCount_polish : (errCount s p).polish = s.polish := rfl
@[simp] theorem errCount_spareCopy : (errCount s p).spareCopy = s.spareCopy := rfl
@[simp] theorem errCount_lastRead : (errCount s p).lastRead = s.lastRead := rfl
@[simp] theorem errCount_net : (errCount s p).net = s.net := rfl
@[simp] theorem errCount_txns : (errCount s p).txns = s.txns := rfl
@[simp] theorem errCount_ends : (errCount s p).ends = s.ends := rfl
@[simp] theorem errCount_fails : (errCount s p).fails = s.fails := rfl
@[simp] theorem errCount_retry : (errCount s p).retry = s.retry := rfl
@[simp] theorem errCount_detour : (errCount s p).detour = s.detour := rfl
@[simp] theorem errCount_rr : (errCount s p).rr = s.rr := rfl
@[simp] theorem errCount_dma : (errCount s p).dma = s.dma := rfl
@[simp] theorem errCount_dmaRr : (errCount s p).dmaRr = s.dmaRr := rfl
@[simp] theorem errCount_zsend : (errCount s p).zsend = s.zsend := rfl
@[simp] theorem errCount_vecPend : (errCount s p).vecPend = s.vecPend := rfl
@[simp] theorem errCount_lines : (errCount s p).lines = s.lines := rfl
@[simp] theorem errCount_ethQ : (errCount s p).ethQ = s.ethQ := rfl
@[simp] theorem errCount_tsFifo : (errCount s p).tsFifo = s.tsFifo := rfl
@[simp] theorem errCount_mirror : (errCount s p).mirror = s.mirror := rfl
@[simp] theorem errCount_strand : (errCount s p).strand = s.strand := rfl
@[simp] theorem errCount_gates : (errCount s p).gates = s.gates := rfl
@[simp] theorem errCount_ethSent : (errCount s p).ethSent = s.ethSent := rfl
@[simp] theorem errCount_loadBuf : (errCount s p).loadBuf = s.loadBuf := rfl
@[simp] theorem errCount_routes : (errCount s p).routes = s.routes := rfl
@[simp] theorem errCount_writesOpen : (errCount s p).writesOpen = s.writesOpen := rfl
@[simp] theorem errCount_heldW : (errCount s p).heldW = s.heldW := rfl
@[simp] theorem errCount_arrivals : (errCount s p).arrivals = s.arrivals := rfl
@[simp] theorem errCount_bezel : (errCount s p).bezel = s.bezel := rfl
@[simp] theorem errCount_dacs : (errCount s p).dacs = s.dacs := rfl
@[simp] theorem errCount_adcFly : (errCount s p).adcFly = s.adcFly := rfl
@[simp] theorem errCount_adcVal : (errCount s p).adcVal = s.adcVal := rfl
@[simp] theorem errCount_adcNext : (errCount s p).adcNext = s.adcNext := rfl
@[simp] theorem errCount_diQ : (errCount s p).diQ = s.diQ := rfl
@[simp] theorem errCount_loupe : (errCount s p).loupe = s.loupe := rfl
@[simp] theorem errCount_host : (errCount s p).host = s.host := rfl
@[simp] theorem errCount_ser : (errCount s p).ser = s.ser := rfl
@[simp] theorem errCount_power : (errCount s p).power = s.power := rfl
@[simp] theorem errCount_flash : (errCount s p).flash = s.flash := rfl
@[simp] theorem errCount_load : (errCount s p).load = s.load := rfl
@[simp] theorem errCount_recov : (errCount s p).recov = s.recov := rfl
@[simp] theorem errCount_evq : (errCount s p).evq = s.evq := rfl
@[simp] theorem errCount_evLost : (errCount s p).evLost = s.evLost := rfl
end

/-! A wide register: `setWide` changes `wide` alone. -/

section
variable (p off v : Nat)
@[simp] theorem setWide_pending : (setWide s p off v).pending = s.pending := rfl
@[simp] theorem setWide_free : (setWide s p off v).free = s.free := rfl
@[simp] theorem setWide_tb : (setWide s p off v).tb = s.tb := rfl
@[simp] theorem setWide_ticks : (setWide s p off v).ticks = s.ticks := rfl
@[simp] theorem setWide_tbStep : (setWide s p off v).tbStep = s.tbStep := rfl
@[simp] theorem setWide_tbPast : (setWide s p off v).tbPast = s.tbPast := rfl
@[simp] theorem setWide_timeSeen : (setWide s p off v).timeSeen = s.timeSeen := rfl
@[simp] theorem setWide_age : (setWide s p off v).age = s.age := rfl
@[simp] theorem setWide_released : (setWide s p off v).released = s.released := rfl
@[simp] theorem setWide_outRel : (setWide s p off v).outRel = s.outRel := rfl
@[simp] theorem setWide_regs : (setWide s p off v).regs = s.regs := rfl
@[simp] theorem setWide_mem : (setWide s p off v).mem = s.mem := rfl
@[simp] theorem setWide_marks : (setWide s p off v).marks = s.marks := rfl
@[simp] theorem setWide_wback : (setWide s p off v).wback = s.wback := rfl
@[simp] theorem setWide_cyc : (setWide s p off v).cyc = s.cyc := rfl
@[simp] theorem setWide_hostMem : (setWide s p off v).hostMem = s.hostMem := rfl
@[simp] theorem setWide_tiles : (setWide s p off v).tiles = s.tiles := rfl
@[simp] theorem setWide_prot : (setWide s p off v).prot = s.prot := rfl
@[simp] theorem setWide_rj : (setWide s p off v).rj = s.rj := rfl
@[simp] theorem setWide_lockets : (setWide s p off v).lockets = s.lockets := rfl
@[simp] theorem setWide_lockHid : (setWide s p off v).lockHid = s.lockHid := rfl
@[simp] theorem setWide_nextEpoch : (setWide s p off v).nextEpoch = s.nextEpoch := rfl
@[simp] theorem setWide_mirrorAt : (setWide s p off v).mirrorAt = s.mirrorAt := rfl
@[simp] theorem setWide_clasps : (setWide s p off v).clasps = s.clasps := rfl
@[simp] theorem setWide_portOut : (setWide s p off v).portOut = s.portOut := rfl
@[simp] theorem setWide_clkSw : (setWide s p off v).clkSw = s.clkSw := rfl
@[simp] theorem setWide_govG : (setWide s p off v).govG = s.govG := rfl
@[simp] theorem setWide_coolA : (setWide s p off v).coolA = s.coolA := rfl
@[simp] theorem setWide_bezelTemp : (setWide s p off v).bezelTemp = s.bezelTemp := rfl
@[simp] theorem setWide_trims : (setWide s p off v).trims = s.trims := rfl
@[simp] theorem setWide_railsGo : (setWide s p off v).railsGo = s.railsGo := rfl
@[simp] theorem setWide_pwrTo : (setWide s p off v).pwrTo = s.pwrTo := rfl
@[simp] theorem setWide_pwrQ : (setWide s p off v).pwrQ = s.pwrQ := rfl
@[simp] theorem setWide_polish : (setWide s p off v).polish = s.polish := rfl
@[simp] theorem setWide_spareCopy : (setWide s p off v).spareCopy = s.spareCopy := rfl
@[simp] theorem setWide_lastRead : (setWide s p off v).lastRead = s.lastRead := rfl
@[simp] theorem setWide_net : (setWide s p off v).net = s.net := rfl
@[simp] theorem setWide_txns : (setWide s p off v).txns = s.txns := rfl
@[simp] theorem setWide_ends : (setWide s p off v).ends = s.ends := rfl
@[simp] theorem setWide_fails : (setWide s p off v).fails = s.fails := rfl
@[simp] theorem setWide_retry : (setWide s p off v).retry = s.retry := rfl
@[simp] theorem setWide_detour : (setWide s p off v).detour = s.detour := rfl
@[simp] theorem setWide_rr : (setWide s p off v).rr = s.rr := rfl
@[simp] theorem setWide_dma : (setWide s p off v).dma = s.dma := rfl
@[simp] theorem setWide_dmaRr : (setWide s p off v).dmaRr = s.dmaRr := rfl
@[simp] theorem setWide_zsend : (setWide s p off v).zsend = s.zsend := rfl
@[simp] theorem setWide_vecPend : (setWide s p off v).vecPend = s.vecPend := rfl
@[simp] theorem setWide_lines : (setWide s p off v).lines = s.lines := rfl
@[simp] theorem setWide_ethQ : (setWide s p off v).ethQ = s.ethQ := rfl
@[simp] theorem setWide_tsFifo : (setWide s p off v).tsFifo = s.tsFifo := rfl
@[simp] theorem setWide_mirror : (setWide s p off v).mirror = s.mirror := rfl
@[simp] theorem setWide_strand : (setWide s p off v).strand = s.strand := rfl
@[simp] theorem setWide_gates : (setWide s p off v).gates = s.gates := rfl
@[simp] theorem setWide_ethSent : (setWide s p off v).ethSent = s.ethSent := rfl
@[simp] theorem setWide_loadBuf : (setWide s p off v).loadBuf = s.loadBuf := rfl
@[simp] theorem setWide_routes : (setWide s p off v).routes = s.routes := rfl
@[simp] theorem setWide_writesOpen : (setWide s p off v).writesOpen = s.writesOpen := rfl
@[simp] theorem setWide_heldW : (setWide s p off v).heldW = s.heldW := rfl
@[simp] theorem setWide_arrivals : (setWide s p off v).arrivals = s.arrivals := rfl
@[simp] theorem setWide_bezel : (setWide s p off v).bezel = s.bezel := rfl
@[simp] theorem setWide_dacs : (setWide s p off v).dacs = s.dacs := rfl
@[simp] theorem setWide_adcFly : (setWide s p off v).adcFly = s.adcFly := rfl
@[simp] theorem setWide_adcVal : (setWide s p off v).adcVal = s.adcVal := rfl
@[simp] theorem setWide_adcNext : (setWide s p off v).adcNext = s.adcNext := rfl
@[simp] theorem setWide_diQ : (setWide s p off v).diQ = s.diQ := rfl
@[simp] theorem setWide_loupe : (setWide s p off v).loupe = s.loupe := rfl
@[simp] theorem setWide_host : (setWide s p off v).host = s.host := rfl
@[simp] theorem setWide_ser : (setWide s p off v).ser = s.ser := rfl
@[simp] theorem setWide_power : (setWide s p off v).power = s.power := rfl
@[simp] theorem setWide_flash : (setWide s p off v).flash = s.flash := rfl
@[simp] theorem setWide_load : (setWide s p off v).load = s.load := rfl
@[simp] theorem setWide_recov : (setWide s p off v).recov = s.recov := rfl
@[simp] theorem setWide_evq : (setWide s p off v).evq = s.evq := rfl
@[simp] theorem setWide_evLost : (setWide s p off v).evLost = s.evLost := rfl
end

/-! A tile: `setTile` changes `tiles` alone. -/

section
variable (t : Nat) (x : Tile)
@[simp] theorem setTile_pending : (setTile s t x).pending = s.pending := rfl
@[simp] theorem setTile_free : (setTile s t x).free = s.free := rfl
@[simp] theorem setTile_tb : (setTile s t x).tb = s.tb := rfl
@[simp] theorem setTile_ticks : (setTile s t x).ticks = s.ticks := rfl
@[simp] theorem setTile_tbStep : (setTile s t x).tbStep = s.tbStep := rfl
@[simp] theorem setTile_tbPast : (setTile s t x).tbPast = s.tbPast := rfl
@[simp] theorem setTile_timeSeen : (setTile s t x).timeSeen = s.timeSeen := rfl
@[simp] theorem setTile_age : (setTile s t x).age = s.age := rfl
@[simp] theorem setTile_released : (setTile s t x).released = s.released := rfl
@[simp] theorem setTile_outRel : (setTile s t x).outRel = s.outRel := rfl
@[simp] theorem setTile_regs : (setTile s t x).regs = s.regs := rfl
@[simp] theorem setTile_wide : (setTile s t x).wide = s.wide := rfl
@[simp] theorem setTile_mem : (setTile s t x).mem = s.mem := rfl
@[simp] theorem setTile_marks : (setTile s t x).marks = s.marks := rfl
@[simp] theorem setTile_wback : (setTile s t x).wback = s.wback := rfl
@[simp] theorem setTile_cyc : (setTile s t x).cyc = s.cyc := rfl
@[simp] theorem setTile_hostMem : (setTile s t x).hostMem = s.hostMem := rfl
@[simp] theorem setTile_prot : (setTile s t x).prot = s.prot := rfl
@[simp] theorem setTile_rj : (setTile s t x).rj = s.rj := rfl
@[simp] theorem setTile_lockets : (setTile s t x).lockets = s.lockets := rfl
@[simp] theorem setTile_lockHid : (setTile s t x).lockHid = s.lockHid := rfl
@[simp] theorem setTile_nextEpoch : (setTile s t x).nextEpoch = s.nextEpoch := rfl
@[simp] theorem setTile_mirrorAt : (setTile s t x).mirrorAt = s.mirrorAt := rfl
@[simp] theorem setTile_clasps : (setTile s t x).clasps = s.clasps := rfl
@[simp] theorem setTile_portOut : (setTile s t x).portOut = s.portOut := rfl
@[simp] theorem setTile_clkSw : (setTile s t x).clkSw = s.clkSw := rfl
@[simp] theorem setTile_govG : (setTile s t x).govG = s.govG := rfl
@[simp] theorem setTile_coolA : (setTile s t x).coolA = s.coolA := rfl
@[simp] theorem setTile_bezelTemp : (setTile s t x).bezelTemp = s.bezelTemp := rfl
@[simp] theorem setTile_trims : (setTile s t x).trims = s.trims := rfl
@[simp] theorem setTile_railsGo : (setTile s t x).railsGo = s.railsGo := rfl
@[simp] theorem setTile_pwrTo : (setTile s t x).pwrTo = s.pwrTo := rfl
@[simp] theorem setTile_pwrQ : (setTile s t x).pwrQ = s.pwrQ := rfl
@[simp] theorem setTile_polish : (setTile s t x).polish = s.polish := rfl
@[simp] theorem setTile_spareCopy : (setTile s t x).spareCopy = s.spareCopy := rfl
@[simp] theorem setTile_lastRead : (setTile s t x).lastRead = s.lastRead := rfl
@[simp] theorem setTile_net : (setTile s t x).net = s.net := rfl
@[simp] theorem setTile_txns : (setTile s t x).txns = s.txns := rfl
@[simp] theorem setTile_ends : (setTile s t x).ends = s.ends := rfl
@[simp] theorem setTile_fails : (setTile s t x).fails = s.fails := rfl
@[simp] theorem setTile_retry : (setTile s t x).retry = s.retry := rfl
@[simp] theorem setTile_detour : (setTile s t x).detour = s.detour := rfl
@[simp] theorem setTile_rr : (setTile s t x).rr = s.rr := rfl
@[simp] theorem setTile_dma : (setTile s t x).dma = s.dma := rfl
@[simp] theorem setTile_dmaRr : (setTile s t x).dmaRr = s.dmaRr := rfl
@[simp] theorem setTile_zsend : (setTile s t x).zsend = s.zsend := rfl
@[simp] theorem setTile_vecPend : (setTile s t x).vecPend = s.vecPend := rfl
@[simp] theorem setTile_lines : (setTile s t x).lines = s.lines := rfl
@[simp] theorem setTile_ethQ : (setTile s t x).ethQ = s.ethQ := rfl
@[simp] theorem setTile_tsFifo : (setTile s t x).tsFifo = s.tsFifo := rfl
@[simp] theorem setTile_mirror : (setTile s t x).mirror = s.mirror := rfl
@[simp] theorem setTile_strand : (setTile s t x).strand = s.strand := rfl
@[simp] theorem setTile_gates : (setTile s t x).gates = s.gates := rfl
@[simp] theorem setTile_ethSent : (setTile s t x).ethSent = s.ethSent := rfl
@[simp] theorem setTile_loadBuf : (setTile s t x).loadBuf = s.loadBuf := rfl
@[simp] theorem setTile_routes : (setTile s t x).routes = s.routes := rfl
@[simp] theorem setTile_writesOpen : (setTile s t x).writesOpen = s.writesOpen := rfl
@[simp] theorem setTile_heldW : (setTile s t x).heldW = s.heldW := rfl
@[simp] theorem setTile_arrivals : (setTile s t x).arrivals = s.arrivals := rfl
@[simp] theorem setTile_bezel : (setTile s t x).bezel = s.bezel := rfl
@[simp] theorem setTile_dacs : (setTile s t x).dacs = s.dacs := rfl
@[simp] theorem setTile_adcFly : (setTile s t x).adcFly = s.adcFly := rfl
@[simp] theorem setTile_adcVal : (setTile s t x).adcVal = s.adcVal := rfl
@[simp] theorem setTile_adcNext : (setTile s t x).adcNext = s.adcNext := rfl
@[simp] theorem setTile_diQ : (setTile s t x).diQ = s.diQ := rfl
@[simp] theorem setTile_loupe : (setTile s t x).loupe = s.loupe := rfl
@[simp] theorem setTile_host : (setTile s t x).host = s.host := rfl
@[simp] theorem setTile_ser : (setTile s t x).ser = s.ser := rfl
@[simp] theorem setTile_power : (setTile s t x).power = s.power := rfl
@[simp] theorem setTile_flash : (setTile s t x).flash = s.flash := rfl
@[simp] theorem setTile_load : (setTile s t x).load = s.load := rfl
@[simp] theorem setTile_recov : (setTile s t x).recov = s.recov := rfl
@[simp] theorem setTile_evq : (setTile s t x).evq = s.evq := rfl
@[simp] theorem setTile_evLost : (setTile s t x).evLost = s.evLost := rfl
end

/-! A change of a tile: `modTile` changes `tiles` alone. -/

section
variable (t : Nat) (f : Tile → Tile)
@[simp] theorem modTile_pending : (modTile s t f).pending = s.pending := rfl
@[simp] theorem modTile_free : (modTile s t f).free = s.free := rfl
@[simp] theorem modTile_tb : (modTile s t f).tb = s.tb := rfl
@[simp] theorem modTile_ticks : (modTile s t f).ticks = s.ticks := rfl
@[simp] theorem modTile_tbStep : (modTile s t f).tbStep = s.tbStep := rfl
@[simp] theorem modTile_tbPast : (modTile s t f).tbPast = s.tbPast := rfl
@[simp] theorem modTile_timeSeen : (modTile s t f).timeSeen = s.timeSeen := rfl
@[simp] theorem modTile_age : (modTile s t f).age = s.age := rfl
@[simp] theorem modTile_released : (modTile s t f).released = s.released := rfl
@[simp] theorem modTile_outRel : (modTile s t f).outRel = s.outRel := rfl
@[simp] theorem modTile_regs : (modTile s t f).regs = s.regs := rfl
@[simp] theorem modTile_wide : (modTile s t f).wide = s.wide := rfl
@[simp] theorem modTile_mem : (modTile s t f).mem = s.mem := rfl
@[simp] theorem modTile_marks : (modTile s t f).marks = s.marks := rfl
@[simp] theorem modTile_wback : (modTile s t f).wback = s.wback := rfl
@[simp] theorem modTile_cyc : (modTile s t f).cyc = s.cyc := rfl
@[simp] theorem modTile_hostMem : (modTile s t f).hostMem = s.hostMem := rfl
@[simp] theorem modTile_prot : (modTile s t f).prot = s.prot := rfl
@[simp] theorem modTile_rj : (modTile s t f).rj = s.rj := rfl
@[simp] theorem modTile_lockets : (modTile s t f).lockets = s.lockets := rfl
@[simp] theorem modTile_lockHid : (modTile s t f).lockHid = s.lockHid := rfl
@[simp] theorem modTile_nextEpoch : (modTile s t f).nextEpoch = s.nextEpoch := rfl
@[simp] theorem modTile_mirrorAt : (modTile s t f).mirrorAt = s.mirrorAt := rfl
@[simp] theorem modTile_clasps : (modTile s t f).clasps = s.clasps := rfl
@[simp] theorem modTile_portOut : (modTile s t f).portOut = s.portOut := rfl
@[simp] theorem modTile_clkSw : (modTile s t f).clkSw = s.clkSw := rfl
@[simp] theorem modTile_govG : (modTile s t f).govG = s.govG := rfl
@[simp] theorem modTile_coolA : (modTile s t f).coolA = s.coolA := rfl
@[simp] theorem modTile_bezelTemp : (modTile s t f).bezelTemp = s.bezelTemp := rfl
@[simp] theorem modTile_trims : (modTile s t f).trims = s.trims := rfl
@[simp] theorem modTile_railsGo : (modTile s t f).railsGo = s.railsGo := rfl
@[simp] theorem modTile_pwrTo : (modTile s t f).pwrTo = s.pwrTo := rfl
@[simp] theorem modTile_pwrQ : (modTile s t f).pwrQ = s.pwrQ := rfl
@[simp] theorem modTile_polish : (modTile s t f).polish = s.polish := rfl
@[simp] theorem modTile_spareCopy : (modTile s t f).spareCopy = s.spareCopy := rfl
@[simp] theorem modTile_lastRead : (modTile s t f).lastRead = s.lastRead := rfl
@[simp] theorem modTile_net : (modTile s t f).net = s.net := rfl
@[simp] theorem modTile_txns : (modTile s t f).txns = s.txns := rfl
@[simp] theorem modTile_ends : (modTile s t f).ends = s.ends := rfl
@[simp] theorem modTile_fails : (modTile s t f).fails = s.fails := rfl
@[simp] theorem modTile_retry : (modTile s t f).retry = s.retry := rfl
@[simp] theorem modTile_detour : (modTile s t f).detour = s.detour := rfl
@[simp] theorem modTile_rr : (modTile s t f).rr = s.rr := rfl
@[simp] theorem modTile_dma : (modTile s t f).dma = s.dma := rfl
@[simp] theorem modTile_dmaRr : (modTile s t f).dmaRr = s.dmaRr := rfl
@[simp] theorem modTile_zsend : (modTile s t f).zsend = s.zsend := rfl
@[simp] theorem modTile_vecPend : (modTile s t f).vecPend = s.vecPend := rfl
@[simp] theorem modTile_lines : (modTile s t f).lines = s.lines := rfl
@[simp] theorem modTile_ethQ : (modTile s t f).ethQ = s.ethQ := rfl
@[simp] theorem modTile_tsFifo : (modTile s t f).tsFifo = s.tsFifo := rfl
@[simp] theorem modTile_mirror : (modTile s t f).mirror = s.mirror := rfl
@[simp] theorem modTile_strand : (modTile s t f).strand = s.strand := rfl
@[simp] theorem modTile_gates : (modTile s t f).gates = s.gates := rfl
@[simp] theorem modTile_ethSent : (modTile s t f).ethSent = s.ethSent := rfl
@[simp] theorem modTile_loadBuf : (modTile s t f).loadBuf = s.loadBuf := rfl
@[simp] theorem modTile_routes : (modTile s t f).routes = s.routes := rfl
@[simp] theorem modTile_writesOpen : (modTile s t f).writesOpen = s.writesOpen := rfl
@[simp] theorem modTile_heldW : (modTile s t f).heldW = s.heldW := rfl
@[simp] theorem modTile_arrivals : (modTile s t f).arrivals = s.arrivals := rfl
@[simp] theorem modTile_bezel : (modTile s t f).bezel = s.bezel := rfl
@[simp] theorem modTile_dacs : (modTile s t f).dacs = s.dacs := rfl
@[simp] theorem modTile_adcFly : (modTile s t f).adcFly = s.adcFly := rfl
@[simp] theorem modTile_adcVal : (modTile s t f).adcVal = s.adcVal := rfl
@[simp] theorem modTile_adcNext : (modTile s t f).adcNext = s.adcNext := rfl
@[simp] theorem modTile_diQ : (modTile s t f).diQ = s.diQ := rfl
@[simp] theorem modTile_loupe : (modTile s t f).loupe = s.loupe := rfl
@[simp] theorem modTile_host : (modTile s t f).host = s.host := rfl
@[simp] theorem modTile_ser : (modTile s t f).ser = s.ser := rfl
@[simp] theorem modTile_power : (modTile s t f).power = s.power := rfl
@[simp] theorem modTile_flash : (modTile s t f).flash = s.flash := rfl
@[simp] theorem modTile_load : (modTile s t f).load = s.load := rfl
@[simp] theorem modTile_recov : (modTile s t f).recov = s.recov := rfl
@[simp] theorem modTile_evq : (modTile s t f).evq = s.evq := rfl
@[simp] theorem modTile_evLost : (modTile s t f).evLost = s.evLost := rfl
end

/-! A position: `setProt` changes `prot` alone. -/

section
variable (n : Nat) (x : Prot)
@[simp] theorem setProt_pending : (setProt s n x).pending = s.pending := rfl
@[simp] theorem setProt_free : (setProt s n x).free = s.free := rfl
@[simp] theorem setProt_tb : (setProt s n x).tb = s.tb := rfl
@[simp] theorem setProt_ticks : (setProt s n x).ticks = s.ticks := rfl
@[simp] theorem setProt_tbStep : (setProt s n x).tbStep = s.tbStep := rfl
@[simp] theorem setProt_tbPast : (setProt s n x).tbPast = s.tbPast := rfl
@[simp] theorem setProt_timeSeen : (setProt s n x).timeSeen = s.timeSeen := rfl
@[simp] theorem setProt_age : (setProt s n x).age = s.age := rfl
@[simp] theorem setProt_released : (setProt s n x).released = s.released := rfl
@[simp] theorem setProt_outRel : (setProt s n x).outRel = s.outRel := rfl
@[simp] theorem setProt_regs : (setProt s n x).regs = s.regs := rfl
@[simp] theorem setProt_wide : (setProt s n x).wide = s.wide := rfl
@[simp] theorem setProt_mem : (setProt s n x).mem = s.mem := rfl
@[simp] theorem setProt_marks : (setProt s n x).marks = s.marks := rfl
@[simp] theorem setProt_wback : (setProt s n x).wback = s.wback := rfl
@[simp] theorem setProt_cyc : (setProt s n x).cyc = s.cyc := rfl
@[simp] theorem setProt_hostMem : (setProt s n x).hostMem = s.hostMem := rfl
@[simp] theorem setProt_tiles : (setProt s n x).tiles = s.tiles := rfl
@[simp] theorem setProt_rj : (setProt s n x).rj = s.rj := rfl
@[simp] theorem setProt_lockets : (setProt s n x).lockets = s.lockets := rfl
@[simp] theorem setProt_lockHid : (setProt s n x).lockHid = s.lockHid := rfl
@[simp] theorem setProt_nextEpoch : (setProt s n x).nextEpoch = s.nextEpoch := rfl
@[simp] theorem setProt_mirrorAt : (setProt s n x).mirrorAt = s.mirrorAt := rfl
@[simp] theorem setProt_clasps : (setProt s n x).clasps = s.clasps := rfl
@[simp] theorem setProt_portOut : (setProt s n x).portOut = s.portOut := rfl
@[simp] theorem setProt_clkSw : (setProt s n x).clkSw = s.clkSw := rfl
@[simp] theorem setProt_govG : (setProt s n x).govG = s.govG := rfl
@[simp] theorem setProt_coolA : (setProt s n x).coolA = s.coolA := rfl
@[simp] theorem setProt_bezelTemp : (setProt s n x).bezelTemp = s.bezelTemp := rfl
@[simp] theorem setProt_trims : (setProt s n x).trims = s.trims := rfl
@[simp] theorem setProt_railsGo : (setProt s n x).railsGo = s.railsGo := rfl
@[simp] theorem setProt_pwrTo : (setProt s n x).pwrTo = s.pwrTo := rfl
@[simp] theorem setProt_pwrQ : (setProt s n x).pwrQ = s.pwrQ := rfl
@[simp] theorem setProt_polish : (setProt s n x).polish = s.polish := rfl
@[simp] theorem setProt_spareCopy : (setProt s n x).spareCopy = s.spareCopy := rfl
@[simp] theorem setProt_lastRead : (setProt s n x).lastRead = s.lastRead := rfl
@[simp] theorem setProt_net : (setProt s n x).net = s.net := rfl
@[simp] theorem setProt_txns : (setProt s n x).txns = s.txns := rfl
@[simp] theorem setProt_ends : (setProt s n x).ends = s.ends := rfl
@[simp] theorem setProt_fails : (setProt s n x).fails = s.fails := rfl
@[simp] theorem setProt_retry : (setProt s n x).retry = s.retry := rfl
@[simp] theorem setProt_detour : (setProt s n x).detour = s.detour := rfl
@[simp] theorem setProt_rr : (setProt s n x).rr = s.rr := rfl
@[simp] theorem setProt_dma : (setProt s n x).dma = s.dma := rfl
@[simp] theorem setProt_dmaRr : (setProt s n x).dmaRr = s.dmaRr := rfl
@[simp] theorem setProt_zsend : (setProt s n x).zsend = s.zsend := rfl
@[simp] theorem setProt_vecPend : (setProt s n x).vecPend = s.vecPend := rfl
@[simp] theorem setProt_lines : (setProt s n x).lines = s.lines := rfl
@[simp] theorem setProt_ethQ : (setProt s n x).ethQ = s.ethQ := rfl
@[simp] theorem setProt_tsFifo : (setProt s n x).tsFifo = s.tsFifo := rfl
@[simp] theorem setProt_mirror : (setProt s n x).mirror = s.mirror := rfl
@[simp] theorem setProt_strand : (setProt s n x).strand = s.strand := rfl
@[simp] theorem setProt_gates : (setProt s n x).gates = s.gates := rfl
@[simp] theorem setProt_ethSent : (setProt s n x).ethSent = s.ethSent := rfl
@[simp] theorem setProt_loadBuf : (setProt s n x).loadBuf = s.loadBuf := rfl
@[simp] theorem setProt_routes : (setProt s n x).routes = s.routes := rfl
@[simp] theorem setProt_writesOpen : (setProt s n x).writesOpen = s.writesOpen := rfl
@[simp] theorem setProt_heldW : (setProt s n x).heldW = s.heldW := rfl
@[simp] theorem setProt_arrivals : (setProt s n x).arrivals = s.arrivals := rfl
@[simp] theorem setProt_bezel : (setProt s n x).bezel = s.bezel := rfl
@[simp] theorem setProt_dacs : (setProt s n x).dacs = s.dacs := rfl
@[simp] theorem setProt_adcFly : (setProt s n x).adcFly = s.adcFly := rfl
@[simp] theorem setProt_adcVal : (setProt s n x).adcVal = s.adcVal := rfl
@[simp] theorem setProt_adcNext : (setProt s n x).adcNext = s.adcNext := rfl
@[simp] theorem setProt_diQ : (setProt s n x).diQ = s.diQ := rfl
@[simp] theorem setProt_loupe : (setProt s n x).loupe = s.loupe := rfl
@[simp] theorem setProt_host : (setProt s n x).host = s.host := rfl
@[simp] theorem setProt_ser : (setProt s n x).ser = s.ser := rfl
@[simp] theorem setProt_power : (setProt s n x).power = s.power := rfl
@[simp] theorem setProt_flash : (setProt s n x).flash = s.flash := rfl
@[simp] theorem setProt_load : (setProt s n x).load = s.load := rfl
@[simp] theorem setProt_recov : (setProt s n x).recov = s.recov := rfl
@[simp] theorem setProt_evq : (setProt s n x).evq = s.evq := rfl
@[simp] theorem setProt_evLost : (setProt s n x).evLost = s.evLost := rfl
end

/-! A change of a position: `modProt` changes `prot` alone. -/

section
variable (n : Nat) (f : Prot → Prot)
@[simp] theorem modProt_pending : (modProt s n f).pending = s.pending := rfl
@[simp] theorem modProt_free : (modProt s n f).free = s.free := rfl
@[simp] theorem modProt_tb : (modProt s n f).tb = s.tb := rfl
@[simp] theorem modProt_ticks : (modProt s n f).ticks = s.ticks := rfl
@[simp] theorem modProt_tbStep : (modProt s n f).tbStep = s.tbStep := rfl
@[simp] theorem modProt_tbPast : (modProt s n f).tbPast = s.tbPast := rfl
@[simp] theorem modProt_timeSeen : (modProt s n f).timeSeen = s.timeSeen := rfl
@[simp] theorem modProt_age : (modProt s n f).age = s.age := rfl
@[simp] theorem modProt_released : (modProt s n f).released = s.released := rfl
@[simp] theorem modProt_outRel : (modProt s n f).outRel = s.outRel := rfl
@[simp] theorem modProt_regs : (modProt s n f).regs = s.regs := rfl
@[simp] theorem modProt_wide : (modProt s n f).wide = s.wide := rfl
@[simp] theorem modProt_mem : (modProt s n f).mem = s.mem := rfl
@[simp] theorem modProt_marks : (modProt s n f).marks = s.marks := rfl
@[simp] theorem modProt_wback : (modProt s n f).wback = s.wback := rfl
@[simp] theorem modProt_cyc : (modProt s n f).cyc = s.cyc := rfl
@[simp] theorem modProt_hostMem : (modProt s n f).hostMem = s.hostMem := rfl
@[simp] theorem modProt_tiles : (modProt s n f).tiles = s.tiles := rfl
@[simp] theorem modProt_rj : (modProt s n f).rj = s.rj := rfl
@[simp] theorem modProt_lockets : (modProt s n f).lockets = s.lockets := rfl
@[simp] theorem modProt_lockHid : (modProt s n f).lockHid = s.lockHid := rfl
@[simp] theorem modProt_nextEpoch : (modProt s n f).nextEpoch = s.nextEpoch := rfl
@[simp] theorem modProt_mirrorAt : (modProt s n f).mirrorAt = s.mirrorAt := rfl
@[simp] theorem modProt_clasps : (modProt s n f).clasps = s.clasps := rfl
@[simp] theorem modProt_portOut : (modProt s n f).portOut = s.portOut := rfl
@[simp] theorem modProt_clkSw : (modProt s n f).clkSw = s.clkSw := rfl
@[simp] theorem modProt_govG : (modProt s n f).govG = s.govG := rfl
@[simp] theorem modProt_coolA : (modProt s n f).coolA = s.coolA := rfl
@[simp] theorem modProt_bezelTemp : (modProt s n f).bezelTemp = s.bezelTemp := rfl
@[simp] theorem modProt_trims : (modProt s n f).trims = s.trims := rfl
@[simp] theorem modProt_railsGo : (modProt s n f).railsGo = s.railsGo := rfl
@[simp] theorem modProt_pwrTo : (modProt s n f).pwrTo = s.pwrTo := rfl
@[simp] theorem modProt_pwrQ : (modProt s n f).pwrQ = s.pwrQ := rfl
@[simp] theorem modProt_polish : (modProt s n f).polish = s.polish := rfl
@[simp] theorem modProt_spareCopy : (modProt s n f).spareCopy = s.spareCopy := rfl
@[simp] theorem modProt_lastRead : (modProt s n f).lastRead = s.lastRead := rfl
@[simp] theorem modProt_net : (modProt s n f).net = s.net := rfl
@[simp] theorem modProt_txns : (modProt s n f).txns = s.txns := rfl
@[simp] theorem modProt_ends : (modProt s n f).ends = s.ends := rfl
@[simp] theorem modProt_fails : (modProt s n f).fails = s.fails := rfl
@[simp] theorem modProt_retry : (modProt s n f).retry = s.retry := rfl
@[simp] theorem modProt_detour : (modProt s n f).detour = s.detour := rfl
@[simp] theorem modProt_rr : (modProt s n f).rr = s.rr := rfl
@[simp] theorem modProt_dma : (modProt s n f).dma = s.dma := rfl
@[simp] theorem modProt_dmaRr : (modProt s n f).dmaRr = s.dmaRr := rfl
@[simp] theorem modProt_zsend : (modProt s n f).zsend = s.zsend := rfl
@[simp] theorem modProt_vecPend : (modProt s n f).vecPend = s.vecPend := rfl
@[simp] theorem modProt_lines : (modProt s n f).lines = s.lines := rfl
@[simp] theorem modProt_ethQ : (modProt s n f).ethQ = s.ethQ := rfl
@[simp] theorem modProt_tsFifo : (modProt s n f).tsFifo = s.tsFifo := rfl
@[simp] theorem modProt_mirror : (modProt s n f).mirror = s.mirror := rfl
@[simp] theorem modProt_strand : (modProt s n f).strand = s.strand := rfl
@[simp] theorem modProt_gates : (modProt s n f).gates = s.gates := rfl
@[simp] theorem modProt_ethSent : (modProt s n f).ethSent = s.ethSent := rfl
@[simp] theorem modProt_loadBuf : (modProt s n f).loadBuf = s.loadBuf := rfl
@[simp] theorem modProt_routes : (modProt s n f).routes = s.routes := rfl
@[simp] theorem modProt_writesOpen : (modProt s n f).writesOpen = s.writesOpen := rfl
@[simp] theorem modProt_heldW : (modProt s n f).heldW = s.heldW := rfl
@[simp] theorem modProt_arrivals : (modProt s n f).arrivals = s.arrivals := rfl
@[simp] theorem modProt_bezel : (modProt s n f).bezel = s.bezel := rfl
@[simp] theorem modProt_dacs : (modProt s n f).dacs = s.dacs := rfl
@[simp] theorem modProt_adcFly : (modProt s n f).adcFly = s.adcFly := rfl
@[simp] theorem modProt_adcVal : (modProt s n f).adcVal = s.adcVal := rfl
@[simp] theorem modProt_adcNext : (modProt s n f).adcNext = s.adcNext := rfl
@[simp] theorem modProt_diQ : (modProt s n f).diQ = s.diQ := rfl
@[simp] theorem modProt_loupe : (modProt s n f).loupe = s.loupe := rfl
@[simp] theorem modProt_host : (modProt s n f).host = s.host := rfl
@[simp] theorem modProt_ser : (modProt s n f).ser = s.ser := rfl
@[simp] theorem modProt_power : (modProt s n f).power = s.power := rfl
@[simp] theorem modProt_flash : (modProt s n f).flash = s.flash := rfl
@[simp] theorem modProt_load : (modProt s n f).load = s.load := rfl
@[simp] theorem modProt_recov : (modProt s n f).recov = s.recov := rfl
@[simp] theorem modProt_evq : (modProt s n f).evq = s.evq := rfl
@[simp] theorem modProt_evLost : (modProt s n f).evLost = s.evLost := rfl
end

/-! A journal writer: `setRj` changes `rj` alone. -/

section
variable (r : Nat) (x : RegionJ)
@[simp] theorem setRj_pending : (setRj s r x).pending = s.pending := rfl
@[simp] theorem setRj_free : (setRj s r x).free = s.free := rfl
@[simp] theorem setRj_tb : (setRj s r x).tb = s.tb := rfl
@[simp] theorem setRj_ticks : (setRj s r x).ticks = s.ticks := rfl
@[simp] theorem setRj_tbStep : (setRj s r x).tbStep = s.tbStep := rfl
@[simp] theorem setRj_tbPast : (setRj s r x).tbPast = s.tbPast := rfl
@[simp] theorem setRj_timeSeen : (setRj s r x).timeSeen = s.timeSeen := rfl
@[simp] theorem setRj_age : (setRj s r x).age = s.age := rfl
@[simp] theorem setRj_released : (setRj s r x).released = s.released := rfl
@[simp] theorem setRj_outRel : (setRj s r x).outRel = s.outRel := rfl
@[simp] theorem setRj_regs : (setRj s r x).regs = s.regs := rfl
@[simp] theorem setRj_wide : (setRj s r x).wide = s.wide := rfl
@[simp] theorem setRj_mem : (setRj s r x).mem = s.mem := rfl
@[simp] theorem setRj_marks : (setRj s r x).marks = s.marks := rfl
@[simp] theorem setRj_wback : (setRj s r x).wback = s.wback := rfl
@[simp] theorem setRj_cyc : (setRj s r x).cyc = s.cyc := rfl
@[simp] theorem setRj_hostMem : (setRj s r x).hostMem = s.hostMem := rfl
@[simp] theorem setRj_tiles : (setRj s r x).tiles = s.tiles := rfl
@[simp] theorem setRj_prot : (setRj s r x).prot = s.prot := rfl
@[simp] theorem setRj_lockets : (setRj s r x).lockets = s.lockets := rfl
@[simp] theorem setRj_lockHid : (setRj s r x).lockHid = s.lockHid := rfl
@[simp] theorem setRj_nextEpoch : (setRj s r x).nextEpoch = s.nextEpoch := rfl
@[simp] theorem setRj_mirrorAt : (setRj s r x).mirrorAt = s.mirrorAt := rfl
@[simp] theorem setRj_clasps : (setRj s r x).clasps = s.clasps := rfl
@[simp] theorem setRj_portOut : (setRj s r x).portOut = s.portOut := rfl
@[simp] theorem setRj_clkSw : (setRj s r x).clkSw = s.clkSw := rfl
@[simp] theorem setRj_govG : (setRj s r x).govG = s.govG := rfl
@[simp] theorem setRj_coolA : (setRj s r x).coolA = s.coolA := rfl
@[simp] theorem setRj_bezelTemp : (setRj s r x).bezelTemp = s.bezelTemp := rfl
@[simp] theorem setRj_trims : (setRj s r x).trims = s.trims := rfl
@[simp] theorem setRj_railsGo : (setRj s r x).railsGo = s.railsGo := rfl
@[simp] theorem setRj_pwrTo : (setRj s r x).pwrTo = s.pwrTo := rfl
@[simp] theorem setRj_pwrQ : (setRj s r x).pwrQ = s.pwrQ := rfl
@[simp] theorem setRj_polish : (setRj s r x).polish = s.polish := rfl
@[simp] theorem setRj_spareCopy : (setRj s r x).spareCopy = s.spareCopy := rfl
@[simp] theorem setRj_lastRead : (setRj s r x).lastRead = s.lastRead := rfl
@[simp] theorem setRj_net : (setRj s r x).net = s.net := rfl
@[simp] theorem setRj_txns : (setRj s r x).txns = s.txns := rfl
@[simp] theorem setRj_ends : (setRj s r x).ends = s.ends := rfl
@[simp] theorem setRj_fails : (setRj s r x).fails = s.fails := rfl
@[simp] theorem setRj_retry : (setRj s r x).retry = s.retry := rfl
@[simp] theorem setRj_detour : (setRj s r x).detour = s.detour := rfl
@[simp] theorem setRj_rr : (setRj s r x).rr = s.rr := rfl
@[simp] theorem setRj_dma : (setRj s r x).dma = s.dma := rfl
@[simp] theorem setRj_dmaRr : (setRj s r x).dmaRr = s.dmaRr := rfl
@[simp] theorem setRj_zsend : (setRj s r x).zsend = s.zsend := rfl
@[simp] theorem setRj_vecPend : (setRj s r x).vecPend = s.vecPend := rfl
@[simp] theorem setRj_lines : (setRj s r x).lines = s.lines := rfl
@[simp] theorem setRj_ethQ : (setRj s r x).ethQ = s.ethQ := rfl
@[simp] theorem setRj_tsFifo : (setRj s r x).tsFifo = s.tsFifo := rfl
@[simp] theorem setRj_mirror : (setRj s r x).mirror = s.mirror := rfl
@[simp] theorem setRj_strand : (setRj s r x).strand = s.strand := rfl
@[simp] theorem setRj_gates : (setRj s r x).gates = s.gates := rfl
@[simp] theorem setRj_ethSent : (setRj s r x).ethSent = s.ethSent := rfl
@[simp] theorem setRj_loadBuf : (setRj s r x).loadBuf = s.loadBuf := rfl
@[simp] theorem setRj_routes : (setRj s r x).routes = s.routes := rfl
@[simp] theorem setRj_writesOpen : (setRj s r x).writesOpen = s.writesOpen := rfl
@[simp] theorem setRj_heldW : (setRj s r x).heldW = s.heldW := rfl
@[simp] theorem setRj_arrivals : (setRj s r x).arrivals = s.arrivals := rfl
@[simp] theorem setRj_bezel : (setRj s r x).bezel = s.bezel := rfl
@[simp] theorem setRj_dacs : (setRj s r x).dacs = s.dacs := rfl
@[simp] theorem setRj_adcFly : (setRj s r x).adcFly = s.adcFly := rfl
@[simp] theorem setRj_adcVal : (setRj s r x).adcVal = s.adcVal := rfl
@[simp] theorem setRj_adcNext : (setRj s r x).adcNext = s.adcNext := rfl
@[simp] theorem setRj_diQ : (setRj s r x).diQ = s.diQ := rfl
@[simp] theorem setRj_loupe : (setRj s r x).loupe = s.loupe := rfl
@[simp] theorem setRj_host : (setRj s r x).host = s.host := rfl
@[simp] theorem setRj_ser : (setRj s r x).ser = s.ser := rfl
@[simp] theorem setRj_power : (setRj s r x).power = s.power := rfl
@[simp] theorem setRj_flash : (setRj s r x).flash = s.flash := rfl
@[simp] theorem setRj_load : (setRj s r x).load = s.load := rfl
@[simp] theorem setRj_recov : (setRj s r x).recov = s.recov := rfl
@[simp] theorem setRj_evq : (setRj s r x).evq = s.evq := rfl
@[simp] theorem setRj_evLost : (setRj s r x).evLost = s.evLost := rfl
end

/-! A byte: `setByte` changes `mem` alone. -/

section
variable (a : Nat) (b : Byte)
@[simp] theorem setByte_pending : (setByte s a b).pending = s.pending := rfl
@[simp] theorem setByte_free : (setByte s a b).free = s.free := rfl
@[simp] theorem setByte_tb : (setByte s a b).tb = s.tb := rfl
@[simp] theorem setByte_ticks : (setByte s a b).ticks = s.ticks := rfl
@[simp] theorem setByte_tbStep : (setByte s a b).tbStep = s.tbStep := rfl
@[simp] theorem setByte_tbPast : (setByte s a b).tbPast = s.tbPast := rfl
@[simp] theorem setByte_timeSeen : (setByte s a b).timeSeen = s.timeSeen := rfl
@[simp] theorem setByte_age : (setByte s a b).age = s.age := rfl
@[simp] theorem setByte_released : (setByte s a b).released = s.released := rfl
@[simp] theorem setByte_outRel : (setByte s a b).outRel = s.outRel := rfl
@[simp] theorem setByte_regs : (setByte s a b).regs = s.regs := rfl
@[simp] theorem setByte_wide : (setByte s a b).wide = s.wide := rfl
@[simp] theorem setByte_marks : (setByte s a b).marks = s.marks := rfl
@[simp] theorem setByte_wback : (setByte s a b).wback = s.wback := rfl
@[simp] theorem setByte_cyc : (setByte s a b).cyc = s.cyc := rfl
@[simp] theorem setByte_hostMem : (setByte s a b).hostMem = s.hostMem := rfl
@[simp] theorem setByte_tiles : (setByte s a b).tiles = s.tiles := rfl
@[simp] theorem setByte_prot : (setByte s a b).prot = s.prot := rfl
@[simp] theorem setByte_rj : (setByte s a b).rj = s.rj := rfl
@[simp] theorem setByte_lockets : (setByte s a b).lockets = s.lockets := rfl
@[simp] theorem setByte_lockHid : (setByte s a b).lockHid = s.lockHid := rfl
@[simp] theorem setByte_nextEpoch : (setByte s a b).nextEpoch = s.nextEpoch := rfl
@[simp] theorem setByte_mirrorAt : (setByte s a b).mirrorAt = s.mirrorAt := rfl
@[simp] theorem setByte_clasps : (setByte s a b).clasps = s.clasps := rfl
@[simp] theorem setByte_portOut : (setByte s a b).portOut = s.portOut := rfl
@[simp] theorem setByte_clkSw : (setByte s a b).clkSw = s.clkSw := rfl
@[simp] theorem setByte_govG : (setByte s a b).govG = s.govG := rfl
@[simp] theorem setByte_coolA : (setByte s a b).coolA = s.coolA := rfl
@[simp] theorem setByte_bezelTemp : (setByte s a b).bezelTemp = s.bezelTemp := rfl
@[simp] theorem setByte_trims : (setByte s a b).trims = s.trims := rfl
@[simp] theorem setByte_railsGo : (setByte s a b).railsGo = s.railsGo := rfl
@[simp] theorem setByte_pwrTo : (setByte s a b).pwrTo = s.pwrTo := rfl
@[simp] theorem setByte_pwrQ : (setByte s a b).pwrQ = s.pwrQ := rfl
@[simp] theorem setByte_polish : (setByte s a b).polish = s.polish := rfl
@[simp] theorem setByte_spareCopy : (setByte s a b).spareCopy = s.spareCopy := rfl
@[simp] theorem setByte_lastRead : (setByte s a b).lastRead = s.lastRead := rfl
@[simp] theorem setByte_net : (setByte s a b).net = s.net := rfl
@[simp] theorem setByte_txns : (setByte s a b).txns = s.txns := rfl
@[simp] theorem setByte_ends : (setByte s a b).ends = s.ends := rfl
@[simp] theorem setByte_fails : (setByte s a b).fails = s.fails := rfl
@[simp] theorem setByte_retry : (setByte s a b).retry = s.retry := rfl
@[simp] theorem setByte_detour : (setByte s a b).detour = s.detour := rfl
@[simp] theorem setByte_rr : (setByte s a b).rr = s.rr := rfl
@[simp] theorem setByte_dma : (setByte s a b).dma = s.dma := rfl
@[simp] theorem setByte_dmaRr : (setByte s a b).dmaRr = s.dmaRr := rfl
@[simp] theorem setByte_zsend : (setByte s a b).zsend = s.zsend := rfl
@[simp] theorem setByte_vecPend : (setByte s a b).vecPend = s.vecPend := rfl
@[simp] theorem setByte_lines : (setByte s a b).lines = s.lines := rfl
@[simp] theorem setByte_ethQ : (setByte s a b).ethQ = s.ethQ := rfl
@[simp] theorem setByte_tsFifo : (setByte s a b).tsFifo = s.tsFifo := rfl
@[simp] theorem setByte_mirror : (setByte s a b).mirror = s.mirror := rfl
@[simp] theorem setByte_strand : (setByte s a b).strand = s.strand := rfl
@[simp] theorem setByte_gates : (setByte s a b).gates = s.gates := rfl
@[simp] theorem setByte_ethSent : (setByte s a b).ethSent = s.ethSent := rfl
@[simp] theorem setByte_loadBuf : (setByte s a b).loadBuf = s.loadBuf := rfl
@[simp] theorem setByte_routes : (setByte s a b).routes = s.routes := rfl
@[simp] theorem setByte_writesOpen : (setByte s a b).writesOpen = s.writesOpen := rfl
@[simp] theorem setByte_heldW : (setByte s a b).heldW = s.heldW := rfl
@[simp] theorem setByte_arrivals : (setByte s a b).arrivals = s.arrivals := rfl
@[simp] theorem setByte_bezel : (setByte s a b).bezel = s.bezel := rfl
@[simp] theorem setByte_dacs : (setByte s a b).dacs = s.dacs := rfl
@[simp] theorem setByte_adcFly : (setByte s a b).adcFly = s.adcFly := rfl
@[simp] theorem setByte_adcVal : (setByte s a b).adcVal = s.adcVal := rfl
@[simp] theorem setByte_adcNext : (setByte s a b).adcNext = s.adcNext := rfl
@[simp] theorem setByte_diQ : (setByte s a b).diQ = s.diQ := rfl
@[simp] theorem setByte_loupe : (setByte s a b).loupe = s.loupe := rfl
@[simp] theorem setByte_host : (setByte s a b).host = s.host := rfl
@[simp] theorem setByte_ser : (setByte s a b).ser = s.ser := rfl
@[simp] theorem setByte_power : (setByte s a b).power = s.power := rfl
@[simp] theorem setByte_flash : (setByte s a b).flash = s.flash := rfl
@[simp] theorem setByte_load : (setByte s a b).load = s.load := rfl
@[simp] theorem setByte_recov : (setByte s a b).recov = s.recov := rfl
@[simp] theorem setByte_evq : (setByte s a b).evq = s.evq := rfl
@[simp] theorem setByte_evLost : (setByte s a b).evLost = s.evLost := rfl
end

/-! An ECC state: `setMark` changes `marks` alone. -/

section
variable (a : Nat) (m : Mark)
@[simp] theorem setMark_pending : (setMark s a m).pending = s.pending := rfl
@[simp] theorem setMark_free : (setMark s a m).free = s.free := rfl
@[simp] theorem setMark_tb : (setMark s a m).tb = s.tb := rfl
@[simp] theorem setMark_ticks : (setMark s a m).ticks = s.ticks := rfl
@[simp] theorem setMark_tbStep : (setMark s a m).tbStep = s.tbStep := rfl
@[simp] theorem setMark_tbPast : (setMark s a m).tbPast = s.tbPast := rfl
@[simp] theorem setMark_timeSeen : (setMark s a m).timeSeen = s.timeSeen := rfl
@[simp] theorem setMark_age : (setMark s a m).age = s.age := rfl
@[simp] theorem setMark_released : (setMark s a m).released = s.released := rfl
@[simp] theorem setMark_outRel : (setMark s a m).outRel = s.outRel := rfl
@[simp] theorem setMark_regs : (setMark s a m).regs = s.regs := rfl
@[simp] theorem setMark_wide : (setMark s a m).wide = s.wide := rfl
@[simp] theorem setMark_mem : (setMark s a m).mem = s.mem := rfl
@[simp] theorem setMark_wback : (setMark s a m).wback = s.wback := rfl
@[simp] theorem setMark_cyc : (setMark s a m).cyc = s.cyc := rfl
@[simp] theorem setMark_hostMem : (setMark s a m).hostMem = s.hostMem := rfl
@[simp] theorem setMark_tiles : (setMark s a m).tiles = s.tiles := rfl
@[simp] theorem setMark_prot : (setMark s a m).prot = s.prot := rfl
@[simp] theorem setMark_rj : (setMark s a m).rj = s.rj := rfl
@[simp] theorem setMark_lockets : (setMark s a m).lockets = s.lockets := rfl
@[simp] theorem setMark_lockHid : (setMark s a m).lockHid = s.lockHid := rfl
@[simp] theorem setMark_nextEpoch : (setMark s a m).nextEpoch = s.nextEpoch := rfl
@[simp] theorem setMark_mirrorAt : (setMark s a m).mirrorAt = s.mirrorAt := rfl
@[simp] theorem setMark_clasps : (setMark s a m).clasps = s.clasps := rfl
@[simp] theorem setMark_portOut : (setMark s a m).portOut = s.portOut := rfl
@[simp] theorem setMark_clkSw : (setMark s a m).clkSw = s.clkSw := rfl
@[simp] theorem setMark_govG : (setMark s a m).govG = s.govG := rfl
@[simp] theorem setMark_coolA : (setMark s a m).coolA = s.coolA := rfl
@[simp] theorem setMark_bezelTemp : (setMark s a m).bezelTemp = s.bezelTemp := rfl
@[simp] theorem setMark_trims : (setMark s a m).trims = s.trims := rfl
@[simp] theorem setMark_railsGo : (setMark s a m).railsGo = s.railsGo := rfl
@[simp] theorem setMark_pwrTo : (setMark s a m).pwrTo = s.pwrTo := rfl
@[simp] theorem setMark_pwrQ : (setMark s a m).pwrQ = s.pwrQ := rfl
@[simp] theorem setMark_polish : (setMark s a m).polish = s.polish := rfl
@[simp] theorem setMark_spareCopy : (setMark s a m).spareCopy = s.spareCopy := rfl
@[simp] theorem setMark_lastRead : (setMark s a m).lastRead = s.lastRead := rfl
@[simp] theorem setMark_net : (setMark s a m).net = s.net := rfl
@[simp] theorem setMark_txns : (setMark s a m).txns = s.txns := rfl
@[simp] theorem setMark_ends : (setMark s a m).ends = s.ends := rfl
@[simp] theorem setMark_fails : (setMark s a m).fails = s.fails := rfl
@[simp] theorem setMark_retry : (setMark s a m).retry = s.retry := rfl
@[simp] theorem setMark_detour : (setMark s a m).detour = s.detour := rfl
@[simp] theorem setMark_rr : (setMark s a m).rr = s.rr := rfl
@[simp] theorem setMark_dma : (setMark s a m).dma = s.dma := rfl
@[simp] theorem setMark_dmaRr : (setMark s a m).dmaRr = s.dmaRr := rfl
@[simp] theorem setMark_zsend : (setMark s a m).zsend = s.zsend := rfl
@[simp] theorem setMark_vecPend : (setMark s a m).vecPend = s.vecPend := rfl
@[simp] theorem setMark_lines : (setMark s a m).lines = s.lines := rfl
@[simp] theorem setMark_ethQ : (setMark s a m).ethQ = s.ethQ := rfl
@[simp] theorem setMark_tsFifo : (setMark s a m).tsFifo = s.tsFifo := rfl
@[simp] theorem setMark_mirror : (setMark s a m).mirror = s.mirror := rfl
@[simp] theorem setMark_strand : (setMark s a m).strand = s.strand := rfl
@[simp] theorem setMark_gates : (setMark s a m).gates = s.gates := rfl
@[simp] theorem setMark_ethSent : (setMark s a m).ethSent = s.ethSent := rfl
@[simp] theorem setMark_loadBuf : (setMark s a m).loadBuf = s.loadBuf := rfl
@[simp] theorem setMark_routes : (setMark s a m).routes = s.routes := rfl
@[simp] theorem setMark_writesOpen : (setMark s a m).writesOpen = s.writesOpen := rfl
@[simp] theorem setMark_heldW : (setMark s a m).heldW = s.heldW := rfl
@[simp] theorem setMark_arrivals : (setMark s a m).arrivals = s.arrivals := rfl
@[simp] theorem setMark_bezel : (setMark s a m).bezel = s.bezel := rfl
@[simp] theorem setMark_dacs : (setMark s a m).dacs = s.dacs := rfl
@[simp] theorem setMark_adcFly : (setMark s a m).adcFly = s.adcFly := rfl
@[simp] theorem setMark_adcVal : (setMark s a m).adcVal = s.adcVal := rfl
@[simp] theorem setMark_adcNext : (setMark s a m).adcNext = s.adcNext := rfl
@[simp] theorem setMark_diQ : (setMark s a m).diQ = s.diQ := rfl
@[simp] theorem setMark_loupe : (setMark s a m).loupe = s.loupe := rfl
@[simp] theorem setMark_host : (setMark s a m).host = s.host := rfl
@[simp] theorem setMark_ser : (setMark s a m).ser = s.ser := rfl
@[simp] theorem setMark_power : (setMark s a m).power = s.power := rfl
@[simp] theorem setMark_flash : (setMark s a m).flash = s.flash := rfl
@[simp] theorem setMark_load : (setMark s a m).load = s.load := rfl
@[simp] theorem setMark_recov : (setMark s a m).recov = s.recov := rfl
@[simp] theorem setMark_evq : (setMark s a m).evq = s.evq := rfl
@[simp] theorem setMark_evLost : (setMark s a m).evLost = s.evLost := rfl
end

end Sys2Proof.Machine
end

