-- ==== Sys2Proof/Laws/Ops.lean ====
section
/-! SUPPORT. What the shared operations do, one lemma each: reading after writing, memory's canonical form, register fields, and events. -/

namespace Sys2Proof.Machine
open Sys2Proof Sys2Proof.Safety

/-! ### Reading after writing -/

theorem regAt_setRegAt (s : State) (p off : Nat) (w : Word) (q o : Nat) :
    regAt (setRegAt s p off w) q o = if q * 1024 + o / 4 = p * 1024 + off / 4 then w else regAt s q o := look_put ..

@[simp] theorem regAt_setRegAt_self (s : State) (p off : Nat) (w : Word) : regAt (setRegAt s p off w) p off = w := look_put_self ..

theorem tileOf_setTile (s : State) (t : Nat) (x : Tile) (n : Nat) : tileOf (setTile s t x) n = if n = t then x else tileOf s n := look_put ..

@[simp] theorem tileOf_setTile_self (s : State) (t : Nat) (x : Tile) : tileOf (setTile s t x) t = x := look_put_self ..

theorem tileOf_modTile (s : State) (t : Nat) (f : Tile → Tile) (n : Nat) :
    tileOf (modTile s t f) n = if n = t then f (tileOf s t) else tileOf s n := look_put ..

@[simp] theorem tileOf_modTile_self (s : State) (t : Nat) (f : Tile → Tile) : tileOf (modTile s t f) t = f (tileOf s t) := look_put_self ..

theorem protOf_setProt (s : State) (n : Nat) (x : Prot) (m : Nat) : protOf (setProt s n x) m = if m = n then x else protOf s m := look_put ..

@[simp] theorem protOf_modProt_self (s : State) (n : Nat) (f : Prot → Prot) : protOf (modProt s n f) n = f (protOf s n) := look_put_self ..

theorem rjOf_setRj (s : State) (r : Nat) (x : RegionJ) (m : Nat) : rjOf (setRj s r x) m = if m = r then x else rjOf s m := look_put ..

theorem wideOf_setWide (s : State) (p off v q o : Nat) :
    wideOf (setWide s p off v) q o = if q * 1024 + o / 4 = p * 1024 + off / 4 then v else wideOf s q o := look_put ..

theorem markAt_setMark (s : State) (a : Nat) (m : Mark) (b : Nat) : markAt (setMark s a m) b = if b = a then m else markAt s b := look_put ..

theorem memByte_setByte (s : State) (a : Nat) (b : Byte) (x : Nat) : memByte (setByte s a b) x = if x = a then b else memByte s x := look_put ..

/-- A write of bytes is read back, and leaves every other byte alone. -/
theorem memByte_setBytes (s : State) (a : Nat) (bs : List Byte) (x : Nat) :
    memByte (setBytes s a bs) x = if a ≤ x ∧ x < a + bs.length then bs.getD (x - a) 0 else memByte s x := by
  induction bs generalizing s a with
  | nil => simp only [setBytes, List.length_nil]; rw [if_neg (by omega)]
  | cons b bs ih =>
    simp only [setBytes, ih, memByte_setByte, List.length_cons]
    by_cases h : x = a
    · subst h; rw [if_neg (by omega), if_pos rfl, if_pos (by omega)]; simp
    · rw [if_neg h]
      by_cases g : a + 1 ≤ x ∧ x < a + 1 + bs.length
      · rw [if_pos g, if_pos (by omega)]
        obtain ⟨k, rfl⟩ : ∃ k, x = a + 1 + k := ⟨x - (a + 1), by omega⟩
        simp [show a + 1 + k - a = k + 1 by omega]
      · rw [if_neg g, if_neg (by omega)]

/-- The four bytes of a word make the word (R7). -/
theorem ofBytes_toBytes (w : Word) : ofBytes (toBytes 4 w.toNat) = w.toNat := by
  have := w.isLt
  simp only [toBytes, ofBytes, BitVec.toNat_ofNat, Nat.shiftRight_eq_div_pow, Nat.shiftLeft_eq]
  omega

/-- A word that was written is read back. -/
theorem memWord_setWord (s : State) (a : Nat) (w : Word) : memWord (setWord s a w) a = w := by
  have e : [memByte (setWord s a w) a, memByte (setWord s a w) (a + 1), memByte (setWord s a w) (a + 2), memByte (setWord s a w) (a + 3)] =
      toBytes 4 w.toNat := by
    simp [setWord, memByte_setBytes, toBytes]
  rw [memWord, e, ofBytes_toBytes]
  simp [word]

/-- A word elsewhere is left alone. -/
theorem memWord_setWord_of_apart (s : State) {a b : Nat} (w : Word) (h : b + 4 ≤ a ∨ a + 4 ≤ b) : memWord (setWord s a w) b = memWord s b := by
  simp only [memWord, setWord, memByte_setBytes, toBytes, List.length_cons, List.length_nil]
  rw [if_neg (by omega), if_neg (by omega), if_neg (by omega), if_neg (by omega)]

/-! ### Canonical form -/

theorem wf_setByte {s : State} (h : Memory.wf s.mem = true) (a : Nat) (b : Byte) : Memory.wf (setByte s a b).mem = true := canon_put a b h

theorem wf_setBytes {s : State} (h : Memory.wf s.mem = true) (a : Nat) (bs : List Byte) : Memory.wf (setBytes s a bs).mem = true := by
  induction bs generalizing s a with
  | nil => exact h
  | cons b bs ih => exact ih (wf_setByte h a b) _

theorem wf_setWord {s : State} (h : Memory.wf s.mem = true) (a : Nat) (w : Word) : Memory.wf (setWord s a w).mem = true := wf_setBytes h ..

theorem canon_setMark {s : State} (h : canon Mark.clean s.marks = true) (a : Nat) (m : Mark) : canon Mark.clean (setMark s a m).marks = true :=
  canon_put a m h

theorem canon_setRegAt {s : State} (h : canon 0 s.regs = true) (p off : Nat) (w : Word) : canon 0 (setRegAt s p off w).regs = true :=
  canon_put _ w h

theorem canon_setF {s : State} (h : canon 0 s.regs = true) (p : Nat) (f : Fld) (v : Nat) : canon 0 (setF s p f v).regs = true :=
  canon_setRegAt h ..

theorem wf_reset : Memory.wf State.reset.mem = true := rfl

/-! ### Register fields -/

/-- A number about a field of it: what stands above, in and below. -/
theorem split_field (n lo w : Nat) : n = (n / 2 ^ lo / 2 ^ w * 2 ^ w + n / 2 ^ lo % 2 ^ w) * 2 ^ lo + n % 2 ^ lo := by
  rw [Nat.div_add_mod', Nat.div_add_mod']

/-- A field put into a number is the field read from it. -/
theorem bitsOf_setBits (n hi lo v : Nat) : bitsOf (setBits n hi lo v) hi lo = v % 2 ^ (hi + 1 - lo) := by
  simp only [bitsOf, setBits, Nat.shiftRight_eq_div_pow, Nat.shiftLeft_eq]
  generalize hi + 1 - lo = w
  have e : n - n / 2 ^ lo % 2 ^ w * 2 ^ lo + v % 2 ^ w * 2 ^ lo =
      (n / 2 ^ lo / 2 ^ w * 2 ^ w + v % 2 ^ w) * 2 ^ lo + n % 2 ^ lo := by
    have := split_field n lo w
    rw [Nat.add_mul] at this ⊢
    omega
  rw [e, Nat.mul_comm, Nat.mul_add_div (Nat.two_pow_pos lo), Nat.div_eq_of_lt (Nat.mod_lt n (Nat.two_pow_pos lo)), Nat.add_zero,
    Nat.mul_comm, Nat.mul_add_mod, Nat.mod_mod]

/-- Bits below bit 32 are read from a word as from the number it was made of. -/
theorem bitsOf_word (n hi lo : Nat) (g : hi < 32) : bitsOf (word n).toNat hi lo = bitsOf n hi lo := by
  apply Nat.eq_of_testBit_eq
  intro i
  simp only [bitsOf, word, BitVec.toNat_ofNat, Nat.testBit_mod_two_pow, Nat.testBit_shiftRight]
  by_cases h : i < hi + 1 - lo
  · simp [h, show lo + i < 32 by omega]
  · simp [h]

/-- A field that was written reads as what fits of the value. -/
theorem getF_setF (s : State) (p v : Nat) {f : Fld} (g : f.hi < 32) :
    getF (setF s p f v) p f = v % 2 ^ (f.hi + 1 - f.lo) := by
  simp only [getF, setF, regAt_setRegAt_self]
  rw [bitsOf_word _ _ _ g, bitsOf_setBits]

/-- A field of another register is left alone. -/
theorem getF_setF_of_ne (s : State) {p q v : Nat} {f e : Fld} (h : q * 1024 + e.off / 4 ≠ p * 1024 + f.off / 4) :
    getF (setF s p f v) q e = getF s q e := by
  simp only [getF, setF, regAt_setRegAt, if_neg h]

/-! ### Events -/

theorem regsBut_setRegAt (s : State) (p off : Nat) (w : Word) : RegsBut s (setRegAt s p off w) [regKey p off] := by
  intro k hk
  have : k ≠ p * 1024 + off / 4 := by simpa [regKey] using hk
  simp [setRegAt, look_put, this]

/-- A read of the time base takes a free value and notes what it gave. -/
theorem timeAt_snd (s : State) (p d : Nat) : ∃ f t, (timeAt s p d).2 = { s with free := f, timeSeen := t } := by
  unfold timeAt takeFree
  dsimp only
  split <;> exact ⟨_, _, rfl⟩

/-- A record enters the queue, is lost and counted, or, in a die that is held in reset, is nothing. -/
theorem enqueueRec_cases (s : State) (e : EvRec) :
    (dieReset s = true ∧ enqueueRec s e = s) ∨
    (dieReset s = false ∧ s.evq.length < 256 ∧ enqueueRec s e = { s with evq := s.evq ++ [e] }) ∨
    (dieReset s = false ∧ 256 ≤ s.evq.length ∧
      enqueueRec s e = incF { s with evLost := satAdd 32 s.evLost 1 } pgDEVT DEVT.LOST 1) := by
  unfold enqueueRec
  cases h : dieReset s
  · by_cases g : s.evq.length < 256
    · exact .inr (.inl ⟨rfl, g, by simp [g]⟩)
    · exact .inr (.inr ⟨rfl, by omega, by simp [g]⟩)
  · exact .inl ⟨rfl, rfl⟩

theorem regsBut_refl (s : State) (ks : List Nat) : RegsBut s s ks := fun _ _ => rfl

theorem enqueueRec_only (s : State) (e : EvRec) : OnlyRegsEvents s (enqueueRec s e) [] := by
  rcases enqueueRec_cases s e with ⟨-, h⟩ | ⟨-, -, h⟩ | ⟨-, -, h⟩ <;> rw [h]
  · exact ⟨rfl, regsBut_refl _ _⟩
  · exact ⟨rfl, regsBut_refl _ _⟩
  · exact ⟨rfl, regsBut_setRegAt { s with evLost := satAdd 32 s.evLost 1 } _ _ _⟩

theorem enqueueRec_evq (s : State) (e : EvRec) (h : s.evq.length ≤ 256) : (enqueueRec s e).evq.length ≤ 256 := by
  rcases enqueueRec_cases s e with ⟨-, g⟩ | ⟨-, l, g⟩ | ⟨-, -, g⟩ <;> rw [g]
  · exact h
  · simp; omega
  · exact h

/-- An event moves the queue with its loss count, what a read of the time base moves, and the CONFIG personality's message. -/
theorem pushEvent_only (s : State) (p code bit : Nat) (pend : Bool) (d : Nat) : OnlyRegsEvents s (pushEvent s p code bit pend d) [] := by
  obtain ⟨f, t, h⟩ := timeAt_snd s p d
  simp only [pushEvent, h]
  split
  · have := enqueueRec_only { s with free := f, timeSeen := t, host := { s.host with msi := true } }
    refine ⟨(this _).1, (this _).2⟩
  · have := enqueueRec_only { s with free := f, timeSeen := t }
    refine ⟨(this _).1, (this _).2⟩

theorem pushEvent_evq (s : State) (p code bit : Nat) (pend : Bool) (d : Nat) (h : s.evq.length ≤ 256) :
    (pushEvent s p code bit pend d).evq.length ≤ 256 := by
  obtain ⟨f, t, g⟩ := timeAt_snd s p d
  simp only [pushEvent, g]
  split <;> exact enqueueRec_evq _ _ h

theorem raiseEv_only (s : State) (p code d : Nat) : OnlyRegsEvents s (raiseEv s p code d) [] := pushEvent_only ..

theorem raiseOpt_only (s : State) (p b code d : Nat) : OnlyRegsEvents s (raiseOpt s p b code d) [] := by
  unfold raiseOpt
  split
  · exact pushEvent_only ..
  · exact ⟨rfl, regsBut_refl _ _⟩

/-- Registers moved first, at keys listed, and then by an event. -/
theorem onlyRegsEvents_after_regs {s u t : State} {ks : List Nat} (h : OnlyRegs s u ks) (g : OnlyRegsEvents u t []) :
    OnlyRegsEvents s t ks := by
  refine ⟨?_, fun k hk => ?_⟩
  · rw [g.1, h.1]
  · have hk' : k ∉ ks ∧ k ∉ [regKey pgDEVT DEVT.LOST.off] := by simp_all
    rw [g.2 k hk'.2, h.2 k hk'.1]

theorem setF_only (s : State) (p : Nat) (f : Fld) (v : Nat) : OnlyRegs s (setF s p f v) [regKey p f.off] := ⟨rfl, regsBut_setRegAt _ _ _ _⟩

/-- A refusal counts at its page and is reported (R20). -/
theorem refuseAt_only (s : State) (p code d : Nat) : OnlyRegsEvents s (refuseAt s p code d) [regKey p HDR.ERR_COUNT.off] :=
  onlyRegsEvents_after_regs (setF_only ..) (raiseEv_only ..)

/-- A cause event sets its pending bit, whatever `EVT_EN` holds (R486). -/
theorem raiseCause_only (s : State) (p b code d : Nat) : OnlyRegsEvents s (raiseCause s p b code d) [regKey p HDR.EVT_PEND.off] := by
  unfold raiseCause
  dsimp only
  split
  · exact onlyRegsEvents_after_regs (setF_only s p ⟨HDR.EVT_PEND.off, b, b⟩ 1) (pushEvent_only ..)
  · exact onlyRegsEvents_after_regs (setF_only s p ⟨HDR.EVT_PEND.off, b, b⟩ 1) ⟨rfl, regsBut_refl _ _⟩

/-- A register command: nothing in a die that is held in reset, a wait at a page that takes no write, else the page's own effect. -/
theorem regCmd_cases (p off : Nat) (v : Word) (src : Nat) (f : State → State) (s : State) :
    (dieReset s = true ∧ regCmd p off v src f s = s) ∨
    (dieReset s = false ∧ pageWaits s src p = true ∧ Waits s (regCmd p off v src f s) p off v src) ∨
    (OpenTo s src p ∧ regCmd p off v src f s = f s) := by
  unfold regCmd OpenTo
  cases h : dieReset s
  · cases g : pageWaits s src p
    · exact .inr (.inr ⟨⟨rfl, rfl⟩, rfl⟩)
    · exact .inr (.inl ⟨rfl, rfl, rfl⟩)
  · exact .inl ⟨rfl, rfl⟩

/-- A command to which the page is open has the page's own effect. -/
theorem regCmd_open {p src : Nat} {s : State} (h : OpenTo s src p) (off : Nat) (v : Word) (f : State → State) :
    regCmd p off v src f s = f s := by
  simp [regCmd, h.1, h.2]

end Sys2Proof.Machine
end

