-- ==== Sys2Proof/Tests/Reads.lean ====
section
/-! SUPPORT. The hypotheses of the obligations as Bools that evaluate, each shown to give the hypothesis it stands for;
and the small states that witnesses are built from. -/

namespace Sys2Proof.Tests
open Sys2Proof Sys2Proof.Machine Sys2Proof.Safety

def openB (s : State) (p : Nat) : Bool := !dieReset s && !pageWaits s hostSrc p

theorem open_of_openB {s : State} {p : Nat} (h : openB s p = true) : Open s p := by
  simpa [openB, Open] using h

def openToB (s : State) (src p : Nat) : Bool := !dieReset s && !pageWaits s src p

theorem openTo_of_openToB {s : State} {src p : Nat} (h : openToB s src p = true) : OpenTo s src p := by
  simpa [openToB, OpenTo] using h

def tileOpenB (s : State) (t : TileN) (k : Nat) : Bool := pagesReach s t.val && openB s (tilePage s t k)

theorem tileOpen_of_tileOpenB {s : State} {t : TileN} {k : Nat} (h : tileOpenB s t k = true) : TileOpen s t k := by
  simp only [tileOpenB, Bool.and_eq_true] at h
  exact ⟨h.1, open_of_openB h.2⟩

def fetchesB (s : State) (t : TileN) (op : SeqOp) (fv : Bool) (fs : Fin 16) (o : BitVec 21) : Bool :=
  let x := tileOf s t.val
  !replaying s (posOf s t.val) && mayRun s t.val op && x.retired != 0xFFFFFFFF && !x.retPend &&
  inProgram s t.val x.pc.toNat && fetchable s t.val && !isBad (fetchCode s t.val) &&
  decide (legalOp x (insnWord op fv fs o) = some op) && ruleFault x op o.toNat x.pc.toNat == 0 &&
  !(x.xfer.any fun f => f.left == 1 && f.kind == 1 && freeWindows x == 0)

theorem fetches_of_fetchesB {s : State} {t : TileN} {op : SeqOp} {fv : Bool} {fs : Fin 16} {o : BitVec 21}
    (h : fetchesB s t op fv fs o = true) : Fetches s t op fv fs o := by
  simp only [fetchesB, Bool.and_eq_true, Bool.not_eq_true', bne_iff_ne, beq_iff_eq, decide_eq_true_eq] at h
  obtain ⟨⟨⟨⟨⟨⟨⟨⟨⟨h1, h2⟩, h3⟩, h4⟩, h5⟩, h6⟩, h7⟩, h8⟩, h9⟩, h10⟩ := h
  refine ⟨h1, h2, h3, h4, h5, h6, h7, h8, h9, ?_⟩
  rintro ⟨f, hf, hl, hk⟩ hw
  simp [hf, hl, hk, hw] at h10

def executesB (s : State) (t : TileN) (op : SeqOp) (fv : Bool) (fs : Fin 16) (o : BitVec 21) : Bool :=
  fetchesB s t op fv fs o && decide (cycleStall s t.val op fv fs.val = .none)

theorem executes_of_executesB {s : State} {t : TileN} {op : SeqOp} {fv : Bool} {fs : Fin 16} {o : BitVec 21}
    (h : executesB s t op fv fs o = true) : Executes s t op fv fs o := by
  simp only [executesB, Bool.and_eq_true, decide_eq_true_eq] at h
  exact ⟨fetches_of_fetchesB h.1, h.2⟩

/-- No link has a detour set, so that no interface refuses a route (R306). -/
def routesB (s : State) : Bool := decide (s.detour = [])

theorem routeWhole_of_routesB {s : State} (h : routesB s = true) (fuel r : Nat) (k : Pkt) (hk : k.via = []) :
    routeWhole s fuel r k = true := by
  have hd : ∀ n p, detoured s n p = false := by
    intro n p
    have : s.detour = [] := by simpa [routesB] using h
    simp [detoured, this, look]
  induction fuel generalizing r k with
  | zero => rfl
  | succ n ih =>
    have hw : (nextWay s r k).2 = [] := by
      simp only [nextWay, hk, hd]
      split <;> simp
    simp only [routeWhole]
    split
    · simp [hw, hk, ih, hd]
    · rfl

theorem routeRefused_of_routesB {s : State} (h : routesB s = true) (src a : Nat) : routeRefused s src a = false := by
  unfold routeRefused
  split
  · simp [routeWhole_of_routesB h, blankPkt]
  · rfl

def plainB (s : State) (a n : Nat) : Bool :=
  decide (a + n ≤ 0x800000000) && (decide (a + n ≤ locketBase s) || decide (locketEnd s ≤ a)) &&
  (List.range n).all fun i => markAt s (wordKey (a + i)) == .clean

theorem plainRange_of_plainB {s : State} {a n : Nat} (h : plainB s a n = true) : PlainRange s a n := by
  simp only [plainB, Bool.and_eq_true, Bool.or_eq_true, decide_eq_true_eq, List.all_eq_true, List.mem_range, beq_iff_eq] at h
  exact ⟨h.1.1, h.1.2, h.2⟩

def cleanB (s : State) (st : Nat) : Bool := (List.range 8).all fun i => markAt s (wordKey (st + 4 * i)) == .clean

theorem cleanDesc_of_cleanB {s : State} {st : Nat} (h : cleanB s st = true) : CleanDesc s st := by
  simpa [cleanB, CleanDesc] using h

def atStartB (s : State) (k : Nat) : Bool :=
  chState s k == 2 && !isZilCh k && (feederOf s k).isNone && (oldestWrite s k).isNone && s.writesOpen && s.released && routesB s &&
  decide (dmaOf s k = { dmaOf s k with
    elem := 0, base := 0, rd := 0, rdA := 0, wr := 0, staged := [], stagedA := [], poisoned := [], equal := 0,
    differ := false, outR := 0, outW := 0, code := 0, failAt := none, failElem := 0 })

theorem atStart_of_atStartB {s : State} {k : Nat} (h : atStartB s k = true) : AtStart s k := by
  simp only [atStartB, Bool.and_eq_true, beq_iff_eq, Bool.not_eq_true', Option.isNone_iff_eq_none, decide_eq_true_eq] at h
  exact ⟨h.1.1.1.1.1.1.1, h.1.1.1.1.1.1.2, h.1.1.1.1.1.2, h.1.1.1.1.2, ⟨h.1.1.1.2, h.1.1.2⟩, routeRefused_of_routesB h.1.2 _, h.2⟩

def apartB (a n b m : Nat) : Bool := decide (a + n ≤ b) || decide (b + m ≤ a)

theorem apart_of_apartB {a n b m : Nat} (h : apartB a n b m = true) : Apart a n b m := by
  simpa [apartB, Apart] using h

def goodB (s : State) (d : Dma) (m : Nat) : Bool :=
  decide (0 < m ∧ m ≤ 16 ∧ dLen d = m ∧ d.elems.length = m) && plainB s (dA d) (elemOff d m) &&
  (List.range m).all fun e =>
    let x := d.elems.getD e 0
    decide (bitsOf x 63 48 = 0 ∧ bitsOf x 95 75 = 0 ∧ bitsOf x 127 96 = 0 ∧ 1 ≤ elemLen d e ∧ elemLen d e ≤ 1024) &&
    plainB s (elemAddr d e) (elemLen d e) && apartB (elemAddr d e) (elemLen d e) (dA d) (elemOff d m)

theorem goodList_of_goodB {s : State} {d : Dma} {m : Nat} (h : goodB s d m = true) : GoodList s d m := by
  simp only [goodB, Bool.and_eq_true, decide_eq_true_eq, List.all_eq_true, List.mem_range] at h
  obtain ⟨⟨⟨h1, h2, h3, h4⟩, h5⟩, h6⟩ := h
  refine ⟨h1, h2, h3, h4, plainRange_of_plainB h5, fun e he => ?_⟩
  obtain ⟨⟨⟨g1, g2, g3, g4, g5⟩, g6⟩, g7⟩ := h6 e he
  exact ⟨g1, g2, g3, g4, g5, plainRange_of_plainB g6, apart_of_apartB g7⟩

def arrivesB (s : State) (n typ : Nat) (ws : List (BitVec 64)) : Bool :=
  (linkHdr (ws.headD 0)).typ == typ && lineTakes s n typ && trailerOk ws && formatCode ws == 0 &&
  (!numbered typ || (linkHdr (ws.headD 0)).seq == (lineOf s n).rxSeq)

theorem arrives_of_arrivesB {s : State} {n typ : Nat} {ws : List (BitVec 64)} (h : arrivesB s n typ ws = true) :
    Arrives s n typ ws := by
  simp only [arrivesB, Bool.and_eq_true, Bool.or_eq_true, beq_iff_eq, Bool.not_eq_true'] at h
  refine ⟨h.1.1.1.1, h.1.1.1.2, h.1.1.2, h.1.2, fun hn => ?_⟩
  rcases h.2 with g | g
  · simp [hn] at g
  · exact g

def invB (s : State) : Bool := canon 0 s.mem && canon Mark.clean s.marks && canon 0 s.regs && decide (s.evq.length ≤ 256)

def onPage (a : Nat) : Bool := match placeOf a with | .page _ _ => true | _ => false

def limitedPage (a : Nat) : Bool := match placeOf a with | .page q _ => q == 2 || q == 3 || q == 0x11C | _ => false

theorem inv_of_invB {s : State} (h : invB s = true) : Inv s := by
  simp only [invB, Bool.and_eq_true, decide_eq_true_eq] at h
  exact ⟨h.1.1.1, h.1.1.2, h.1.2, h.2⟩

/-! ### Small states -/

/-- Sets a field. -/
def F (p : Nat) (f : Fld) (v : Nat) (s : State) : State := setF s p f v

/-- Changes a tile. -/
def M (t : Nat) (g : Tile → Tile) (s : State) : State := modTile s t g

/-- A state with some changes made, in order. -/
def on (s : State) (fs : List (State → State)) : State := fs.foldl (fun u f => f u) s

/-- A device in RUN: writes open, the network clock there, assayer A the primary, the banks of tiles 0, 1, 15 and 16 and of region memory 0 ON,
program areas of 4,096 words, and tiles 0, 1, 15 and 16 on a lockable clock. -/
def liveSet : State :=
  on { State.reset with released := true, outRel := true, writesOpen := true, tb := 123456, age := 500000 } <|
    [F pgDCFG DCFG.STATUS_STATE 5, F pgDCFG DCFG.STATUS_PHDONE 15, F (pgRMEM 0) RMEM.PWR_STATE 0xAAAAAAAA,
     F (pgDASY 0) DASY.ROLE_ROLE 1, F (pgDASY 1) DASY.ROLE_ROLE 2, F pgDACW DACW.LKT_BASE 0x7000,
     F pgDCLK DCLK.NET_PLL 1] ++
    ([0, 1, 15, 16] : List Nat).flatMap fun t =>
      [F (pgTBNK t) TBNK.PWR_STATE 0xAAAA, F (pgTSEQ t) TSEQ.PROG_CFG_LEN 0x1000,
       F (pgRCLK (t / 16)) (RCLK.TILE_CLK_LOCKABLE (t % 16)) 1]

/-- Its registers, written out so that a witness need not compute them again. -/
def liveRegs : SMap Word :=
  [(16, 0x9640), (2064, 0x5F000000), (2066, 0xFFFFFFFF), (2067, 0x1FF), (3094, 0x5350), (3136, 0x8000),
   (3137, 0x8000), (3138, 0x8000), (3139, 0x8000), (3140, 0x8000), (3141, 0x8000), (3142, 0x8000), (3143, 0x8000),
   (3144, 0x8000), (3145, 0x8000), (3146, 0x8000), (3147, 0x8000), (3148, 0x8000), (3149, 0x8000), (3150, 0x8000),
   (3151, 0x8000), (3168, 0x8000), (3169, 0x8000), (3170, 0x8000), (3171, 0x8000)] ++
  [(3172, 0x8000), (3173, 0x8000), (3174, 0x8000), (3175, 0x8000), (3176, 0x8000), (3177, 0x8000), (3178, 0x8000),
   (3179, 0x8000), (3180, 0x8000), (3181, 0x8000), (3182, 0x8000), (3183, 0x8000), (3218, 0x3A98), (3219, 0x1388),
   (3220, 0x2AF8), (3221, 0x1388), (3222, 0x4B0), (4119, 0x80000000), (5137, 0x3FFFF), (5139, 0x3FFFF),
   (6163, 0x7000), (7232, 0x5000000), (7233, 0x3000000), (7234, 0x2000000), (7235, 0x2000000)] ++
  [(7236, 0x5000000), (7237, 0x3000000), (7238, 0x4000000), (7239, 0x3000000), (7240, 0x3000000), (7241, 0x3000000),
   (7242, 0x3000000), (7243, 0x3000000), (7244, 0x3000000), (7245, 0x3000000), (7246, 0x3000000), (7247, 0x3000000),
   (7248, 0x3000000), (7249, 0x3000000), (7250, 0x3000000), (7251, 0x3000000), (7252, 0x3000000), (7253, 0x3000000),
   (7254, 0x3000000), (7255, 0x3000000), (7256, 0x3000000), (7257, 0x3000000), (7258, 0x3000000), (7259, 0x3000000),
   (7260, 0x3000000)] ++
  [(8208, 0x40000000), (9232, 0x80000000), (262162, 0x3FFFF), (263186, 0x3FFFF), (264210, 0x3FFFF),
   (265234, 0x3FFFF), (266258, 0x3FFFF), (267282, 0x3FFFF), (290832, 0x80000000), (290833, 0x3C65E2),
   (290841, 0x3C65E2), (290848, 0x14), (290851, 0x40000000), (525328, 0xAAAAAAAA), (528416, 0x20000000),
   (528417, 0x20000000), (528431, 0x20000000), (536608, 0x20000000), (1048594, 0x10000000), (1051664, 0xAAAA),
   (1052690, 0x10000000), (1055760, 0xAAAA), (1110034, 0x10000000), (1113104, 0xAAAA), (1114130, 0x10000000)] ++
  [(1117200, 0xAAAA)]

theorem liveSet_regs : liveSet.regs = liveRegs := by decide +kernel

/-- `liveSet`. -/
def live : State :=
  { State.reset with released := true, outRel := true, writesOpen := true, tb := 123456, age := 500000, regs := liveRegs }

/-! ### A small image (R330 to R335) -/

/-- A REG record. -/
def regRec (p off : Nat) (ws : List Nat) : List Byte :=
  toBytes 4 (0x1000000 + ws.length) ++ toBytes 4 (p * 65536 + off) ++ ws.flatMap (toBytes 4)

/-- The records that a device cannot do without (R336): epoch length, locket area, TIME period, cap and limit, frame lengths, output delays, ADC
period, largest frames and gate cycles. -/
def deviceRecs : List Byte :=
  regRec 6 0x40 [50] ++ regRec 6 0x4C [0x7000] ++ regRec 5 0x60 [1] ++ regRec 7 0x4C [0x64000064] ++
  ((List.range 4).flatMap fun g =>
    regRec (0x10 + g) 0x40 [1, 1] ++ (List.range 8).flatMap fun j => regRec (0x10 + g) (0x100 + 8 * j) [4 * 2 ^ 24]) ++
  regRec 0x18 0x44 [100] ++
  (List.range 8).flatMap fun n => regRec (0x108 + n) 0x40 [64 * 2 ^ 14] ++ regRec (0x108 + n) 0x60 [1000]

/-- A section: its descriptor, its length and its records. -/
def section_ (d : Nat) (bs : List Byte) : List Byte := toBytes 4 d ++ toBytes 4 bs.length ++ bs

/-- An image of these device records with rails of 900 mV and empty tiles. -/
def image (recs : List Byte) : List Byte :=
  let body := section_ 0x10000000 recs ++ ((List.range 16).flatMap fun r => section_ (0x20000000 + r) (regRec 4 0x48 [900])) ++
    (List.range 256).flatMap fun t => section_ (0x30000000 + t) []
  let len := 256 + body.length + 16
  let h := toBytes 4 0x36394E4C ++ toBytes 2 1 ++ toBytes 2 0x100 ++ toBytes 4 len ++ toBytes 4 0x9640 ++
    List.replicate 12 0 ++ toBytes 4 0xE4 ++ List.replicate 4 0 ++ toBytes 4 273 ++ List.replicate 212 0
  let b := h ++ toBytes 4 (crc32c h) ++ body ++ toBytes 4 0x4C4C4148 ++ toBytes 4 (len - 16)
  b ++ toBytes 4 (crc32c (b.take (len - 16))) ++ List.replicate 4 0

/-- A frame for port 0 with its frame check sequence (R421). -/
def etherFrame (typ : Nat) (payload : List Byte) : List Byte :=
  let b := portMac State.reset 0 ++ [2, 2, 2, 2, 2, 2] ++ beBytes 2 typ ++ payload
  b ++ fcsOf b

/-- A command frame of the maintenance ports with its CRC. -/
def serialCmd (c n : Byte) (a : Nat) (data : List Byte) : List Byte :=
  let h : List Byte := [c, n] ++ toBytes 6 a ++ data
  h ++ toBytes 4 (crc32c h)

/-- Each list holds `true` at the places named beside it, and every place is named beside one of them. -/
def meets (ls : List (List Bool × List Nat)) : Bool :=
  (ls.all fun x => x.2.all fun i => x.1.getD i false) && !ls.isEmpty &&
  (List.range ((ls.map fun x => x.1.length).headD 0)).all fun i => ls.any fun x => x.2.contains i

end Sys2Proof.Tests
end

