-- ==== Sys2Proof/Tests/Hyps.lean ====
section
/-! SUPPORT. For each obligation `X` the hypotheses of its clauses, in their order and as Bools that evaluate: `hypX`. Tests.Witnesses shows
states and operands that meet them. -/

namespace Sys2Proof.Tests
open Sys2Proof Sys2Proof.Machine Sys2Proof.Safety

def hypStepRunsFrontCommand (s : State) (c : Instr) (rest : List Instr) : List Bool :=
    [decide (s.pending = c :: rest)]

def hypIdleTickAdvancesTimeBase (s : State) : List Bool :=
    [decide (s.pending = [] ∧ dieReset s = false ∧ slewDue s = false ∧ s.tbStep = 0 ∧ s.heldW = [] ∧
        s.load.handing = none ∧ s.strand.paired.message = none ∧ (∀ p ∈ List.range 5, frameOf s p = []))]

def hypStepKeepsInvariant (s : State) : List Bool :=
    [invB s && (match step s with | .next _ => true | _ => false)]

def hypWellFormedCommandsRun (c : Instr) : List Bool :=
    [decide (c.wf = true)]

def hypSequencerArithmetic (s : State) (t : TileN) (fv : Bool) (fs : Fin 16) (o : BitVec 21) : List Bool :=
    [decide (executesB s t .add fv fs o),
     decide (executesB s t .sub fv fs o),
     decide (executesB s t .and_ fv fs o),
     decide (executesB s t .or_ fv fs o),
     decide (executesB s t .xor fv fs o),
     decide (executesB s t .shl fv fs o),
     decide (executesB s t .shr fv fs o),
     decide (executesB s t .sar fv fs o),
     decide (executesB s t .slt fv fs o),
     decide (executesB s t .sltu fv fs o),
     decide (executesB s t .mul fv fs o),
     decide (executesB s t .addi fv fs o),
     decide (executesB s t .andi fv fs o),
     decide (executesB s t .ori fv fs o),
     decide (executesB s t .xori fv fs o),
     decide (executesB s t .shli fv fs o),
     decide (executesB s t .shri fv fs o),
     decide (executesB s t .sari fv fs o),
     decide (executesB s t .slti fv fs o),
     decide (executesB s t .lui fv fs o),
     decide (executesB s t .li fv fs o),
     decide (executesB s t .llo fv fs o),
     decide (executesB s t .intag fv fs o),
     decide (executesB s t .nop fv fs o)]

def hypSequencerTransfers (s : State) (t : TileN) (fv : Bool) (fs : Fin 16) (o : BitVec 21) : List Bool :=
    [decide (executesB s t .beq fv fs o),
     decide (executesB s t .bne fv fs o),
     decide (executesB s t .blt fv fs o),
     decide (executesB s t .bge fv fs o),
     decide (executesB s t .bltu fv fs o),
     decide (executesB s t .bgeu fv fs o),
     decide (executesB s t .j fv fs o),
     decide (executesB s t .jr fv fs o),
     decide (executesB s t .call fv fs o),
     decide (executesB s t .callr fv fs o),
     decide (executesB s t .ret fv fs o),
     decide (executesB s t .rete fv fs o),
     (tileOf s t.val).xfer.any fun _ => executesB s t .nop fv fs o]

def hypSequencerRepeats (s : State) (t : TileN) (fv : Bool) (fs : Fin 16) (o : BitVec 21) : List Bool :=
    [executesB s t .repi fv fs o,
     executesB s t .repr fv fs o]

def hypSequencerInputOutput (s : State) (t : TileN) (fv : Bool) (fs : Fin 16) (o : BitVec 21) : List Bool :=
    let x := tileOf s t.val
    [(queueOf x 12).head?.any (fun h => decide (executesB s t .in_ fv fs o)),
     decide (executesB s t .out fv fs o),
     decide (executesB s t .pagei fv fs o),
     decide (executesB s t .pager fv fs o),
     decide (executesB s t .swev fv fs o),
     decide (executesB s t .halt fv fs o)]

def hypSequencerMemoryAndTime (s : State) (t : TileN) (fv : Bool) (fs : Fin 16) (o : BitVec 21) : List Bool :=
    let x := tileOf s t.val
    let la := ((regIn x x.wpos (ra o) + imm11 o).truncate 16 : BitVec 16).toNat
    let ws := (facetStore s t fv fs).toList
    [decide (executesB s t .ld fv fs o ∧ (∀ b ∈ List.range 8, bankState s t.val b = 2) ∧
        isBad (markCode (markAt s (bankAddr t.val la))) = false ∧ (∀ w ∈ ws, w % 65536 ≠ la)),
     decide (executesB s t .st fv fs o ∧ (∀ b ∈ List.range 8, bankState s t.val b = 2) ∧ (∀ w ∈ ws, w % 65536 ≠ la)),
     decide (executesB s t .rdtime fv fs o)]

def hypWaitsAndLevelSwitches (s : State) (t : TileN) (fv : Bool) (fs : Fin 16) (o : BitVec 21) : List Bool :=
    let x := tileOf s t.val
    [decide (fetchesB s t .waitev fv fs o ∧ linePending s t.val (o.extractLsb' 0 6).toNat = false),
     decide (fetchesB s t .waitev false fs o ∧ linePending s t.val (o.extractLsb' 0 6).toNat = true),
     (x.wait).any (fun w => decide (bitOf w.toNat 25 = false ∧ replaying s (posOf s t.val) = false ∧
         mayRun s t.val .waitev = true ∧ linePending s t.val (bitsOf w.toNat 5 0) = true)),
     (selected s t.val).any (fun line => decide (x.halted = false ∧ tileGated s t.val = false ∧
         slotsHeld x = false ∧ x.retPend = false ∧ dueIsRep s t.val = false ∧ x.retired ≠ 0xFFFFFFFF ∧
         replaying s (posOf s t.val) = false ∧ x.resident < 11))]

def hypTimersAndWatchdogs (s : State) (t : TileN) (n : Fin 2) : List Bool :=
    let p := pgTSCH t.val
    let x := tileOf s t.val
    let cmp := (regAt s p (TSCH.TMR_LO n.val).off).toNat + (regAt s p (TSCH.TMR_HI n.val).off).toNat * 2 ^ 32
    [decide (s.released = true ∧ bitOf (getF s p TSCH.TMR_STAT) n.val = true ∧ cmp ≤ s.tb.toNat ∧
         tileGated s t.val = false),
     decide (s.released = true ∧ (bitOf (getF s p TSCH.TMR_STAT) n.val = false ∨ s.tb.toNat < cmp)),
     decide (s.released = true ∧ getF s p TSCH.HOLDOFF_LIMIT ≠ 0 ∧ getF s p TSCH.HOLDOFF_LIMIT ≤ x.holdRun ∧
         x.holdHit = false),
     decide (s.released = true ∧ (getF s p TSCH.HOLDOFF_LIMIT = 0 ∨ x.holdHit = true)),
     decide (s.released = true ∧ getF s p TSCH.STALL_LIMIT ≠ 0 ∧ getF s p TSCH.STALL_LIMIT ≤ x.stallRun ∧
         x.stallHit = false),
     decide (s.released = true ∧ (getF s p TSCH.STALL_LIMIT = 0 ∨ x.stallHit = true))]

def hypSpillAndFill (s : State) (t : TileN) : List Bool :=
    let x := tileOf s t.val
    [decide (s.released = true ∧ tileGated s t.val = false ∧ 10 ≤ x.resident ∧ x.resident ≤ 11 ∧ x.spilled < 64 ∧ bankState s t.val 7 = 2),
     decide (s.released = true ∧ tileGated s t.val = false ∧ (x.resident < 10 ∨ x.spilled = 64)),
     decide (s.released = true ∧ tileGated s t.val = false ∧ x.resident ≤ 7 ∧ 0 < x.spilled ∧ x.spilled ≤ 64 ∧
         fillBarred x (x.spilled - 1) = false ∧
         x.retPend = false ∧ bankState s t.val 7 = 2 ∧ (∀ k ∈ List.range 16,
         isBad (markCode (markAt s (bankAddr t.val (0xFC00 + 16 * (x.spilled - 1) + k)))) = false))]

def hypPagingCommands (s : State) (t : TileN) : List Bool :=
    let x := tileOf s t.val
    [decide (tileOpenB s t 1 ∧ x.pageQ.length < 4),
     decide (tileOpenB s t 1 ∧ 4 ≤ x.pageQ.length),
     decide (tileOpenB s t 1)]

def hypPagingEngine (s : State) (t : TileN) : List Bool :=
    let x := tileOf s t.val
    let may := s.released = true ∧ migrating s t.val = false ∧ tileBankTrans s t.val = false ∧ x.pageRun = none
    let size := getF s (pgTFCT t.val) TFCT.STORE_CFG
    let takes := fun (r : PageRun) (ok : Bool) =>
      let at_ := fun w => storeAddr r.set.toNat w
      let word_ := fun w => if w < r.words.length then r.words.getD w 0
        else if w < 80 then memWord s (bankAddr t.val (at_ w)) else 0
      decide (s.released = true ∧ r.code = 0 ∧ r.words.length ≤ 80 ∧ tileGated s t.val = false ∧
        replaying s (posOf s t.val) = false ∧ ∀ w ∈ List.range 80, r.words.length ≤ w →
          bankOn s t.val (at_ w) = true ∧ isBad (markCode (markAt s (bankAddr t.val (at_ w)))) = false) &&
      setValid s (posOf s t.val) word_ == ok
    [x.pageQ.head?.any fun z => decide (may ∧ size ≤ z.1.toNat),
     x.pageQ.head?.any fun z => decide (may ∧ z.1.toNat < size),
     x.pageRun.any fun r => takes r true,
     x.pageRun.any fun r => takes r false]

def hypTileControl (s : State) (t : TileN) (op : SeqOp) (fv : Bool) (fs : Fin 16) (o : BitVec 21) : List Bool :=
    let x := tileOf s t.val
    [decide (tileOpenB s t 0 ∧ isProt s (posOf s t.val) = false),
     decide (tileOpenB s t 0 ∧ isProt s (posOf s t.val) = false ∧ x.halted = false),
     (decide (tileOpenB s t 0 ∧ isProt s (posOf s t.val) = false) && decide (x.halted = true ∧ op ≠ .waitev ∧
         dueWord s t.val = insnWord op fv fs o ∧
         executesB (modTile s t.val fun y => { goOn y with stepDue := false }) t op fv fs o))]

def hypSoftwareLinesAndTimers (s : State) (t : TileN) : List Bool :=
    [decide (tileOpenB s t 2)]

def hypWindowRegister (s : State) (t : TileN) : List Bool :=
    let x := tileOf s t.val
    let p := pgTSCH t.val
    let a := (regAt s p TSCH.WIN_ADDR_ITEM.off).toNat
    let cell := bitsOf a 15 12
    let level := bitsOf a 9 8
    let item := bitsOf a 4 0
    [decide (tileOpenB s t 2 ∧ item < 8 ∧ (x.halted = true ∨ level ≠ x.level.toNat)),
     decide (tileOpenB s t 2 ∧ item < 8 ∧ x.halted = false ∧ level = x.level.toNat),
     (decide (tileOpenB s t 2 ∧ recovering s (posOf s t.val) = false) &&
         (winItem x cell level item).any (fun w => true)),
     decide (tileOpenB s t 2 ∧ recovering s (posOf s t.val) = false ∧ winItem x cell level item = none)]

def hypPowerCommands (s : State) (page : BankPage) (bank : Fin 16) (q : Nat) : List Bool :=
    let k := page.ref bank
    let b := refBank k
    let needed := if 0x400 ≤ q then
        tileBankNeeded s ((q - 0x400) / 4) b && !(tileOf s ((q - 0x400) / 4)).halted
      else isJournalBank s ((q - 0x200) / 8) b
    let st := anyBankState s q b
    let free := needed = false ∧ powerLock s q b = .free
    let live := physPage s (refPage k) = some q ∧ openB s (refPage k) = true ∧
      (q < 0x400 → bitOf (getF s q RMEM.SPARE_MAP_RETIRED) b = false)
    [decide (live ∧ free ∧ st ≠ 0),
     decide (live ∧ free ∧ st ≠ 0 ∧ st ≠ 1),
     decide (live ∧ free ∧ st ≠ 2),
     decide (live ∧ needed = true),
     decide (live ∧ (needed = true ∨ st = 0))]

def hypBankStateReached (s : State) (page : BankPage) (bank : Fin 16) (q : Nat) (target : Nat) : List Bool :=
    let k := page.ref bank
    let b := refBank k
    [decide (physPage s (refPage k) = some q ∧ target < 3 ∧ anyBankState s q b = 3 ∧
        look 0 s.pwrTo (bankKey q b) = target + 1 ∧ s.pwrQ = [])]

def hypBankUpkeep (s : State) (a : BitVec 48) (t : TileN) (b : Fin 8) (n : BitVec 32) (r : RegN) (bits : BitVec 39) (k : Nat) : List Bool :=
    let lim := getF s (pgTBNK t.val) TBNK.STARVE_LIMIT
    let reached := fun (x : Pkt) => lim ≠ 0 ∧ x.waited < lim ∧ lim ≤ x.waited + n.toNat
    let p := pgRMEM r.val
    [decide (look 0 s.wback a.toNat ≠ 0 ∧ markAt s a.toNat = .corr),
     decide (look 0 s.wback a.toNat = 0),
     (starving s t.val b.val).any fun x => decide (reached x.1),
     (starving s t.val b.val).any fun x => decide (¬reached x.1),
     decide (starving s t.val b.val = none),
     decide (s.released = true ∧ flagF s p RMEM.POLISH_CFG_EN = true ∧ (polishOf s r.val).running = false ∧
         (polishOf s r.val).started = false ∧ seekBlock s r.val 160 0 = some k ∧ blockTrans s r.val k = false ∧
         blockMoves s r.val k = false ∧
         k < 25088),
     decide (s.released = true ∧ flagF s p RMEM.POLISH_CFG_EN = false),
     decide (s.released = true ∧ (polishOf s r.val).running = true ∧ bits ≠ 0),
     decide (s.released = true ∧ (polishOf s r.val).running = true ∧ bits = 0),
     decide (s.released = true ∧ (polishOf s r.val).running = false)]

def hypLocks (s : State) (r : RegN) (n : Fin 32) (src : BitVec 10) : List Bool :=
    let p := pgRMEM r.val
    let st := getF s p (RMEM.LOCK_STATE n.val)
    let orph := getF s p (RMEM.LOCK_ORPH n.val)
    let mine := st = 1 ∧ getF s p (RMEM.LOCK_OWNER n.val) = src.toNat
    let assayer := isAssayerId src.toNat = true
    [decide (openToB s src.toNat p ∧ st = 0),
     decide (openToB s src.toNat p ∧ st = 2),
     decide (openToB s src.toNat p ∧ st = 1),
     decide (openToB s src.toNat p ∧ assayer),
     decide (openToB s src.toNat p ∧ (¬assayer) ∧ mine ∧ orph = 0),
     decide (openToB s src.toNat p ∧ (¬assayer) ∧ mine ∧ orph = 1),
     decide (openToB s src.toNat p ∧ (¬assayer) ∧ (¬mine)),
     decide (openToB s src.toNat p ∧ mine),
     decide (openToB s src.toNat p ∧ (¬mine))]

def hypSemaphores (s : State) (r : RegN) : List Bool :=
    let p := pgRMEM r.val
    [decide (openB s p)]

def hypDmaChannelControl (s : State) (c : ChanId) : List Bool :=
    let k := chKey c
    let p := chPage k
    let st := chState s k
    [decide (openB s p ∧ chBlocked s k = false ∧ (st = 0 ∨ st = 7)),
     decide (openB s p ∧ chBlocked s k = false ∧ st ≠ 0 ∧ st ≠ 7),
     decide (openB s p ∧ chBlocked s k = false),
     decide (openB s p ∧ chBlocked s k = false ∧ st = 0),
     decide (openB s p ∧ chBlocked s k = false ∧ st = 6),
     decide (openB s p ∧ chBlocked s k = false ∧ st = 7),
     decide (openB s p ∧ chBlocked s k = false ∧ 1 ≤ st ∧ st ≤ 5),
     decide (openB s p ∧ chBlocked s k = false ∧ (st = 0 ∨ st = 6 ∨ st = 7)),
     decide (openB s p ∧ chBlocked s k = false ∧ (st = 2 ∨ st = 3)),
     decide (openB s p ∧ chBlocked s k = false ∧ st = 4)]

def hypDmaDescriptors (s : State) (c : ChanId) (st : Nat) : List Bool :=
    let k := chKey c
    let p := chPage k
    let cur := chCur s k
    let w := fun i => memWord s (st + 4 * i)
    let d := dmaOf s k
    let lim := getF s p (if isZilCh k then ZLNK.RESP_LIMIT else RDMA.RESP_LIMIT)
    [decide (s.released = true ∧ chState s k = 1 ∧ reachCode cur ≠ 0),
     decide (s.released = true ∧ reachCode cur = 0 ∧
         placeHeld s (chInit k) (placeOf cur) = false ∧ routeRefused s (chInit k) cur = false ∧
         placeRefusal s (placeOf cur) = 0 ∧ storageOf s (placeOf cur) = some st ∧ cleanB s st ∧ chState s k = 1 ∧
         bitOf (w 0).toNat 31 = false),
     decide (s.released = true ∧ reachCode cur = 0 ∧
         placeHeld s (chInit k) (placeOf cur) = false ∧ routeRefused s (chInit k) cur = false ∧
         placeRefusal s (placeOf cur) = 0 ∧ storageOf s (placeOf cur) = some st ∧ cleanB s st ∧ chState s k = 1 ∧
         bitOf (w 0).toNat 31 = true ∧
         (5 ≤ bitsOf (w 0).toNat 27 24 ∨ bitOf (w 0).toNat 28 = true ∨ bitsOf (w 2).toNat 31 16 ≠ 0 ∨ bitsOf (w 4).toNat 31 16 ≠ 0 ∨ bitsOf (w 0).toNat 23 0 = 0)),
     decide (s.released = true ∧ reachCode cur = 0 ∧
         placeHeld s (chInit k) (placeOf cur) = false ∧ routeRefused s (chInit k) cur = false ∧
         placeRefusal s (placeOf cur) = 0 ∧ storageOf s (placeOf cur) = some st ∧ cleanB s st ∧ chState s k = 1 ∧
         bitOf (w 0).toNat 31 = true ∧ bitOf (w 0).toNat 28 = false ∧ bitsOf (w 0).toNat 27 24 = 1 ∧
         bitsOf (w 0).toNat 23 0 ≠ 0 ∧ bitsOf (w 2).toNat 31 16 = 0 ∧ w 3 = 0 ∧ w 4 = 0 ∧ isZilCh k = false ∧
         feederOf s k = none),
     decide (s.released = true ∧ reachCode cur = 0 ∧
         placeHeld s (chInit k) (placeOf cur) = false ∧ routeRefused s (chInit k) cur = false ∧
         placeRefusal s (placeOf cur) = 0 ∧ storageOf s (placeOf cur) = some st ∧ cleanB s st ∧ chState s k = 5 ∧
         bitOf (w 0).toNat 30 = true),
     decide (s.released = true ∧ reachCode cur = 0 ∧
         placeHeld s (chInit k) (placeOf cur) = false ∧ routeRefused s (chInit k) cur = false ∧
         placeRefusal s (placeOf cur) = 0 ∧ storageOf s (placeOf cur) = some st ∧ cleanB s st ∧ chState s k = 5 ∧
         bitOf (w 0).toNat 30 = false),
     decide (s.released = true ∧ ((chState s k = 3 ∧ d.outR = 0 ∧
         d.outW = 0) ∨ chState s k = 4) ∧ d.resetting = false ∧ cur < 2 ^ 37 ∧ s.writesOpen = true ∧
         placeOf cur = .lpddr st ∧ mirrored s st = none ∧ placeRefusal s (placeOf cur) = 0 ∧
         reservedFor s (chInit k) (placeOf cur) = false ∧ routeRefused s (chInit k) cur = false ∧ cleanB s st),
     decide (s.released = true ∧
         lim ≠ 0 ∧
         s.txns.any (fun z => z.2.any fun t => txnChan t.purpose == some k && !t.slow && decide (lim ≤ 10 * (s.age - t.at_) + 9)))]

def hypDmaOperations (s : State) (c : ChanId) : List Bool :=
    let k := chKey c
    let d := dmaOf s k
    let a := dA d
    let b := dB d
    let n := dLen d
    [decide (atStartB s k ∧ dOp d = 0 ∧ 0 < n ∧ plainB s a n ∧ plainB s b n ∧ apartB a n b n),
     (decide (atStartB s k ∧ dOp d = 2 ∧ 0 < n ∧ plainB s a n ∧ plainB s b n) &&
         ((List.range 64).any fun j => decide (j ≤ n ∧ (∀ i ∈ List.range j, memByte s (a + i) = memByte s (b + i)) ∧
         (j < n → memByte s (a + j) ≠ memByte s (b + j))))),
     (decide (atStartB s k ∧ dOp d = 3) && ((List.range 64).any fun m => decide (goodB s d m))),
     (decide (atStartB s k ∧ dOp d = 4) && ((List.range 64).any fun m => decide (goodB s d m ∧
         (∀ f ∈ List.range m, ∀ e ∈ List.range f,
         apartB (elemAddr d e) (elemLen d e) (elemAddr d f) (elemLen d f)))))]

def hypDmaBeats (s : State) (c : ChanId) : List Bool :=
    let k := chKey c
    let d := dmaOf s k
    let src := jobSrc d + d.rd
    let dst := jobDst d + d.wr
    let live := s.released = true ∧ chState s k = 2 ∧ settle s k = s ∧ isZilCh k = false ∧ feederOf s k = none
    let room := fun (n : Nat) =>
      localRoom s { blankPkt with vc := decide (4 ≤ chPrio s k), flits := n, rtr := (initIf (chInit k)).1 }
    [decide (live ∧ selectCh s (k / 32) false = some (k % 32) ∧ (dOp d = 0 ∨ dList d = true) ∧ isHostAddr k src = false ∧
        reachCode src = 0 ∧ routeRefused s (chInit k) src = false ∧ room 1 = true),
     decide (live ∧ selectCh s (k / 32) true = some (k % 32) ∧ (dOp d = 0 ∨ dOp d = 1) ∧ d.poisoned = [] ∧
        isHostAddr k dst = false ∧ reachCode dst = 0 ∧ routeRefused s (chInit k) dst = false ∧ room 2 = true)]

def hypNetworkForwarding (s : State) (r : RtrN) (out : Fin 8) (g : RegN) : List Bool :=
    let o := out.val
    let tries := look 0 s.fails (8 * r.val + o)
    [(chooseHead s r.val o).any fun z => (afterHop s r.val o z.1).isSome,
     decide (chooseHead s r.val o = none),
     decide ((failing s r.val o).isSome = true ∧ (linkStat s r.val o = 1 ∨ linkStat s r.val o = 2) ∧ tries < 3),
     decide ((failing s r.val o).isSome = true ∧ (linkStat s r.val o = 1 ∨ linkStat s r.val o = 2) ∧ tries = 3),
     decide (failing s r.val o = none ∨ linkStat s r.val o = 0 ∨ linkStat s r.val o = 3),
     decide (openB s (pgRSTAT g.val))]

def hypRequestsAndResponses (s : State) (r : RtrN) (d : Fin 5) : List Bool :=
    let got := fun (wr : Bool) => arrivedAt s r.val d.val fun k => k.cls == .rsp && k.write == wr
    [(readyRead s r.val d.val).any (fun z => let q := z.1; let a := q.addr; decide (placeOf q.addr = .lpddr a ∧
        q.addr % 64 + q.nbytes ≤ 64 ∧ (∀ b, b < q.nbytes → markAt s (wordKey (a + b)) = .clean))),
     (readyRead s r.val d.val).isSome,
     decide (readyRead s r.val d.val = none),
     (readyWrite s r.val d.val).any (fun z => let q := z.1; let a := q.addr; decide (placeOf q.addr = .lpddr a ∧
         a % 64 = 0 ∧ q.poison = false ∧ reservedFor s q.src (.lpddr a) = false ∧ (∀ b ∈ List.range 64,
         markAt s (wordKey (a + b)) = .clean))),
     (readyWrite s r.val d.val).isSome,
     decide (readyWrite s r.val d.val = none),
     (got false).any (fun z => let q := z.1; (look none s.txns (256 * q.src + q.tag)).any fun t => match t.purpose with | .dmaRead _ _ _ => true | _ => false),
     (got true).any (fun z => let q := z.1; (look none s.txns (256 * q.src + q.tag)).any fun t => match t.purpose with | .dmaWrite _ _ _ => true | _ => false),
     decide (got false = none),
     decide (got true = none)]

def hypStreamEndpoints (s : State) (r : RegN) (rr : RtrN) (k : Fin 128) : List Bool :=
    let p := pgRRTR r.val
    let key := 128 * r.val + k.val
    let e := endOf s key
    let sq := fun (u : State) => epSeq u r.val k.val
    let cnt := fun (u : State) => epCount u r.val k.val
    let got := fun (cr : Bool) => arrivedAt s r.val 3 fun x => x.cls == .stream && (x.credit == cr)
    let out := isOut k.val
    let on := epEn s r.val k.val
    let mode := epMode s r.val k.val
    let clear := routeWhole s 24 r.val (epPkt s r.val k.val) = true ∧ localRoom s (epPkt s r.val k.val) = true
    let batch := max 1 (getF s p RRTR.STRM_CFG_CRBATCH)
    [(decide (rr.val = r.val ∧ s.released = true) &&
        (got false).any (fun z => let q := z.1; decide (∀ j ∈ List.range 128,
        takesData s (128 * r.val + j) q.stream = false))),
     (decide (rr.val = r.val ∧ s.released = true) &&
         (got false).any (fun z => let q := z.1; decide (takesData s key q.stream = true ∧ (∀ j ∈ List.range 128,
         takesData s (128 * r.val + j) q.stream = true → j = k.val) ∧ q.seq = sq s % 2 ^ 24 ∧ q.toks.length ≤ 14))),
     (decide (rr.val = r.val ∧ s.released = true) &&
         (got false).any (fun z => let q := z.1; decide (takesData s key q.stream = true ∧ (∀ j ∈ List.range 128,
         takesData s (128 * r.val + j) q.stream = true → j = k.val) ∧ q.toks ≠ [] ∧
         0 < (q.seq + 2 ^ 24 - sq s % 2 ^ 24) % 2 ^ 24 ∧ (q.seq + 2 ^ 24 - sq s % 2 ^ 24) % 2 ^ 24 < 2 ^ 23))),
     (decide (rr.val = r.val ∧ s.released = true) &&
         (got true).any (fun z => let q := z.1; decide (∀ j ∈ List.range 128,
         takesCredit s (128 * r.val + j) q.stream = false))),
     (decide (rr.val = r.val ∧ s.released = true) &&
         (got true).any (fun z => let q := z.1; decide (takesCredit s key q.stream = true ∧ (∀ j ∈ List.range 128,
         takesCredit s (128 * r.val + j) q.stream = true → j = k.val)))),
     decide (rr.val = r.val ∧ s.released = true ∧ out = true ∧ on = true ∧ mode = 0 ∧ clear ∧ e.held.length = 14),
     decide (rr.val = r.val ∧ s.released = true ∧ out = true ∧ mode = 0 ∧ clear ∧ e.held ≠ []),
     decide (rr.val = r.val ∧ s.released = true ∧ out = false ∧ on = true ∧ (mode ≠ 0 ∨ cnt s = 0) ∧ clear ∧
         0 < e.gathered ∧ (batch ≤ e.gathered ∨ cnt s = 0)),
     decide (rr.val = r.val ∧ s.released = true ∧ out = false ∧ on = true ∧ (mode ≠ 0 ∨ cnt s = 0) ∧ e.gathered = 0),
     decide (rr.val = r.val ∧ s.released = true ∧ openB s p ∧ on = false ∧
         (epBound s r.val k.val = true ∨ epRingBad s r.val k.val = true)),
     decide (rr.val = r.val ∧ s.released = true ∧ openB s p ∧ on = false ∧ epBound s r.val k.val = false ∧
         epRingBad s r.val k.val = false),
     decide (rr.val = r.val ∧ s.released = true ∧ openB s p ∧ on = true ∧ (out = false ∨ e.held = [])),
     decide (rr.val = r.val ∧ s.released = true ∧ openB s p ∧ on = true ∧ out = true ∧ e.held ≠ [])]

def hypMemoryMode (s : State) (r : RegN) (k : Fin 128) (h : Tok) (t : Nat) : List Bool :=
    let p := pgRRTR r.val
    let key := 128 * r.val + k.val
    let e := endOf s key
    let a := e.addr
    let src := 16 * r.val + k.val / 8
    let room := fun (n : Nat) =>
      localRoom s { blankPkt with vc := flagF s p (RRTR.EP_CTL_VC k.val), flits := n, rtr := (initIf src).1 }
    let so := fun (u : State) => queueOf (tileOf u t) (13 + k.val % 8)
    [decide (s.released = true ∧ memHead s r.val k.val = some (h, t) ∧ e.block = none ∧ a % 4 = 0 ∧ a < 2 ^ 48 ∧
        h.mark = true ∧ h.last = false),
     decide (s.released = true ∧ memHead s r.val k.val = some (h, t) ∧ e.block = none ∧ a % 4 = 0 ∧ a < 2 ^ 48 ∧
         h.mark = false ∧ h.last = false ∧ (getF s p RRTR.STRM_CFG_PACK_WAIT ≠ 0 ∨ 1 < (so s).length)),
     (decide (s.released = true ∧ memHead s r.val k.val = some (h, t) ∧ e.block = none ∧ a % 4 = 0 ∧ a < 2 ^ 48 ∧
         h.mark = false ∧ h.last = true ∧ e.due = [] ∧ dueCount s r.val k.val < 8 ∧
         room 2 = true ∧ refusedAt s src (a / 64 * 64) = 0) && (freeTag s src).any (fun g => true)),
     (decide (s.released = true ∧ memHead s r.val k.val = some (h, t) ∧ e.block = none ∧ a % 4 = 0 ∧ a < 2 ^ 48 ∧
         h.mark = true ∧ h.last = true ∧ e.due = [] ∧ dueCount s r.val k.val < 8 ∧
         refusedAt s src a = 0 ∧ room 1 = true) && (freeTag s src).any (fun g => true)),
     decide (s.released = true ∧ memHead s r.val k.val = some (h, t) ∧ e.block = none ∧ a % 4 = 0 ∧ a < 2 ^ 48 ∧
         h.mark = true ∧ h.last = true ∧ e.due = [] ∧ dueCount s r.val k.val < 8 ∧
         refusedAt s src a ≠ 0)]

def hypRegisterPages (s : State) (page : Fin 4096) (q : Nat) (b : Blk) (inst : Nat) (src : BitVec 10) : List Bool :=
    let p := page.val
    [decide (physPage s p = some q ∧ blkOf q = some (b, inst) ∧ openToB s src.toNat p ∧
        (0x400 ≤ p → isProt s ((p - 0x400) / 4) = false)),
     decide (physPage s p = some q ∧ blkOf q = some (b, inst) ∧ openB s p ∧
         (0x400 ≤ p → isProt s ((p - 0x400) / 4) = false)),
     decide (physPage s p = some q ∧ blkOf q = some (b, inst) ∧ dieReset s = false ∧ pageWaits s src.toNat p = true)]

def hypEventQueue (s : State) (e : EvRec) (rest : List EvRec) (v : Word) : List Bool :=
    let p := pgDEVT
    let en := flagF s p DEVT.RING_CFG_EN
    let w := getF s p DEVT.WIDX
    let ridx := getF s p DEVT.RIDX
    let ok := (v.toNat % 65536 + 65536 - ridx) % 65536 ≤ (w + 65536 - ridx) % 65536
    let b := evRingBase s
    let n := evRingSize s
    [decide (openB s p ∧ en = false ∧ s.evq = e :: rest ∧ s.evLost = 0),
     decide (openB s p ∧ en = false ∧ s.evq = e :: rest ∧ rest.length < 256 ∧ 0 < s.evLost),
     decide (openB s p ∧ (en = true ∨ s.evq = [])),
     decide (dieReset s = false ∧ en = true ∧ evRingFull s = false ∧ s.evq = e :: rest ∧ s.evLost = 0 ∧
         plainB s b (16 * n + 4) ∧ routesB s),
     decide (dieReset s = false ∧ en = true ∧ evRingFull s = false ∧ s.evq = e :: rest ∧ s.evLost = 0 ∧
         bitOf b 47 = true ∧ hostFull s = true),
     decide (en = false ∨ evRingFull s = true ∨ s.evq = []),
     decide (openB s p ∧ ok),
     decide (openB s p ∧ ¬ok),
     decide (openB s p)]

def hypTileClocks (s : State) (t : TileN) (v : Word) (r : RegN) (b : Bool) : List Bool :=
    let p := pgRCLK (t.val / 16)
    let src := bitsOf v.toNat 1 0
    let div := bitsOf v.toNat 5 3
    let bad := 5 < div ∨ clkFits s (t.val / 16) src div (getF s p RCLK.RAIL_SET) = false ∨
      (src < 2 ∧ ¬(pllEn s (t.val / 16) src = true ∧ pllLocked s (t.val / 16) src = true)) ∨ tileGated s t.val = true
    let q := pgRCLK r.val
    let n := b2n b
    let m := bitsOf v.toNat 4 0
    [decide (openB s p ∧ bad),
     decide (openB s p ∧ (¬bad)),
     decide (tileGated s t.val = true ∧ (tileOf s t.val).stepDue = false),
     decide (tileGated s t.val = false),
     decide (openB s q ∧ pllInUse s r.val n = true),
     decide (openB s q ∧ pllInUse s r.val n = false ∧ (m < 4 ∨ 24 < m)),
     decide (openB s q ∧ pllInUse s r.val n = false ∧ 4 ≤ m ∧ m ≤ 24),
     decide (pllEn s r.val n = true ∧ s.load.clk.isSome = true),
     decide (pllEn s r.val n = false),
     decide (pllLocked s r.val n = true ∧ failStaticOn s = false),
     decide (pllLocked s r.val n = false)]

def hypReferenceRailsAndTime (s : State) (r : RegN) (side : Fin 4) (v : Word) : List Bool :=
    let c := pgDCLK
    let p := pgRCLK r.val
    let mv := bitsOf v.toNat 9 0
    let inUse := getF s c DCLK.REF_CFG_SEL = 0 ∧ getF s c DCLK.REF_CFG_ACTIVE = 0
    let good := 600 ≤ mv ∧ mv ≤ 900 ∧ mv % 10 = 0 ∧
      (∀ d ∈ List.range 4, ∀ q ∈ (regionBeside r.val d).toList,
        mv ≤ getF s (pgRCLK q) RCLK.RAIL_SET + 300 ∧ getF s (pgRCLK q) RCLK.RAIL_SET ≤ mv + 300) ∧
      ∀ l ∈ List.range 16, clkFits s r.val (curSrc s (16 * r.val + l)) (curDiv s (16 * r.val + l)) mv = true ∧
        (tileGated s (16 * r.val + l) = true →
          clkFits s r.val (clkSwitchOf s (16 * r.val + l)).src (clkSwitchOf s (16 * r.val + l)).div mv = true)
    let owned := flagF s c DCLK.TB_SLEW_XPORT
    [decide (inUse),
     decide (¬inUse),
     decide (openB s c),
     decide (openB s p ∧ good),
     decide (openB s p ∧ (¬good)),
     decide (flagF s p (neighF side.val 2) = false ∧ 560 < tempGap s r.val side.val),
     decide (flagF s p (neighF side.val 2) = true ∨ tempGap s r.val side.val ≤ 560),
     decide (openB s c ∧ owned = false),
     decide (openB s c ∧ owned = true),
     decide (slewDue s = true ∧ dieReset s = false ∧ s.tbStep = 0 ∧ s.heldW = [] ∧ s.load.handing = none ∧ s.strand.paired.message = none ∧
         (∀ i ∈ List.range 5, frameOf s i = [])),
     decide (slewDue s = false)]

def hypClasps (s : State) (k : Fin 2080) (h : ClaspTok) (rest : List ClaspTok) : List Bool :=
    let c := claspOf s k.val
    let pos := k.val / 8
    let locked := claspLocked s k.val
    let empty := claspEmpty s k.val
    let still := locked = true ∧ empty = true
    let port := claspPort s k.val
    let side := fun j => ((portTile j).1 / 16, (portTile j).2 / 2)
    let due := fun j => (look Trim.init s.trims (4 * (side j).1 + (side j).2)).due.contains k.val
    let gap := fun j => tempGap s (side j).1 (side j).2
    [decide (s.released = true ∧ c.toks = []),
     decide (s.released = true ∧ c.toks = h :: rest ∧ claspCanDeliver s k.val = false ∧ locked = false),
     decide (s.released = true ∧ c.toks = h :: rest ∧ claspCanDeliver s k.val = false ∧ locked = true),
     decide (s.released = true ∧ c.toks = h :: rest ∧ claspCanDeliver s k.val = true ∧ k.val < 2048 ∧
         inputTakers s pos = [pos] ∧ (protOf s pos).replay = none ∧ isProt s pos = false),
     (decide (s.released = true ∧ c.toks = h :: rest ∧ claspCanDeliver s k.val = true ∧ k.val < 2048 ∧
         inputTakers s pos = [pos] ∧ (protOf s pos).replay = none ∧ isProt s pos = false) && decide (locked = true ∧
         (h.missed = true ∨ claspSidesLockable s k.val = false))),
     (decide (s.released = true ∧ c.toks = h :: rest ∧ claspCanDeliver s k.val = true ∧ k.val < 2048 ∧
         inputTakers s pos = [pos] ∧ (protOf s pos).replay = none ∧ isProt s pos = false) && decide (locked = true ∧
         h.missed = false ∧ claspSidesLockable s k.val = true ∧ claspOver s k.val = false)),
     port.any fun j => decide (s.released = true ∧ due j = true ∧ empty = true),
     port.any fun j => decide (s.released = true ∧ (due j = false ∨ empty = false)),
     port.any fun j => decide (s.released = true ∧ still ∧ c.slip = false ∧ 480 < gap j),
     port.any fun j => decide (s.released = true ∧ still ∧ c.slip = true ∧ gap j < 432),
     port.any fun j => decide (s.released = true ∧ (¬still ∨ gap j ≤ 480)),
     port.any fun j => decide (s.released = true ∧ (¬still ∨ 432 ≤ gap j)),
     decide (s.released = true ∧ port = none)]

def hypEpochsAndCuts (s : State) (t : TileN) : List Bool :=
    let due := s.nextEpoch ≠ 0 ∧ s.nextEpoch ≤ s.tb.toNat
    let pos := posOf s t.val
    let cuts := isProt s pos = true ∧ (protOf s pos).pendingCut = true ∧ (protOf s pos).capture = none ∧
        recovering s pos = false
    [decide (due ∧ getF s pgDACW DACW.EPOCH_CFG ≠ 0),
     decide (¬due),
     decide (cuts),
     decide (¬cuts)]

def hypJournalAndLockets (s : State) (t : TileN) : List Bool :=
    let pos := posOf s t.val
    let r := pos / 16
    let p := pgRJNL r
    let size := getF s p RJNL.JSIZE
    let head := getF s p RJNL.JHEAD
    let h := captureHalf s pos
    let area := stateArea s pos h
    let turn := (rjOf s r).capQ.head? = some pos ∨ recovering s pos = true
    let settled := s.heldW = [] ∧ look 0 s.recov.waiting pos = 0 ∧ ∀ b ∈ List.range 16,
        look 0 s.pwrQ (bankKey (pgTBNK t.val) b) = 0
    [decide ((protOf s pos).bufs = []),
     ((protOf s pos).bufs).head?.any (fun g => flushDue s r g == false),
     ((protOf s pos).bufs).head?.any (fun g => (recordAddr s r head).any (fun a => decide (s.released = true ∧
         flushDue s r g = true ∧ getF s p RJNL.JFILL < size ∧ head < size ∧ placeRefusal s (recordPlace s r head) = 0))),
     ((protOf s pos).bufs).head?.any (fun g => decide (s.released = true ∧ flushDue s r g = true ∧ size ≤ getF s p RJNL.JFILL ∧
         (rjOf s r).full = false)),
     ((protOf s pos).capture).any (fun c => decide (c.headerOut = false ∧ turn ∧ tileBankTrans s t.val = false ∧
         c.shadow.block.length = 0x20C0 ∧ (∀ q ∈ c.shadow.dirty, q < 256))),
     decide (¬turn ∨ tileBankTrans s t.val = true),
     decide ((protOf s pos).capture = none),
     ((protOf s pos).capture).any (fun c => decide (c.headerOut = true)),
     ((protOf s pos).capture).any (fun c => decide (c.headerOut = true ∧ settled ∧
         memBytes s (area + 0x40) 0x20C0 = c.shadow.block)),
     decide ((∀ c, (protOf s pos).capture = some c → c.headerOut = false) ∧ settled)]

def hypRecoveryAndRestart (s : State) (t : TileN) (half : Option Nat) : List Bool :=
    let pos := t.val
    let sp := spareOf pos
    let live := failStaticOn s = false ∧ (activeAssayer s).isSome = true
    let can := isProt s pos = true ∧ spareFree s (pos / 16) = true ∧ recovering s pos = false
    let own := serves s pos = .tile pos ∧ pos % 16 ≠ 15 ∧ tileRetired s sp = false ∧ redund s = true
    let at_ := fun (n : Nat) => (actOf s pos).any fun x => (protOf s pos).replay.any fun r =>
      decide (x.step = n ∧ x.action = 1 ∧ x.held = false ∧ mayAct s x.host = true ∧ netUp s = true ∧ s.heldW = [] ∧
        r.mate = none ∧ r.far = none)
    let whole := fun (h : Nat) => (ringFrom s (pos / 16) (bitsOf (fieldAt (areaHead s pos h) 12 4) 14 0)).isSome
    let replays := fun (p : Replay → Nat → Bool) => (protOf s pos).replay.any fun r => (List.range 256).any fun n =>
      decide (serves s pos = .tile n ∧ s.heldW = [] ∧ r.mate = none ∧ r.far = none) && p r n
    let begins := live ∧ isProt s pos = false ∧ spareFree s (pos / 16) = true ∧ own ∧ s.heldW = []
    [decide (live ∧ can ∧ serves s pos = .tile pos ∧ pairOf s pos = none),
     (pairOf s pos).any fun y => decide (live ∧ can ∧ serves s pos = .tile pos ∧ y.split = 0),
     decide (live ∧ (¬can)),
     decide (failStaticOn s = false ∧ activeAssayer s = none),
     at_ 1 && decide own,
     at_ 2 && decide (own ∧ (protOf s pos).capture = none ∧ half = none),
     at_ 2 && decide (own ∧ (protOf s pos).capture = none ∧ half.isSome = true),
     at_ 3 && decide (own ∧ half.isSome = true ∧ migrationWaits s pos sp = true),
     at_ 3 && decide (own ∧ half.isSome = true ∧ migrationWaits s pos sp = false),
     at_ 4 && decide (own ∧ half.isSome = true),
     at_ 5 && decide (own ∧ half.isSome = true),
     at_ 6 && decide (pairOf s pos = none ∧ serves s pos = .tile sp) && half.any fun h => !whole h,
     at_ 6 && decide (pairOf s pos = none ∧ serves s pos = .tile sp) && half.any whole,
     replays fun r n => r.going && (tileOf s n).retired.toNat == r.haltAt,
     replays fun r n => !r.going || (tileOf s n).retired.toNat != r.haltAt,
     decide (begins ∧ netUp s = true),
     decide (begins ∧ netUp s = false ∧ actOf s pos = none),
     decide (live ∧ (isProt s pos = true ∨ spareFree s (pos / 16) = false) ∧ s.heldW = []),
     decide (live ∧ serves s pos = .tile pos ∧ pairOf s pos = none ∧ s.heldW = [])]

def hypLockstepAndPairs (s : State) (r : RegN) (n : Fin 2) (okA : Bool) (okB : Bool) : List Bool :=
    let p := pgRJNL r.val
    let a := 16 * r.val + getF s p (RJNL.LSTEP_FIRST n.val)
    let b := 16 * r.val + getF s p (RJNL.LSTEP_SECOND n.val)
    let differ := flagF s p (RJNL.LSTEP_EN n.val) = true ∧ look 0 (rjOf s r.val).split n.val = 0 ∧
        pairDiffers s r.val n.val = true
    let two := serves s a = .tile a ∧ serves s b = .tile b ∧ a ≠ b
    let c := pgDACW
    let gone := pairOn s = true ∧ flagF s c DACW.PAIR_STAT_LOST = false ∧ s.strand.paired.heardAt + 2000 ≤ s.age
    let link := getF s c DACW.PAIR_CFG_LINK
    let at_ := s.mirrorAt.length
    [decide (s.heldW = [] ∧ (¬differ)),
     decide (s.heldW = [] ∧ differ ∧ two ∧ activeAssayer s = none),
     decide (s.heldW = [] ∧ differ ∧ two ∧
         (activeAssayer s).isSome = true ∧ okA = true ∧ okB = false),
     (decide (s.heldW = []) && (s.mirror[at_]?).any (fun m => decide (pairOn s = true ∧ lineUp s link = true))),
     decide (s.heldW = [] ∧ (s.mirror[at_]? = none ∨ pairOn s = false ∨ lineUp s link = false)),
     (decide (s.heldW = []) && (s.mirror).head?.any (fun m => (s.mirrorAt).head?.any (fun x => true))),
     decide (s.heldW = [] ∧ (s.mirror = [] ∨ s.mirrorAt = [])),
     decide (s.heldW = [] ∧ pairOn s = true ∧ s.age < s.strand.paired.sendAt),
     decide (s.heldW = [] ∧ pairOn s = true ∧ s.strand.paired.sendAt ≤ s.age),
     decide (s.heldW = [] ∧ pairOn s = false),
     decide (s.heldW = [] ∧ gone),
     decide (s.heldW = [] ∧ (¬gone))]

def hypTileFaults (s : State) (t : TileN) (r : RegN) (q : TileN) (b : Fin 16) (bt : Fin 8) : List Bool :=
    let pos := posOf s t.val
    let sp := spareOf pos
    let live := (activeAssayer s).isSome = true
    let idleSpare := redund s = true ∧ t.val % 16 = 15 ∧ spareUsed s (t.val / 16) = false
    let plain := serves s pos = .tile t.val ∧ pairOf s pos = none ∧ recovering s pos = false ∧ s.heldW = [] ∧ ¬idleSpare
    let limited := fun (p n : Nat) => getF s pgDRCV DRCV.CORR_LIMIT ≠ 0 ∧ live ∧
        look 0 s.recov.predicted (bankKey p n) < 3
    let m := pgRMEM r.val
    [decide (serves s pos = .tile t.val ∧ activeAssayer s = none ∧ s.heldW = []),
     decide (plain ∧ live ∧ spareFree s (pos / 16) = true ∧ isProt s pos = true),
     decide (plain ∧ live ∧ spareFree s (pos / 16) = true ∧ isProt s pos = false ∧ pos % 16 ≠ 15 ∧
         tileRetired s sp = false ∧ netUp s = true),
     decide (plain ∧ live ∧ spareFree s (pos / 16) = false),
     decide (idleSpare ∧ live ∧ s.heldW = []),
     decide (tileGated s t.val = true ∧ s.heldW = []),
     decide (limited m b.val ∧ bankUsed s r.val = false ∧ bankCopying s r.val = false ∧
         polishing s m b.val = false ∧ rbankState s r.val b.val = 2 ∧ actOf s (keySpare r.val) = none ∧ netUp s = true),
     decide (¬limited m b.val ∨ bankUsed s r.val = true),
     decide (limited (pgTBNK q.val) bt.val ∧ serves s q.val = .tile q.val ∧ isProt s q.val = true),
     decide (live ∧ spareFree s r.val = true),
     decide (activeAssayer s = none ∨ spareFree s r.val = false)]

def hypSpareBanksAndChannels (s : State) (r : RegN) (b : Fin 16) (n : Fin 16) : List Bool :=
    let m := pgRMEM r.val
    let k := 32 * r.val + n.val
    let live := failStaticOn s = false ∧ (activeAssayer s).isSome = true ∧ netUp s = true
    let act := actOf s (keySpare r.val)
    let unqueued := ∀ i ∈ List.range 16, look 0 s.pwrQ (bankKey m i) = 0
    let noRings := ∀ i ∈ List.range 128, ringInBank s r.val b.val i = false
    let steady := polishing s m b.val = false ∧ rbankState s r.val b.val ≠ 3
    let retires := bankUsed s r.val = true ∧ bitOf (getF s m RMEM.SPARE_MAP_RETIRED) b.val = false ∧ steady
    let reserve := reserveFree s r.val = true ∧ n.val ≠ 15
    let gone := bitOf (regAt s pgDRCV (DRCV.CH_WD (r.val / 2)).off).toNat (16 * (r.val % 2) + n.val) = true
    [decide (live ∧ bankUsed s r.val = false ∧ bankCopying s r.val = false ∧ steady ∧ act = none),
     decide (live ∧ (bankUsed s r.val = true ∨ bankCopying s r.val = true ∨ ¬steady)),
     (decide (live) && (act).any (fun x => decide (x.held = false ∧ x.sub = b.val ∧ unqueued ∧ noRings))),
     decide (live ∧ act = none),
     decide (live ∧ retires ∧ noRings ∧ actOf s (keyRetire r.val b.val) = none),
     decide (live ∧ (¬retires)),
     decide (live ∧ reserve ∧ chQuiet s k = true),
     decide (live ∧ (¬reserve ∨ chQuiet s k = false)),
     decide (live ∧ (¬reserve) ∧ chQuiet s k = true ∧ (¬gone) ∧
         (chState s k = 0 ∨ chState s k = 6 ∨ chState s k = 7)),
     decide (live ∧ (reserve ∨ chQuiet s k = false ∨ gone))]

def hypLinksPllsAndCooling (s : State) (l : Fin 42) (r : RegN) (b : Bool) (side : Fin 4) : List Bool :=
    let live := failStaticOn s = false ∧ (activeAssayer s).isSome = true ∧ netUp s = true
    let mend := (withdrawn s l.val).filter fun e => !(spareIn s e) && !(detoured s e.1 e.2)
    let out := (withdrawn s l.val).filter fun e => !(detoured s e.1 e.2)
    let n := b2n b
    let o := 1 - n
    let p := pgRCLK r.val
    let key := keyPll r.val n
    let since := pllSince s r.val n
    let spare := pllLocked s r.val o = true ∧ pllMult s r.val o = pllMult s r.val n
    let late := since + 4000 ≤ s.age + 1
    let calm := ∀ t ∈ fallen s r.val n, tileGated s t = false
    let far := regionBeside r.val side.val
    let diff : Int := match far with
      | some q => tempOf s r.val - tempOf s q
      | none => tempOf s r.val - sext 16 (look 0 s.bezelTemp side.val)
    let hot : List Nat := match far with
      | some q => if diff < 0 then [q] else [r.val]
      | none => if diff < 0 then [] else [r.val]
    let k := boundaryOf r.val side.val
    let waits := s.age < look 0 s.recov.coolAt k
    let can := (hot.flatMap (unpinned s)).filter fun t => decide (steppedDiv s t (baseDiv s t) < 5)
    let wide := flagF s p (neighF side.val 2) = true ∧ 480 ≤ diff.natAbs ∧ can ≠ []
    let going := (actOf s key).any fun x => !x.held
    let timed := going && decide (live ∧ since ≠ 0 ∧ pllLocked s r.val n = false ∧ late)
    let other := spare ∧ pllEn s r.val o = true
    [decide (live ∧ mend ≠ []),
     decide (live ∧ mend = []),
     decide (live ∧ out ≠ []),
     decide (live ∧ out = []),
     decide (live ∧ actOf s key = none ∧
         (pllEn s r.val n = false ∨ (pllLocked s r.val n = true ∧ fallen s r.val n = []))),
     decide (live ∧ actOf s key = none ∧ pllEn s r.val n = true ∧ pllLocked s r.val n = false),
     decide (live ∧ actOf s key = none ∧ pllEn s r.val n = true ∧ pllLocked s r.val n = true ∧
         fallen s r.val n ≠ [] ∧ calm),
     going && decide (live ∧ pllLocked s r.val n = true ∧ calm),
     going && decide (live ∧ pllLocked s r.val n = false ∧ spare ∧ late ∧ calm),
     going && decide (live ∧ pllLocked s r.val n = false ∧ (¬(spare ∧ late))),
     timed && decide (other ∧ calm),
     timed && decide (¬other ∧ pllInUse s r.val o = false),
     timed && decide (¬other ∧ pllInUse s r.val o = true),
     decide (live ∧ (actOf s key = none ∨ since = 0 ∨ pllLocked s r.val n = true ∨ ¬late)),
     decide (live ∧ waits),
     decide (live ∧ (¬waits) ∧ wide),
     decide (live ∧ (¬waits) ∧ diff.natAbs < 400)]

def hypAssayers (s : State) (b : Bool) (v : Word) (k : Fin 29) (ph : Fin 8) (src : BitVec 10) (okA : Bool) (okB line : Bool) : List Bool :=
    let i := b2n b
    let o := 1 - i
    let p := pgDASY i
    let c := pgDRCV
    let beats := (roleOf s i = 1 ∨ roleOf s i = 2) ∧ isDead s i = false
    let quiet := line = true ∨ faultLine s i = true ∨ heardAt s i + 800 ≤ s.age
    let takes := roleOf s i = 2 ∧ roleOf s o = 3 ∧ flagF s (pgDASY o) DASY.ROLE_FENCED = true
    let live := fun j => roleOf s j = 1 ∨ roleOf s j = 2
    let last := if live 0 ∧ live 1 then max (heardAt s 0) (heardAt s 1) else if live 0 then heardAt s 0
      else if live 1 then heardAt s 1 else max (heardAt s 0) (heardAt s 1)
    let fails := failStaticOn s = false ∧ s.recov.testing = 0 ∧ last + 11400 ≤ s.age
    let w := pgDPWR
    let sheds := ph.val < getF s w (DPWR.RAIL_STAT_PHASES k.val) ∧
        bitOf (getF s w (DPWR.RAIL_STAT_LOST k.val)) ph.val = false
    let a := bitsOf v.toNat 7 0
    let busy := flagF s c DRCV.CMD_STAT_BUSY
    [decide (beats),
     decide (¬beats),
     decide (quiet ∧ roleOf s i = 2 ∧ roleOf s o = 1),
     decide (quiet ∧ roleOf s i = 1 ∧ roleOf s o = 2),
     decide (¬quiet),
     decide (takes),
     decide (¬takes),
     decide (openB s p ∧ roleOf s i = 3),
     decide (openB s p ∧ roleOf s i ≠ 3),
     (decide (s.recov.testing = 2 ^ i ∧ isDead s i = false) &&
         (let pass := if b then okB else okA; decide (pass = true ∧ activeAssayer s = none ∧ failStaticOn s = true))),
     (decide (s.recov.testing = 2 ^ i ∧ isDead s i = false) &&
         (let pass := if b then okB else okA; decide (pass = true ∧ roleOf s o = 1 ∧ roleOf s i = 3))),
     (decide (s.recov.testing = 2 ^ i ∧ isDead s i = false) &&
         (let pass := if b then okB else okA; decide (pass = false))),
     decide (fails),
     decide (¬fails),
     decide (line = true),
     decide (openToB s src.toNat c ∧ (failStaticOn s = false ∨ busy = true)),
     decide (openToB s src.toNat c ∧ failStaticOn s = true ∧ busy = false ∧
         actionOk s a (getF s c DRCV.CMD_ARG_PAGE) (getF s c DRCV.CMD_ARG_SUB) = false),
     decide (sheds),
     decide (¬sheds)]

def hypImageLoad (s : State) : List Bool :=
    let d := pgDCFG
    let st := loadState s
    let off := s.power.up = false ∧ s.power.rising = false
    let kept := loadSource s ≠ 0 ∨ flagF s d DCFG.STATUS_FELLBACK = true
    let h := imageBytes s 256
    let wave := s.load.wave
    let due := st = 2 ∧ wave < 33 ∧ s.load.begun + waveAt wave ≤ s.age
    let ready := s.load.passed = true ∧ 33 ≤ wave ∧ s.load.begun + 13400 ≤ s.age
    let first := st = 1 ∧ (loadSource s ≤ 2 ∨ s.loadBuf ≠ [])
    let limit := st = 3 ∧ s.load.doneWait ≠ 0 ∧ s.load.since + 100000 * s.load.doneWait ≤ s.age
    [decide (off),
     decide (¬off),
     decide (s.power.rising = true ∧ s.power.failing = false),
     decide (s.power.rising = false ∨ s.power.failing = true),
     decide (st = 0 ∧ dieReset s = false ∧ s.load.src = none),
     decide (st ≠ 0 ∨ dieReset s = true),
     decide (first),
     decide (¬first),
     decide (due),
     decide (¬due),
     decide (openB s d ∧ loadSource s = 3 ∧ (st = 1 ∨ st = 2)),
     decide (openB s d ∧ (loadSource s ≠ 3 ∨ (st ≠ 1 ∧ st ≠ 2))),
     decide (st ≠ 2),
     decide (st = 2 ∧ s.load.passed = false ∧ h.length = 256 ∧ headerFailure h = none),
     (decide (st = 2 ∧ s.load.passed = false ∧ h.length = 256) && (headerFailure h).any (fun f => decide (kept))),
     (decide (st = 2 ∧ s.load.passed = false ∧ h.length = 256) && (headerFailure h).any (fun f => decide (¬kept))),
     decide (st = 2 ∧ s.load.passed = true ∧ (¬ready)),
     (match readImage s (imageBytes s s.load.len) with
      | .bad _ s' => decide (st = 2 ∧ ready ∧ kept ∧ loadSource s' = loadSource s ∧
          flagF s' d DCFG.STATUS_FELLBACK = flagF s d DCFG.STATUS_FELLBACK)
      | _ => false),
     decide (st = 3),
     decide (st ≠ 3),
     decide (limit ∧ kept),
     decide (limit ∧ (¬kept)),
     decide (¬limit)]

def hypStartUpPhases (s : State) (v : Word) (late : Bool) : List Bool :=
    let d := pgDCFG
    let st := loadState s
    let phase := phaseNow s
    let key := bitsOf v.toNat 31 16 = 0x10AD
    [decide (phase ≠ some 0),
     decide (phase ≠ some 1),
     decide (phase ≠ some 2),
     decide (phase ≠ some 3),
     decide (phase = some 0 ∧ s.load.clk = none),
     (s.load.clk).any (fun a => decide (phase = some 0 ∧ late = false)),
     (s.load.clk).any (fun a => decide (phase = some 0 ∧ late = true ∧ a + 10000 ≤ s.age)),
     (s.load.clk).any (fun a => decide (phase = some 0 ∧ late = true ∧ s.age < a + 10000)),
     decide (phase = some 1),
     decide (phase = some 2),
     decide (phase = some 3 ∧ s.heldW = []),
     decide (openB s d ∧ (st = 6 ∨ st = 7)),
     decide (openB s d ∧ st = 5 ∧ key ∧ pairUp s = false),
     decide (openB s d ∧ st = 5 ∧ key ∧ pairUp s = true),
     decide (openB s d ∧ (st < 5 ∨ (st = 5 ∧ ¬key))),
     decide (openB s d ∧ (¬key ∨ pairUp s = false)),
     decide (openB s d ∧ key ∧ pairUp s = true ∧ bitOf v.toNat 0 = true),
     decide (openB s d ∧ key ∧ pairUp s = true ∧ bitOf v.toNat 0 = false),
     decide (pairOn s = true),
     decide (pairOn s = false)]

def hypFlashAndCalibration (s : State) (v : Word) : List Bool :=
    let d := pgDCFG
    let c := pgDCAL
    let a := getF s d DCFG.FL_ADDR
    let key := bitsOf v.toNat 31 16 = 0x10AD
    let takes := openB s d ∧ key ∧ flashBusy s = false ∧ 5 ≤ loadState s
    let ck := bitsOf v.toNat 31 16 = 0xCA1B
    let calBusy := flagF s c DCAL.CAL_STAT_BUSY
    let other := fun k : Nat => 1 - k
    let blank := fun k : Nat => ∀ x ∈ s.flash.pages, x.1 / 256 ≠ calAddr k / 65536
    [decide (openB s d ∧ (¬key ∨ flashBusy s = true)),
     decide (openB s d ∧ key ∧ flashBusy s = false ∧ loadState s < 5),
     decide (takes ∧ a / 65536 < 496 ∧ flashWear s (a / 65536) < 100000),
     decide (takes ∧ a / 65536 < 496 ∧ 100000 ≤ flashWear s (a / 65536)),
     decide (takes ∧ 496 ≤ a / 65536),
     decide (takes ∧ a / 65536 < 496 ∧ look 0 s.flash.pages (a / 256) ≠ 1),
     decide (takes ∧ a / 65536 < 496 ∧ look 0 s.flash.pages (a / 256) = 1),
     decide (takes),
     decide (openB s d ∧ flashBusy s = true),
     decide (openB s d ∧ flashBusy s = false ∧ flashWear s bootBlock < 100000),
     decide (openB s d ∧ flashBusy s = false ∧ 100000 ≤ flashWear s bootBlock),
     (s.flash.run).any (fun z => decide (z.1 = 1)),
     (s.flash.run).any (fun z => decide (z.1 = 2)),
     (s.flash.run).any (fun z => decide (z.1 = 3)),
     (s.flash.run).any (fun z => let n := z.2; decide (z.1 = 4 ∧ n < 2)),
     decide (s.flash.run = none ∧ s.flash.calRun = none),
     decide (openB s c ∧ (¬ck ∨ calBusy = true)),
     (s.load.calBlock).any (fun k => decide (k < 2 ∧ openB s c ∧ ck ∧ calBusy = false ∧ blank (other k) ∧
         calSeq s k < 2 ^ 32 - 1)),
     decide (s.load.calBlock = none ∧ openB s c ∧ ck ∧ calBusy = false ∧ blank 0),
     (s.load.calBlock).any (fun k => (s.flash.calRun).any (fun b => decide (s.flash.run = none ∧ k < 2 ∧ b < 2 ∧
         b ≠ k ∧ flashWear s (calAddr k / 65536) < 100000 ∧ calSeq s b < 65536))),
     decide (openB s c ∧ ck ∧ calBusy = false)]

def hypBezelSegments (s : State) (g : Fin 4) (pin : Fin 48) (j : Fin 32) : List Bool :=
    let p := pgDBZL g.val
    let b := bezelOf s g.val
    let settled := b.launches = [] ∧ b.takes = 0 ∧ b.loads = []
    let due := b.nextFrame ≠ 0 ∧ b.nextFrame ≤ s.tb.toNat
    let slot := s.released = true ∧ pinOuts s g.val pin.val = true ∧ pinFramed s g.val pin.val = true ∧
        b.framed = true ∧
      bitOf b.slotDone pin.val = false ∧ b.frameAge + getF s p (DBZL.PIN_OUT_TICK pin.val) ≤ s.age
    let sg := j.val / 8
    let e := bezelOf s sg
    [decide (settled),
     decide (due ∧ getF s p DBZL.FRAME_LEN ≠ 0),
     decide (¬due),
     decide (slot ∧ bitOf b.frFresh pin.val = true),
     decide (slot ∧ bitOf b.frFresh pin.val = false),
     decide (¬slot),
     ((e.launches.find? fun x => x.port == j.val % 8).any fun x => x.credit && (portInKey s j.val).isSome),
     ((e.launches.find? fun x => x.port == j.val % 8).any fun x => !x.credit),
     decide (e.launches.find? (fun x => x.port == j.val % 8) = none),
     decide (bitOf e.takes (j.val % 8) = true),
     decide (bitOf e.takes (j.val % 8) = false)]

def hypMachineInterface (s : State) (k : Fin 16) (i : Fin 32) (v : Bool) : List Bool :=
    let p := pgDMIF
    let d := dacOf s k.val
    let sg := chSeg k.val
    let lim := getF s p DMIF.DAC_WD
    let stale := dacClosed s k.val = true ∧ lim ≠ 0 ∧ flagF s p (DMIF.DAC_CFG_STALE k.val) = false ∧
        d.loadAt + 100 * lim ≤ s.age
    let due := s.adcNext ≠ 0 ∧ s.adcNext ≤ s.tb.toNat
    let fly := look [] s.adcFly k.val
    let lvl : Fld := ⟨DMIF.DI_LEVEL.off, i.val, i.val⟩
    [((bezelOf s sg).loads.find? fun x => x.1 == k.val).isSome,
     decide ((bezelOf s sg).loads.find? (fun x => x.1 == k.val) = none),
     (d.waiting).any (fun c => decide (flagF s p (DMIF.DAC_CFG_SYNC k.val) = false ∧ d.nextAt ≤ s.age)),
     (d.waiting).any (fun c => decide (flagF s p (DMIF.DAC_CFG_SYNC k.val) = false ∧ s.age < d.nextAt)),
     decide (flagF s p (DMIF.DAC_CFG_SYNC k.val) = true ∧ d.due.isSome = true),
     decide (stale),
     decide (¬stale),
     decide (openB s p),
     decide (due ∧ getF s p DMIF.ADC_CFG_PERIOD ≠ 0),
     decide (¬due),
     (fly).head?.any (fun z => let a := z.1; decide (a + 70 ≤ s.age ∧ look 0 s.adcVal k.val ≠ 1)),
     (fly).head?.any (fun z => let a := z.1; decide (a + 70 ≤ s.age ∧ look 0 s.adcVal k.val = 1)),
     decide (fly = [] ∨ fly.head?.any fun z => decide (s.age < z.1 + 70)),
     decide (flagF s p lvl = v),
     decide (flagF s p lvl ≠ v),
     (s.diQ).head?.any (fun x => true),
     decide (s.diQ = []),
     decide (doOn s k.val = true),
     decide (doOn s k.val = false),
     decide (flagF s p DMIF.MIF_STAT = true),
     decide (flagF s p DMIF.MIF_STAT = false)]

def hypLoupe (s : State) (v : Word) : List Bool :=
    let p := pgDLPE
    let n := v.toNat
    let st := traceState s
    [decide (openB s p ∧ bitsOf n 30 29 = 3),
     decide (openB s p ∧ bitsOf n 30 29 ≠ 3 ∧ bitOf n 28 = false),
     decide (openB s p ∧ st = 1 ∧ s.loupe.hit = none),
     decide (openB s p ∧ st ≠ 1),
     (s.loupe.hit).any (fun x => decide (st = 1)),
     decide (s.loupe.hit = none ∨ st ≠ 1),
     decide (openB s p),
     decide (s.loupe.read = none),
     (s.loupe.read).any (fun a => (storageOf s (placeOf a)).any (fun st' => (decide (onPage a = false ∧
         placeRefusal s (placeOf a) = 0) && true))),
     (s.loupe.read).any (fun a => match placeOf a with
       | .page q o => decide ((physPage s q).isSome ∧ placeRefusal s (.page q o) = 0 ∧ a ≠ 0x1200004054 ∧
           a ≠ 0x1200004058)
       | _ => false),
     (s.loupe.read).any (fun a => match placeOf a with | .bad _ => true | _ => false)]

def hypLinksUpAndDown (s : State) (n : Fin 6) (md : BitVec 2) (mw : BitVec 2) (good : BitVec 8) (lane : Fin 8) (e : Fin 64) : List Bool :=
    let p := pgZLNK n.val
    let st := lineState s n.val
    let bad := getF s p ZLNK.STAT_LANEBAD
    let fits := fun (ok : Nat → Bool) (c g : Nat) => decide (c ≤ 3) && decide (8 / 2 ^ c * (g + 1) ≤ 8) &&
      (List.range 8).all fun l => !(decide (8 / 2 ^ c * g ≤ l ∧ l < 8 / 2 ^ c * (g + 1))) || ok l
    let best := fun (ok : Nat → Bool) (m c g : Nat) => decide (m ≤ c) && fits ok c g &&
      (List.range 4).all fun c' => (List.range 8).all fun g' => !(decide (m ≤ c') &&
          fits ok c' g') || decide (c < c' ∨ c = c' ∧ g ≤ g')
    let none_ := fun (ok : Nat → Bool) (m : Nat) => !((List.range 4).any fun c => (List.range 8).any fun g => decide (m ≤ c) &&
        fits ok c g)
    let trained := fun l => bitOf good.toNat l && !bitOf bad l
    let most := max mw.toNat (getF s p ZLNK.CFG_MAXW)
    let mode := getF s p ZLNK.CFG_MODE
    let left := fun l => bitOf (lineOf s n.val).good l && !bitOf bad l && l != lane.val
    let key := zilKey n.val e.val
    let due := key ∈ s.strand.resend ∧ entEn s key = true ∧ entOutbound s key = true ∧
      (lineTo s (getE s key 0x10 31 14)).any (lineUp s) = true
    [(decide (loadLink s n.val = false ∧ mode ≠ 0 ∧ (st = 1 ∨ st = 3)) &&
        ((List.range 4).any fun c => ((List.range 8).any fun g => decide (md.toNat = mode ∧ best trained most c g)))),
     decide (loadLink s n.val = false ∧ mode ≠ 0 ∧ (st = 1 ∨ st = 3) ∧ (md.toNat ≠ mode ∨ none_ trained most)),
     decide (loadLink s n.val = false ∧ (mode = 0 ∨ (st ≠ 1 ∧ st ≠ 3))),
     decide (loadLink s n.val = true ∧ bitOf good.toNat 0 = true ∧ st ≠ 5),
     (decide (st = 2 ∧ bitOf bad lane.val = false) &&
         ((List.range 4).any fun c => ((List.range 8).any fun g => decide (best left (getF s p ZLNK.STAT_WIDTH) c g)))),
     decide (st = 2 ∧ bitOf bad lane.val = false ∧ none_ left (getF s p ZLNK.STAT_WIDTH)),
     decide (st ≠ 2 ∨ bitOf bad lane.val = true),
     decide (loadLink s n.val = false ∧ (st = 2 ∨ st = 3 ∨ st = 5)),
     decide (loadLink s n.val = true ∧ st = 5),
     decide (st ≠ 2 ∧ st ≠ 3 ∧ st ≠ 5),
     decide (st = 4),
     decide (st ≠ 4),
     decide (openB s p),
     decide (due),
     decide (¬due),
     decide (openB s pgDSTR)]

def hypFramesAndTime (s : State) (n : Fin 6) (ws : List (BitVec 64)) : List Bool :=
    let p := pgZLNK n.val
    let x := lineOf s n.val
    let h := linkHdr (ws.headD 0)
    let rhs := (ws.drop 1).take h.nrh
    let flits := (ws.drop (1 + h.nrh)).dropLast
    let r0 := rhs.headD 0
    let left := if isOwn s (rhDst r0) then rhs.drop 1 else rhs
    let k := pktOfWords flits
    let d := pgDSTR
    let uses := getF s d DSTR.TIME_STAT_USING
    let lost := getF s d DSTR.TIME_CFG_SRC = 1 ∧ flagF s d DSTR.TIME_STAT_HOLD = false ∧ lineState s uses ≠ 2
    let data := arrivesB s n.val 1 ws
    let goesOut := fun a => (List.range 16).any fun m => decide (wayTo s a = .line m)
    let acks := fun typ => arrivesB s n.val typ ws && x.unacked.any fun g => g.1 == h.ack
    [(left.head?.any fun r => decide (data ∧ rhTtl r ≠ 0 ∧ goesOut (rhDst r))),
     (left.head?.any fun r => decide (data ∧ rhTtl r ≠ 0 ∧ left.length < 4) &&
       match wayTo s (rhDst r) with | .push via => goesOut via | _ => false),
     (left.head?.any fun r => decide (data ∧ (rhTtl r = 0 ∨ wayTo s (rhDst r) = .drop) ∧ h.cls ≠ 0)),
     decide (data ∧ left = [] ∧ h.cls = 3),
     decide (data ∧ left = [] ∧ h.cls = 0 ∧
         (k.addr / 65536 < getF s d DSTR.RWIN_BASE ∨ getF s d DSTR.RWIN_LIMIT < k.addr / 65536) ∧ ownId s ≠ noId ∧
         goesOut (rhSrc r0)),
     (look none s.txns (256 * k.src + k.tag)).any (fun t => decide (data ∧ left = [] ∧ h.cls = 1 ∧
         look [] s.strand.remote (k.src - 0x221) = []) &&
       match t.purpose with | .dmaRead _ _ _ => true | _ => false),
     decide (h.typ = 1 ∧ trailerOk ws = false),
     decide (h.typ = 1 ∧ lineTakes s n.val 1 = true ∧ trailerOk ws = true ∧ h.seq ≠ x.rxSeq ∧ x.rxSeq < 1024 ∧
         (h.seq + 1024 - x.rxSeq) % 1024 < 512 ∧ x.nacked = false),
     decide (lineUp s n.val = true ∧ x.unacked ≠ []),
     acks 2,
     decide (acks 3 ∧ x.waiting = []),
     decide (lineUp s n.val = false),
     decide (arrivesB s n.val 7 ws ∧ loadLink s n.val = true),
     decide (n.val ∈ memberLines s ∧ x.only = false ∧ flagF s p ZLNK.CTRL_CFGTX = false),
     decide (n.val ∉ memberLines s),
     decide (arrivesB s n.val 4 ws ∧ wordAt ws 2 ≠ 0),
     decide (lost),
     decide (¬lost)]

def hypJoiningAndIds (s : State) (n : Fin 6) (ws : List (BitVec 64)) (num : BitVec 12) (i : Fin 16) : List Bool :=
    let d := pgDSTR
    let x := lineOf s n.val
    let nrh := (linkHdr (ws.headD 0)).nrh
    let rhs := (ws.drop 1).take nrh
    let w := wordAt ws (1 + nrh)
    let serial := wordAt ws (2 + nrh)
    let id := bitsOf w 59 42
    let head := bitsOf w 41 24
    let arg := bitsOf w 23 16
    let m := id % 64
    let comes := fun jt => arrivesB s n.val 6 ws ∧ bitsOf w 63 60 = jt
    let mine := serial = ownSerial s ∧ ownId s = noId
    let known := flagF s d (DSTR.MEMBER_VALID m) = true
    let last := if ownId s / 64 = 4095 then 62 else 63
    let kept := (s.strand.reqs.find? fun q => q.serial == serial).isSome = true
    let free := fun k => 1 ≤ k ∧ k ≤ last ∧ look 0 s.strand.members k = 0 ∧ flagF s d (DSTR.MEMBER_VALID k) = false
    [decide (x.hello = true ∧ lineState s n.val = 2),
     decide (x.hello = false ∨ lineState s n.val ≠ 2),
     decide (comes 1),
     decide (ownId s = noId ∧ getF s d DSTR.JOIN_STAT_STATE ≠ 3 ∧ idMode s = 3 ∧ n.val ∈ memberLines s),
     ((List.range 6).any fun l => decide (ownId s = noId ∧ getF s d DSTR.JOIN_STAT_STATE ≠ 3 ∧ idMode s = 2 ∧
         flagF s d DSTR.ID_CFG_SREQ = true ∧ wayTo s 0 = .line l)),
     decide (ownId s ≠ noId ∨ getF s d DSTR.JOIN_STAT_STATE = 3),
     (decide (comes 2 ∧ arg ≠ 1 ∧ isHead s = true ∧ (∀ g ∈ s.strand.members, g.2 ≠ serial + 1)) &&
         ((List.range 64).any fun k => decide (free k ∧ (∀ j ∈ List.range k, ¬free j)))),
     decide (comes 2 ∧ arg ≠ 1 ∧ isHead s = true ∧ (∀ g ∈ s.strand.members, g.2 ≠ serial + 1) ∧
         (∀ k ∈ List.range 64, ¬free k)),
     decide (comes 2 ∧ arg ≠ 1 ∧ ownId s ≠ noId ∧ isHead s = false ∧ flagF s d (DSTR.MEMBER_VALID 0) = true ∧
         (∀ q ∈ s.strand.reqs, q.serial ≠ serial) ∧ s.strand.reqs.length < 16),
     (rhs).head?.any (fun r => ((List.range 64).any fun k => decide (comes 2 ∧ arg = 1 ∧ ownId s ≠ noId ∧
         isOwn s (rhDst r) = true ∧ idMode s = 1 ∧ (∀ g ∈ s.strand.strands, g.2 ≠ serial + 1) ∧ 1 ≤ k ∧ k ≤ 4095 ∧
         look 0 s.strand.strands k = 0 ∧ (∀ j ∈ List.range k, 1 ≤ j → look 0 s.strand.strands j ≠ 0)))),
     decide (comes 3 ∧ mine),
     decide (comes 3 ∧ (¬mine) ∧ kept),
     decide (comes 4 ∧ mine),
     decide (comes 4 ∧ (¬mine) ∧ kept),
     decide (ownId s ≠ noId ∧ idMode s ≠ 3 ∧ n.val ∈ memberLines s),
     decide (comes 5 ∧ id / 64 = ownId s / 64 ∧ id ≠ ownId s ∧ (¬known ∨ arg < getF s d (DSTR.MEMBER_HOPS m))),
     decide (comes 5 ∧ id / 64 = ownId s / 64 ∧ id ≠ ownId s ∧ known ∧ getF s d (DSTR.MEMBER_HOPS m) ≤ arg),
     decide (comes 6 ∧ id / 64 = ownId s / 64 ∧ head ≠ ownId s ∧ (¬known ∨ getF s d (DSTR.MEMBER_LINK m) ≠ n.val)),
     decide (openB s d ∧ getF s d DSTR.JOIN_STAT_STATE = 3),
     decide (openB s d ∧ getF s d DSTR.JOIN_STAT_STATE ≠ 3),
     decide (openB s d ∧ idMode s = 1),
     decide (openB s d ∧ idMode s ≠ 1),
     decide (openB s d ∧ isHead s = true ∧ 1 ≤ num.toNat ∧ num.toNat < 64),
     decide (openB s d ∧ (isHead s = false ∨ num.toNat = 0 ∨ 64 ≤ num.toNat)),
     (s.strand.reqs[i.val]?).any (fun q => decide (q.at_ + 1000000 ≤ s.age)),
     decide (∀ q, s.strand.reqs[i.val]? = some q → s.age < q.at_ + 1000000)]

def hypEthernetAndBridges (s : State) (n : Fin 8) (f : List Byte) (br : Fin 16) : List Bool :=
    let p := pgETHP n.val
    let st := portState s n.val
    let b := f.take (f.length - 4)
    let w := walk b
    let whole := st = 2 ∧ 64 ≤ f.length ∧ f.drop (f.length - 4) = fcsOf b ∧ addressOk s n.val b = true
    let good := whole ∧ f.length ≤ getF s p ETHP.CFG_MAXLEN ∧ beAt b 12 2 ≠ 0x8808
    let plain := w.why = .done ∧ lengthsBad b w = false
    let rule := fun i => i < 32 ∧ ruleMatches s n.val i b w = true ∧ ∀ j, j < i → ruleMatches s n.val j b w = false
    let noExc := ∀ e ∈ List.range 32, entEn s (ethKey n.val e) = true → entOutbound s (ethKey n.val e) = false →
      flagF s p (ETHP.EP_CTL_EXC e) = false
    let goes := fun q => (ethQueue s n.val q).head?.any fun x => mayStart s n.val q x.bytes.length
    let room := fun i =>
      let key := ethKey n.val (getF s p (ETHP.RULE0_TARGET i))
      entEn s key && !entOutbound s key && decide ((b.length + 3) / 4 + 3 ≤ entRoom s key)
    let g := gateOf s n.val
    let due := flagF s p ETHP.GCL_CTL_EN = true ∧ (if g.going then g.next else cycleFrom s n.val 0) ≤ s.tb.toNat
    let ended := g.going = true ∧ g.idx + 1 < g.active.length ∧ g.ends ≤ s.tb.toNat ∧ g.ends < g.next
    let l := 8 + br.val
    [decide (st ≠ 2),
     decide (st = 2 ∧ (f.length < 5 ∨ f.drop (f.length - 4) ≠ fcsOf b)),
     decide (whole ∧ getF s p ETHP.CFG_MAXLEN < f.length),
     decide (whole ∧ f.length ≤ getF s p ETHP.CFG_MAXLEN ∧ beAt b 12 2 = 0x8808),
     decide (good ∧ (w.why = .tags ∨ w.why = .depth ∨ (plain ∧ ∀ i ∈ List.range 32,
         ruleMatches s n.val i b w = false)) ∧ noExc),
     decide (good ∧ (w.why = .done ∨ w.why = .short) ∧ lengthsBad b w = true),
     ((List.range 32).any fun i => decide (good ∧ plain ∧ rule i ∧
         (getF s p (ETHP.RULE0_ACT i) = 0 ∨ getF s p (ETHP.RULE0_ACT i) = 3))),
     ((List.range 32).any fun i => decide (good ∧ plain ∧ rule i ∧ getF s p (ETHP.RULE0_ACT i) = 1 ∧ room i = true ∧
         f.length ≤ 9216)),
     ((List.range 32).any fun i => decide (good ∧ plain ∧ rule i ∧ getF s p (ETHP.RULE0_ACT i) = 1 ∧
         room i = false ∧ f.length ≤ 9216)),
     decide (st ≠ 2 ∨ ∀ q ∈ List.range 8, goes q = false),
     ((List.range 8).any fun q => decide (st = 2 ∧ goes q ∧ ∀ q' ∈ List.range 8, q < q' → goes q' = false)),
     decide (due),
     decide (¬due),
     decide (ended),
     decide (¬ended),
     decide (openB s p ∧ (∃ e, e ≤ getF s p ETHP.GCL_CTL_LAST ∧ getF s p (ETHP.GCL1 e) < 100)),
     decide (openB s p ∧ (∀ e, e ≤ getF s p ETHP.GCL_CTL_LAST → 100 ≤ getF s p (ETHP.GCL1 e))),
     (look [] s.tsFifo n.val).head?.any (fun t => true),
     decide (look [] s.tsFifo n.val = []),
     decide (st ≠ 3 ∧ (activeAssayer s).isSome = true),
     decide (st ≠ 3 ∧ activeAssayer s = none),
     decide (st = 3),
     decide (st = 2),
     decide (s.outRel = true ∧ (st = 0 ∨ st = 1)),
     decide (s.outRel = false ∨ 2 ≤ st),
     decide (brEn s br.val = false),
     decide (brEn s br.val = true ∧ (f.length % 8 ≠ 0 ∨ splitFrames 1200 (wordsOf 1200 f) = none)),
     (match splitFrames 1200 (wordsOf 1200 f) with
      | some [ws] => decide (brEn s br.val = true ∧ f.length % 8 = 0 ∧ (linkHdr (ws.headD 0)).typ = 2)
      | _ => false),
     decide (brEn s br.val = true),
     decide (brEn s br.val = true ∧ s.outRel = true),
     decide (brEn s br.val = false ∨ s.outRel = false),
     decide (lineState s l = 2),
     decide (lineState s l ≠ 2)]

def hypHostLinkAndResets (s : State) (low : Bool) (lane : Fin 8) (errs : BitVec 16) (w : Fin 4) (vec : BitVec 9) (v : Word) : List Bool :=
    let p := pgHPCI
    let up := hostUp s = true
    let bad := getF s p HPCI.LINK_LANEBAD
    let state := fun (u : State) => getF u p HPCI.LINK_STATE
    let full := b2n (loadState s == 5)
    let may := state s = 0 ∧ s.host.perst = false ∧ s.host.dark ≤ s.age ∧ (loadState s = 5 ∨ s.host.hold ≤ s.age)
    let fits := fun n => (n = 1 ∨ n = 2 ∨ n = 4 ∨ n = 8) ∧ ∀ l ∈ List.range n, bitOf bad l = false
    let widest := fun n m => fits n ∧ n ≤ m ∧ ∀ k ∈ [1, 2, 4, 8], fits k → k ≤ m → k ≤ n
    let sends := hostFull s = true ∧ look 0 s.vecPend vec.toNat = 1 ∧ look 0 s.host.unmasked vec.toNat = 1 ∧
      look 0 s.host.imod vec.toNat ≤ s.age
    [([1, 2, 4, 8].any fun n => decide (may ∧ widest n (2 ^ w.val))),
     decide (¬may ∨ bitOf bad 0 = true),
     decide (up ∧ getF s p HPCI.LINK_PERS ≠ full),
     decide (¬up ∨ getF s p HPCI.LINK_PERS = full),
     decide (low = true),
     decide (low = false),
     decide (up ∧ low = true),
     decide (up ∧ low = false),
     decide (¬up),
     decide (up),
     decide (up ∧ 16 < errs.toNat ∧ lane.val < getF s p HPCI.LINK_WIDTH),
     decide (¬up ∨ errs.toNat ≤ 16 ∨ getF s p HPCI.LINK_WIDTH ≤ lane.val),
     decide (sends),
     decide (¬sends),
     decide (openB s p ∧ v.toNat % 512 < 400),
     decide (openB s p ∧ 400 ≤ v.toNat % 512),
     decide (loadState s = 5),
     decide (loadState s ≠ 5),
     decide (s.released = true ∧ flagF s pgMEMC MEMC.SCRUB_EN = true),
     decide (s.released = false ∨ flagF s pgMEMC MEMC.SCRUB_EN = false)]

def hypHostAccessesAndRings (s : State) (a : BitVec 48) (be : BitVec 64) (d : List Byte) (ep : Bool) (n : Nat) (k : Fin 64) (v : Word) : List Bool :=
    let p := pgHPCI
    let o := a.toNat
    let len := min n (64 - o % 64)
    let dev := fun (bar2 : Bool) =>
      if bar2 then (if bitOf o 35 then 0x1000000000 + bitsOf o 32 0 + bitsOf o 34 33 * 2 ^ 44 else bitsOf o 34 0)
      else 0x1200000000 + o % 2 ^ 24
    let reached := fun (bar2 : Bool) => hostUp s = true ∧
      if bar2 then flagF s p HPCI.LINK_PERS = true else flagF s p HPCI.LINK_PERS = true ∨ configReach o = true
    let wr := fun (bar2 : Bool) => (⟨true, bar2, dev bar2, 0, be.toNat, d, ep⟩ : BarReq)
    let rd := fun (bar2 : Bool) => (⟨false, bar2, dev bar2, len, 0, [], false⟩ : BarReq)
    let room := fun (w : Bool) => (freeTag s 0x220).isSome &&
      localRoom s { blankPkt with flits := if w then 2 else 1, rtr := (initIf 0x220).1 }
    let idle := s.host.queue = []
    let word4 := fun j => o % 0x4000 / 64 * 16 + j
    let key := hostKey k.val
    let new := v.toNat % 65536
    let hidx := getE s key 0x18 15 0
    let didx := getE s key 0x14 15 0
    let keep := openB s p ∧ s.released = true
    [([false, true].any fun bar2 => decide (reached bar2 ∧ idle ∧ barCode s (wr bar2) = 0 ∧ (∀ x ∈ barWritesOut s,
        x = destOf (placeOf (dev bar2))) ∧ room true = true)),
     ([false, true].any fun bar2 => decide (reached bar2 ∧ idle ∧ barCode s (wr bar2) = 0 ∧ (∃ x ∈ barWritesOut s,
         x ≠ destOf (placeOf (dev bar2))))),
     ([false, true].any fun bar2 => decide (reached bar2 ∧ idle ∧ barCode s (wr bar2) ≠ 0)),
     ([false, true].any fun bar2 => decide (reached bar2 ∧ idle ∧ barCode s (rd bar2) = 0 ∧ barWritesOut s = [] ∧
         room false = true)),
     ([false, true].any fun bar2 => decide (reached bar2 ∧ idle ∧ barCode s (rd bar2) = 0 ∧ barWritesOut s ≠ [])),
     ([false, true].any fun bar2 => decide (reached bar2 ∧ idle ∧ barCode s (rd bar2) ≠ 0)),
     decide (hostUp s = true ∧ flagF s p HPCI.LINK_PERS = false ∧ configReach o = false),
     decide (hostUp s = true ∧ flagF s p HPCI.LINK_PERS = false),
     (decide (hostFull s = true) && ((List.range 64).any fun j => decide (j < 16 ∧ word4 j < 2048 ∧
         be.toNat / 2 ^ (4 * j) % 16 = 15))),
     decide (hostFull s = true),
     decide (hostUp s = false),
     decide (hostUp s = true),
     decide (keep ∧ entOutbound s key = false ∧ (new + 65536 - didx) % 65536 ≤ entSize s key ∧ entEn s key = false),
     decide (keep ∧ entOutbound s key = false ∧ (new + 65536 - didx) % 65536 ≤ entSize s key ∧ entEn s key = true ∧
         (new + 65536 - didx) % 65536 ≤ entRoom s key),
     decide (keep ∧ entOutbound s key = false ∧ entSize s key < (new + 65536 - didx) % 65536),
     decide (keep ∧ entOutbound s key = true ∧ (new + 65536 - hidx) % 65536 ≤ (didx + 65536 - hidx) % 65536),
     decide (keep ∧ entOutbound s key = true ∧ (didx + 65536 - hidx) % 65536 < (new + 65536 - hidx) % 65536),
     ((endOf s key).held).head?.any (fun t => decide (hostFull s = true ∧ s.released = true ∧ entEn s key = true ∧
         entOutbound s key = true ∧ (endOf s key).stall = false ∧ mayEmit s key 0 1 = 1)),
     decide (hostFull s = false ∨ s.released = false ∨ (endOf s key).held = [] ∨ (endOf s key).stall = true ∨
         mayEmit s key 0 1 = 0)]

def hypMaintenanceAndSerial (s : State) (i : Fin 4) (f : List Byte) (m : Fin 2) : List Bool :=
    let p := pgMSER
    let cmd := (f.getD 0 0).toNat
    let a := ofBytes ((f.drop 2).take 6)
    let one := (f.getD 1 0).toNat = 1
    let takes := fun j => dieReset s = false ∧ servesFrames s j = true ∧ frameOf s j = [] ∧ f ≠ [] ∧
      (j < 2 → (frameBytes f).any (fun n => decide (n ≤ f.length)) = true)
    let st := loadState s
    let rx := look [] s.ser.rx m.val
    let tx := look [] s.ser.tx m.val
    let mode := uartMode s m.val
    let src4 := loadSource s = 4
    let target := dieReset s = false ∧ flagF s p MSER.SPI_CFG_ROLE = false
    let ready := src4 ∧ (st = 1 ∨ st = 2)
    let pins := st = 6 ∨ st = 7
    [decide (takes i.val ∧ frameOk f = false),
     decide (takes i.val ∧ frameOk f = true),
     decide (takes i.val ∧ frameOk f = true ∧ maintLimited s = true ∧ limitedPage (a / 4 * 4) = false),
     (decide (takes i.val ∧ frameOk f = true ∧ maintLimited s = true ∧ limitedPage (a / 4 * 4) = false) &&
         decide (one)),
     decide (takes i.val ∧ frameOk f = true ∧ one ∧ a < 0x800000000 ∧ a % 4 = 0 ∧ maintCode s a = 0 ∧
         markAt s (wordKey a) = .clean),
     decide (takes i.val ∧ frameOk f = true ∧ one ∧ a < 0x800000000 ∧ a % 4 = 0 ∧ maintCode s a = 0 ∧
         markAt s (wordKey a) = .clean ∧ s.writesOpen = true ∧ reservedFor s 0x233 (.lpddr (a / 64 * 64)) = false),
     decide (servesFrames s i.val = false ∨ cmd ≠ 1),
     decide (servesFrames s i.val = false ∨ cmd ≠ 2),
     decide (servesFrames s i.val = false ∨ cmd ≠ 4),
     decide (dieReset s = false ∧ mode = 1 ∧ rx.length < 64),
     decide (dieReset s = false ∧ mode = 1 ∧ 64 ≤ rx.length),
     decide (dieReset s = false ∧ mode = 2 ∧ (frameOf s m.val).length < 11),
     decide (dieReset s = false ∧ (mode = 0 ∨ mode = 3)),
     decide (openB s p ∧ mode = 1 ∧ tx.length < 64),
     decide (openB s p ∧ (mode ≠ 1 ∨ 64 ≤ tx.length)),
     decide (target ∧ ready),
     decide (target ∧ src4 ∧ (st = 3 ∨ st = 4)),
     decide (¬target ∨ ¬src4 ∨ st = 0 ∨ 5 ≤ st),
     decide (target),
     decide (¬target),
     decide (target ∧ f = []),
     decide (target ∧ takes 2 ∧ frameOk f = false),
     decide (dieReset s = false ∧ f = []),
     decide (takes 3 ∧ frameOk f = false),
     decide (dieReset s = true),
     decide (openB s p ∧ s.ser.spiRun.isSome = true),
     decide (openB s p ∧ s.ser.spiRun = none ∧ flagF s p MSER.SPI_CFG_ROLE = true),
     decide (openB s p ∧ s.ser.spiRun = none ∧ flagF s p MSER.SPI_CFG_ROLE = false),
     decide (openB s p ∧ s.ser.i2cRun.isSome = true),
     decide (openB s p ∧ s.ser.i2cRun = none),
     decide (pins),
     decide (¬pins),
     (s.ser.tdo).head?.any (fun x => decide (dieReset s = false)),
     decide (dieReset s = false ∧ s.ser.tdo = [] ∧ (frameOf s 4).length < 11)]

def hypModulePower (s : State) (k : Fin 29) (held : Bool) : List Bool :=
    let p := pgDPWR
    let x := s.power
    let cause := getF s p DPWR.OFF_CAUSE
    let can := (x.up = true ∨ x.rising = true) ∧ x.failing = false
    let off := x.up = false ∧ x.rising = false
    let plate := sext 16 (getF s p DPWR.PLATE)
    let cleared := cause = 3 ∨ cause = 5 ∨ (cause = 4 ∧ plate ≤ 80 * 16)
    [decide (can),
     decide (¬can),
     decide (x.up = true ∧ (k.val = 2 ∨ k.val = 3)),
     decide (x.up = true ∧ k.val ≠ 2 ∧ k.val ≠ 3),
     decide (x.up = false),
     decide (x.failing = true),
     decide (x.failing = false),
     decide (off ∧ 100000000 ≤ s.age ∧ cleared),
     decide (¬off ∨ s.age < 100000000 ∨ ¬cleared),
     decide (off ∧ x.switchOff = true),
     decide (¬off ∨ x.switchOff = false),
     decide (x.up = true ∧ x.supplyOut = false),
     decide (x.up = false ∨ x.supplyOut = true),
     decide (x.up = true),
     decide (held = true),
     decide (held = false),
     decide (openB s p)]

def hypPowerGovernor (s : State) (vin : BitVec 16) (pin : BitVec 20) (amps : List (BitVec 16)) (temps : List (BitVec 16)) : List Bool :=
    let p := pgDPWR
    let due := s.power.up = true ∧ s.power.govNext ≤ s.age
    let lim := powerLimit s vin.toNat
    let hyst := 1000 * max 1 (getF s p DPWR.GOV_CFG_HYST)
    let tlim := 16 * (getF s p DPWR.GOV_CFG_TLIM : Int)
    let temp := fun r => sext 16 (measured temps r)
    let weak := fun r => 2 ≤ phasesLost s (13 + r)
    let cool := ∀ r ∈ List.range 16, temp r < tlim ∧ (weak r → measured amps (13 + r) ≤ 2700)
    let calm := pin.toNat + hyst ≤ lim ∧ ∀ r ∈ List.range 16, temp r + 80 ≤ tlim ∧
        (weak r → measured amps (13 + r) + 200 ≤ 2700)
    let able := fun t => t < 256 ∧ clkPinned s t = false ∧ baseDiv s t + clkSteps s t < 5 ∧ tileRetired s t = false
    [decide (due ∧ s.released = false),
     decide (due ∧ s.released = true ∧ cool ∧ lim < pin.toNat ∧ (∃ t ∈ List.range 256, able t ∧ tileGated s t = false)),
     decide (due ∧ s.released = true ∧ cool ∧ lim < pin.toNat ∧ (∀ t ∈ List.range 256, ¬able t)),
     decide (due ∧ s.released = true ∧ cool ∧ pin.toNat ≤ lim ∧ (¬calm)),
     decide (due ∧ s.released = true ∧ calm ∧ s.power.calm < 9),
     (s.power.waves).head?.any (fun w => decide (due ∧ s.released = true ∧ calm ∧ 9 ≤ s.power.calm ∧ w.Nodup)),
     decide (¬due),
     decide (capWatts s = 125),
     decide (2 ≤ phasesLost s 0),
     (s.power.full).any (fun a => decide (a + 100000 ≤ s.age ∧ flagF s p DPWR.GOV_STAT_EXHAUST = false)),
     decide (s.power.full = none ∨ flagF s p DPWR.GOV_STAT_EXHAUST = true)]

end Sys2Proof.Tests
end

