-- ==== Sys2Proof/Tests/Slice0.lean ====
section
/-! SUPPORT. Tests of single steps and single functions. Every expected value comes from the spec: the rule or worked table named beside
it, or hand calculation from the rule. The witnesses of the obligations stand in Tests.Witnesses. -/
set_option maxRecDepth 20000
set_option Elab.async false

namespace Sys2Proof.Tests
open Sys2Proof Sys2Proof.Machine

/-- The state after a command. -/
def after (i : Instr) (s : State) : State :=
  match exec i s with
  | .next t => t
  | _ => s

/-- Tile 0 running at address 0 with these values in Z0 to Z7. -/
def running (zs : List (Nat × Word)) : State := on live [M 0 fun x => { x with halted := false, z := zs }]

/-- Operand bits of the formats R and I (R94). -/
def oR (rd ra rb : Nat) : BitVec 21 := BitVec.ofNat 21 (rd * 0x10000 + ra * 0x800 + rb * 0x40)
def oI (rd ra imm : Nat) : BitVec 21 := BitVec.ofNat 21 (rd * 0x10000 + ra * 0x800 + imm)

/-- Register `r` of tile 0, numbered as R95 does. -/
def reg (r : Nat) (s : State) : Word := seqReg (tileOf s 0) r

/-! ### Ill-formed commands -/

theorem test_wf_samples : (Instr.adcSample []).wf = false := by decide
theorem test_wf_block : (Instr.barWrite 0 0 0 [] false).wf = false := by decide
theorem test_wf_measures : (Instr.governorInterval 0 0 0 0 0 [] (List.replicate 20 0)).wf = false := by decide
theorem test_wf_temperatures : (Instr.governorInterval 0 0 0 0 0 (List.replicate 29 0) []).wf = false := by decide

/-! ### The sequencer (chapter 04) -/

/-- R95: U0 is M0 of the next window, and H0 is not reached from there. -/
theorem test_windows : seqReg { setSeqReg Tile.init 16 7 with wpos := 1 } 0 = 7 ∧ seqReg { setSeqReg Tile.init 8 7 with wpos := 1 } 8 = 0 := by
  decide +kernel

/-- R96: arithmetic wraps. -/
theorem test_add_wraps : reg 26 (after (.seqAdd 0 false 0 (oR 26 24 25)) (running [(0, 0xFFFFFFFF), (1, 2)])) = 1 := by decide +kernel
theorem test_sub_wraps : reg 24 (after (.seqSub 0 false 0 (oR 24 24 25)) (running [(0, 1), (1, 2)])) = 0xFFFFFFFF := by decide +kernel
/-- R96: shift counts use the low five bits. -/
theorem test_shl_count : reg 26 (after (.seqShl 0 false 0 (oR 26 24 25)) (running [(0, 1), (1, 33)])) = 2 := by decide +kernel
theorem test_shr : reg 26 (after (.seqShr 0 false 0 (oR 26 24 25)) (running [(0, 0x80000000), (1, 31)])) = 1 := by decide +kernel
theorem test_sar : reg 26 (after (.seqSar 0 false 0 (oR 26 24 25)) (running [(0, 0x80000000), (1, 31)])) = 0xFFFFFFFF := by decide +kernel
/-- R96: SLT is signed, SLTU is not. -/
theorem test_slt : reg 26 (after (.seqSlt 0 false 0 (oR 26 24 25)) (running [(0, 0xFFFFFFFF), (1, 0)])) = 1 := by decide +kernel
theorem test_sltu : reg 26 (after (.seqSltu 0 false 0 (oR 26 24 25)) (running [(0, 0xFFFFFFFF), (1, 0), (2, 9)])) = 0 := by decide +kernel
theorem test_mul_low : reg 26 (after (.seqMul 0 false 0 (oR 26 24 25)) (running [(0, 0x10001), (1, 0x10003)])) = 0x40003 := by decide +kernel
/-- R96: IMM11 is sign-extended. -/
theorem test_addi_negative : reg 24 (after (.seqAddi 0 false 0 (oI 24 24 0x7FF)) (running [(0, 5)])) = 4 := by decide +kernel
theorem test_xori_extends : reg 24 (after (.seqXori 0 false 0 (oI 24 24 0x400)) (running [(0, 0)])) = 0xFFFFFC00 := by decide +kernel
theorem test_li_extends : reg 24 (after (.seqLi 0 false 0 (BitVec.ofNat 21 (24 * 0x10000 + 0x8000))) (running [])) = 0xFFFF8000 := by decide +kernel
theorem test_lui : reg 24 (after (.seqLui 0 false 0 (BitVec.ofNat 21 (24 * 0x10000 + 0x1234))) (running [])) = 0x12340000 := by decide +kernel
theorem test_llo_keeps_high : reg 24 (after (.seqLlo 0 false 0 (BitVec.ofNat 21 (24 * 0x10000 + 0x1234))) (running [(0, 0xABCD0000)])) = 0xABCD1234 := by
  decide +kernel
/-- R97: a reserved bit makes the instruction illegal; the tile halts before it with 0x35. -/
theorem test_reserved_bit : (tileOf (after (.seqAdd 0 false 0 1) (running [])) 0).halted = true ∧
    getF (after (.seqAdd 0 false 0 1) (running [])) (pgTSEQ 0) TSEQ.FAULT_CODE = 0x35 := by decide +kernel
/-- R97: RET with no frame below is illegal. -/
theorem test_ret_illegal : getF (after (.seqRet 0 false 0 0) (running [])) (pgTSEQ 0) TSEQ.FAULT_CODE = 0x35 := by decide +kernel
/-- R105: BEQ of equal operands is taken; its target is the offset from the branch, after two slots. -/
theorem test_beq_taken : (tileOf (after (.seqBeq 0 false 0 (oI 24 25 5)) (running [(0, 3), (1, 3)])) 0).xfer.map (fun f => (f.left, f.taken)) =
    some (2, true) := by decide +kernel
theorem test_bne_untaken : (tileOf (after (.seqBne 0 false 0 (oI 24 25 5)) (running [(0, 3), (1, 3)])) 0).xfer.map (fun f => (f.left, f.taken)) =
    some (2, false) := by decide +kernel
theorem test_blt_signed : (tileOf (after (.seqBlt 0 false 0 (oI 24 25 5)) (running [(0, 0x80000000), (1, 1)])) 0).xfer.map (·.taken) = some true := by
  decide +kernel
theorem test_bltu_unsigned : (tileOf (after (.seqBltu 0 false 0 (oI 24 25 5)) (running [(0, 0x80000000), (1, 1)])) 0).xfer.map (·.taken) = some false := by
  decide +kernel
/-- R107: CALL writes the address of the call + 3 to U0. -/
theorem test_call_link : reg 16 (after (.seqCall 0 false 0 0x100) (running [])) = 3 := by decide +kernel
/-- R109: with a count of 0 the body of LEN1 + 1 instructions does not run. -/
theorem test_repi_zero : (tileOf (after (.seqRepi 0 false 0 4) (running [])) 0).pc = 6 := by decide +kernel
/-- R108: a repeat starts at the next instruction. -/
theorem test_repi : (tileOf (after (.seqRepi 0 false 0 0x41) (running [])) 0).reps.map (fun r => (r.first, r.last)) = [(1, 2)] := by decide +kernel
/-- R99: ST and LD; the address wraps modulo 65,536. -/
theorem test_st : memWord (after (.seqSt 0 false 0 (oI 24 25 0x7FF)) (running [(0, 0x12345678), (1, 0)])) (bankAddr 0 0xFFFF) = 0x12345678 := by
  decide +kernel
theorem test_ld : reg 24 (after (.seqLd 0 false 0 (oI 24 25 2)) (setWord (running [(1, 3)]) (bankAddr 0 5) 0xCAFE)) = 0xCAFE := by decide +kernel
/-- R100: IN takes the head of SEQIN; INTAG shows its tags (R98). -/
theorem test_in : reg 24 (after (.seqIn 0 false 0 (oI 24 0 0))
    (on (running []) [M 0 fun x => { x with queues := [(12, [⟨9, true, false, false, true⟩])] }])) = 9 := by decide +kernel
theorem test_intag : reg 24 (after (.seqIntag 0 false 0 (oI 24 0 0)) (on (running []) [M 0 fun x => { x with inTags := 9 }])) = 9 := by decide +kernel
/-- R100, R98: OUT with tags MARK and ERR. -/
theorem test_out : (tileOf (after (.seqOut 0 false 0 (oI 0 24 6)) (running [(0, 77)])) 0).seqOut = ⟨⟨77, false, true, true, false⟩, true⟩ := by
  decide +kernel
/-- R103: SWEV sets line 40 + VAL. -/
theorem test_swev : (tileOf (after (.seqSwev 0 false 0 23) (running [])) 0).pend.getLsbD 63 = true := by decide +kernel
/-- R104: HALT leaves the address after it and sets EVT_PEND.HALT. -/
theorem test_halt : (tileOf (after (.seqHalt 0 false 0 0) (running [])) 0).pc = 1 ∧ (tileOf (after (.seqHalt 0 false 0 0) (running [])) 0).halted = true ∧
    getF (after (.seqHalt 0 false 0 0) (running [])) (pgTSEQ 0) HDR.EVT_PEND = 2 := by decide +kernel
/-- R102: PAGEI enters set VAL[11:4] and slot VAL[3:0]. -/
theorem test_pagei : (tileOf (after (.seqPagei 0 false 0 0x123) (running [])) 0).pageQ = [(0x12, 3)] := by decide +kernel

/-! ### The datapath (chapter 03) -/

/-- The worked SCALE table of chapter 03: shift, then narrow with its V. -/
theorem test_scale_s32 :
    narrow 32 true (shiftScale 2688 (-8) .conv) = (10, false) ∧ narrow 32 true (shiftScale 2944 (-8) .conv) = (12, false) ∧
    narrow 32 true (shiftScale (-2688) (-8) .conv) = (-10, false) ∧ narrow 32 true (shiftScale 2720 (-8) .conv) = (11, false) ∧
    narrow 32 true (shiftScale (2 ^ 40) (-8) .conv) = (0x7FFFFFFF, true) ∧ narrow 32 false (shiftScale (2 ^ 40) (-8) .conv) = (0, true) ∧
    narrow 32 true (shiftScale 0x10000000 3 .conv) = (0x7FFFFFFF, true) ∧
    narrow 32 false (shiftScale 0x10000000 3 .conv) = (-0x80000000, true) := by decide
theorem test_scale_g64 : narrow 64 true (shiftScale 2688 (-8) .trunc) = (10, false) ∧ narrow 64 true (shiftScale (-2688) (-8) .trunc) = (-11, false) := by
  decide
/-- R68: ABS of 0x8000_0000, the averages and CLAMP. -/
theorem test_abs : aluVal .abs 0x80000000 0 0 false 0 true = some ⟨0x7FFFFFFF, ⟨false, false, true, false⟩⟩ ∧
    aluVal .abs 0x80000000 0 0 false 0 false = some ⟨0x80000000, ⟨false, true, true, false⟩⟩ := by decide
theorem test_average : (aluVal .add 7 8 0 false (-1) true).map (·.r) = some 8 ∧ (aluVal .add 5 8 0 false (-1) true).map (·.r) = some 6 := by decide
theorem test_clamp : (aluVal .clamp 5 9 3 false 0 false).map (·.r) = some 3 := by decide
theorem test_clz_popc : (aluVal .clz 0 0 0 false 0 false).map (·.r) = some 32 ∧ (aluVal .popc 0xFFFFFFFF 0 0 false 0 false).map (·.r) = some 32 := by decide
/-- A generator of an address cell with pointer V0 and modulo register V4: GEN, post-modify and modulo bits set (R80). -/
def wrapped (ptr ofs : Word) : Option (Nat × Word) :=
  (generate { Cell.init with v := [(0, ptr), (4, ofs)] } 0 0x86).2
/-- The worked modulo steps of chapter 03. -/
theorem test_modulo_steps :
    wrapped 0x801E 0x00200001 = some (0, 0x801F) ∧ wrapped 0x801F 0x00200001 = some (0, 0x8000) ∧ wrapped 0x8000 0x0020FFFF = some (0, 0x801F) ∧
    wrapped 0x8017 0x00180001 = some (0, 0x8000) ∧ wrapped 0xA016 0x00180003 = some (0, 0xA001) := by decide
/-- R70: a tie keeps the earlier position; a token with MARK starts again. -/
theorem test_search : (searchStep ⟨5, 1, 3, false, false, false⟩ ⟨5, false, false, false, false⟩ true).1.pos = 1 ∧
    (searchStep ⟨5, 1, 3, false, false, false⟩ ⟨2, false, true, false, false⟩ true).1 = ⟨2, 0, 1, false, false, false⟩ := by decide

/-! ### Memory (chapter 05) -/

/-- The table of R159: port B first, then port A, on a word of 0x0000_00F0. -/
theorem test_two_ports :
    mergeWord (mergeWord 0xF0 0x11111111 15 0) 0x22222222 15 0 = 0x22222222 ∧ mergeWord (mergeWord 0xF0 0x8 15 1) 0x18 15 2 = 0xE0 ∧
    mergeWord (mergeWord 0xF0 0x30 15 2) 0x10 15 1 = 0xD0 ∧ mergeWord (mergeWord 0xF0 0x1 15 0) 0x100 15 1 = 0x101 ∧
    mergeWord (mergeWord 0xF0 0x1 15 1) 0 15 0 = 0 := by decide
/-- R143's example: set word 7 of T200 lies at 0x0011_0321_8004. -/
theorem test_bank_address : bankAddr 200 (3 * 0x2000 + 1) = 0x1103218004 := by decide
/-- R171: ACQUIRE of a free lock takes it for its sender; a second ACQUIRE by another does not. -/
theorem test_acquire : getF (after (.acquire 0 31 0x220) live) (pgRMEM 0) (RMEM.LOCK_OWNER 31) = 0x220 ∧
    getF (after (.acquire 0 31 5) (after (.acquire 0 31 0x220) live)) (pgRMEM 0) (RMEM.LOCK_OWNER 31) = 0x220 := by decide +kernel
theorem test_release : getF (after (.release 0 31 0x220) (after (.acquire 0 31 0x220) live)) (pgRMEM 0) (RMEM.LOCK_STATE 31) = 0 := by decide +kernel
/-- R161: a power command moves a bank into TRANS. -/
theorem test_pwr_off : bankState (after (.pwrCmdOff (.tile 0) 7) live) 0 7 = 3 := by decide +kernel

/-! ### Links (chapter 13), machine interface (chapter 12), power (chapter 15) -/

/-- The routing headers of "A stream across three strands". -/
theorem test_routing_headers : rhWord 0x240 0x142 63 = 0x009000142FC00000 ∧ rhWord 0x240 0x142 62 = 0x009000142F800000 ∧
    rhWord 0x041 0x140 63 = 0x001040140FC00000 := by decide
/-- R371: with G = 32,900 and O = −12 the code 16,384 becomes 16,438. -/
theorem test_calibrate : calibrate 16384 32900 0xFFF4 = 16438 := by decide
/-- R465: 72 W at 6 V, 98.5 W at 12 V and 125 W from 18 V. -/
theorem test_power_limit :
    powerLimit (F pgDPWR DPWR.GOV_CFG_CAP 125 live) 6000 = 72000 ∧ powerLimit (F pgDPWR DPWR.GOV_CFG_CAP 125 live) 12000 = 98500 ∧
    powerLimit (F pgDPWR DPWR.GOV_CFG_CAP 125 live) 18000 = 125000 := by decide +kernel

/-! ### Steps -/

/-- An empty queue is one reference tick: the time base counts 10 (R258; log 1). -/
theorem test_tick : (match step live with | .next t => t.tb | _ => 0) = 123466 := by decide +kernel
/-- The command at the front runs, and leaves the queue. -/
theorem test_front : (match step { live with pending := [.acquire 0 31 0x220, .refLost] } with | .next t => t.pending | _ => []) = [.refLost] := by
  decide +kernel

end Sys2Proof.Tests
end

