-- ==== Sys2Proof/Tests/Witnesses.lean ====
section
/-! SUPPORT. The witnesses: for every obligation with hypotheses, states and operands that meet the hypotheses of each of its clauses
(`hypX` of Tests.Hyps; the numbers beside a state are the clauses that it meets). -/
set_option maxRecDepth 20000
set_option Elab.async false

namespace Sys2Proof.Tests
open Sys2Proof Sys2Proof.Machine Sys2Proof.Safety

theorem wit_WellFormedCommandsRun : meets [(hypWellFormedCommandsRun .powerOn, [0])] = true := by
  decide

theorem wit_StepRunsFrontCommand : meets [
    (hypStepRunsFrontCommand (on live [fun s => { s with pending := [.idle 0] }]) (.idle 0) [], [0])] = true := by
  decide +kernel

theorem wit_IdleTickAdvancesTimeBase : meets [
    (hypIdleTickAdvancesTimeBase live, [0])] = true := by
  decide +kernel

theorem wit_StepKeepsInvariant : meets [
    (hypStepKeepsInvariant live, [0])] = true := by
  decide +kernel

theorem wit_SequencerArithmetic : meets [
    (hypSequencerArithmetic (on live [M 0 fun x => { x with halted := false }]) 0 false 0 0,
      [0, 1, 2, 3, 4, 5, 6, 7, 8, 9, 10, 11, 12, 13, 14, 15, 16, 17, 18, 19, 20, 21, 22, 23])] = true := by
  decide +kernel

theorem wit_SequencerTransfers : meets [
    (hypSequencerTransfers (on live [M 0 fun x => { x with halted := false },
      M 0 fun x => { x with level := 1, active := 3, resident := 2 }]) 0 false 0 0,
      [0, 1, 2, 3, 4, 5, 6, 7, 8, 9, 10, 11]),
    (hypSequencerTransfers (on live [M 0 fun x => { x with halted := false },
      M 0 fun x => { x with xfer := some ⟨2, 0, false, 0, 0⟩ }]) 0 false 0 0, [12])] = true := by
  decide +kernel

theorem wit_SequencerRepeats : meets [
    (hypSequencerRepeats (on live [M 0 fun x => { x with halted := false }]) 0 false 0 0x10041, [0, 1])] = true := by
  decide +kernel

theorem wit_SequencerInputOutput : meets [
    (hypSequencerInputOutput (on live [M 0 fun x => { x with halted := false },
      M 0 fun x => { x with queues := [(12, [Tok.zero])] }]) 0 false 0 0, [0, 1, 2, 3, 4, 5])] = true := by
  decide +kernel

theorem wit_SequencerMemoryAndTime : meets [
    (hypSequencerMemoryAndTime (on live [M 0 fun x => { x with halted := false }]) 0 false 0 0, [0, 1, 2])] = true := by
  decide +kernel

theorem wit_WaitsAndLevelSwitches : meets [
    (hypWaitsAndLevelSwitches (on live [M 0 fun x => { x with halted := false },
      M 0 fun x => { x with wait := some 63 }, M 0 fun x => { x with pend := 0x8000000000000000 }]) 0 false 0 0,
      [0, 2]),
    (hypWaitsAndLevelSwitches (on live [M 0 fun x => { x with halted := false },
      M 0 fun x => { x with pend := 0x20 }]) 0 false 0 5, [1]),
    (hypWaitsAndLevelSwitches (on live [M 0 fun x => { x with halted := false },
      M 0 fun x => { x with pend := 0x20 }, F (pgTSCH 0) (TSCH.EVT_TAB_EN 5) 1,
      F (pgTSCH 0) (TSCH.EVT_TAB_LVL 5) 3]) 0 false 0 0, [3])] = true := by
  decide +kernel

theorem wit_TimersAndWatchdogs : meets [
    (hypTimersAndWatchdogs live 0 0, [1, 3, 5]),
    (hypTimersAndWatchdogs (on live [F (pgTSCH 0) TSCH.TMR_STAT 1, F (pgTSCH 0) TSCH.HOLDOFF_LIMIT 5,
      F (pgTSCH 0) TSCH.STALL_LIMIT 5, M 0 fun x => { x with holdRun := 5 },
      M 0 fun x => { x with stallRun := 5 }]) 0 0, [0, 2, 4])] = true := by
  decide +kernel

theorem wit_SpillAndFill : meets [
    (hypSpillAndFill (on live [M 0 fun x => { x with spilled := 1 }]) 0, [1, 2]),
    (hypSpillAndFill (on live [M 0 fun x => { x with resident := 11 }]) 0, [0])] = true := by
  decide +kernel

theorem wit_PagingCommands : meets [
    (hypPagingCommands live 0, [0, 2]),
    (hypPagingCommands (on live [M 0 fun x => { x with pageQ := [(0, 0), (1, 1), (2, 2), (3, 3)] }]) 0, [1])] = true := by
  decide +kernel

theorem wit_PagingEngine : meets [
    (hypPagingEngine (on live [M 0 fun x => { x with pageQ := [(15, 3)] }]) 0, [0]),
    (hypPagingEngine (on live [F (pgTFCT 0) TFCT.STORE_CFG 16, M 0 fun x => { x with pageQ := [(15, 3)] }]) 0, [1]),
    (hypPagingEngine (on live [M 0 fun x => { x with pageRun := some ⟨5, 2, List.replicate 80 0xFFFFFFFF, 0, 0⟩ }]) 0,
      [3]),
    (hypPagingEngine (on live [M 0 fun x => { x with pageRun := some ⟨5, 2, List.replicate 80 0, 0, 0⟩ }]) 0, [2])] = true := by
  decide +kernel

theorem wit_TileControl : meets [
    (hypTileControl (on live [M 0 fun x => { x with halted := false }]) 0 .nop false 0 0, [0, 1]),
    (hypTileControl live 0 .nop false 0 0, [2])] = true := by
  decide +kernel

theorem wit_SoftwareLinesAndTimers : meets [
    (hypSoftwareLinesAndTimers live 0, [0])] = true := by
  decide +kernel

theorem wit_WindowRegister : meets [
    (hypWindowRegister live 0, [0, 2]),
    (hypWindowRegister (on live [fun s => setRegAt s (pgTSCH 0) TSCH.WIN_ADDR_ITEM.off 0xF31F]) 0, [3]),
    (hypWindowRegister (on live [M 0 fun x => { x with halted := false }]) 0, [1])] = true := by
  decide +kernel

theorem wit_PowerCommands : meets [
    (hypPowerCommands live (.tile 0) 15 0x403, [0, 1]),
    (hypPowerCommands (on live [M 0 fun x => { x with halted := false }]) (.tile 0) 0 0x403, [3, 4]),
    (hypPowerCommands (on live [F (pgTBNK 0) TBNK.PWR_STATE 21845]) (.tile 0) 6 0x403, [2])] = true := by
  decide +kernel

theorem wit_BankStateReached : meets [
    (hypBankStateReached (on live [F (pgTBNK 0) TBNK.PWR_STATE 3,
      fun s => { s with pwrTo := [(bankKey 0x403 0, 1)] }]) (.tile 0) 0 0x403 0, [0])] = true := by
  decide +kernel

theorem wit_BankUpkeep : meets [
    (hypBankUpkeep live 0x1100000010 0 0 1 0 0 0, [1, 4, 6, 9]),
    (hypBankUpkeep (on live [fun s => { s with wback := [(0x1100000010, 1)], marks := [(0x1100000010, .corr)] },
      fun s => { s with polish := [(0, ⟨true, true⟩)] },
      fun s => { s with net := [{ blankPkt with addr := 0x1100000000, dpt := 3, arrived := true }] }]) 0x1100000010 0 0 1 0 0 0,
      [0, 3, 8]),
    (hypBankUpkeep (on live [F (pgTBNK 0) TBNK.STARVE_LIMIT 1, F (pgRMEM 0) RMEM.POLISH_CFG_EN 1,
      fun s => { s with net := [{ blankPkt with addr := 0x1100000000, dpt := 3, arrived := true }] }]) 0x1100000010 0 0 1 0 0 0,
      [2, 5]),
    (hypBankUpkeep (on live [fun s => { s with polish := [(0, ⟨true, true⟩)] }]) 0x1100000010 0 7 0xFFFFFFFF 0 1 25087,
      [7])] = true := by
  decide +kernel

theorem wit_Locks : meets [
    (hypLocks live 0 31 0x230, [0, 3, 8]),
    (hypLocks (on live [F (pgRMEM 0) (RMEM.LOCK_STATE 31) 1, F (pgRMEM 0) (RMEM.LOCK_OWNER 31) 0x220,
      F (pgRMEM 0) (RMEM.LOCK_ORPH 31) 1]) 0 31 0x220, [2, 5, 7]),
    (hypLocks (on live [F (pgRMEM 0) (RMEM.LOCK_STATE 31) 2]) 0 31 0x220, [1, 6]),
    (hypLocks (on live [F (pgRMEM 0) (RMEM.LOCK_STATE 31) 1,
      F (pgRMEM 0) (RMEM.LOCK_OWNER 31) 0x220]) 0 31 0x220, [4])] = true := by
  decide +kernel

theorem wit_Semaphores : meets [
    (hypSemaphores live 0, [0])] = true := by
  decide +kernel

theorem wit_DmaChannelControl : meets [
    (hypDmaChannelControl live (.host 31), [0, 2, 3, 7]),
    (hypDmaChannelControl (on live [F (pgRDMA 0) (RDMA.CH_STAT_STATE 0) 4]) (.region 0 0), [1, 6, 9]),
    (hypDmaChannelControl (on live [F (pgRDMA 0) (RDMA.CH_STAT_STATE 0) 2]) (.region 0 0), [8]),
    (hypDmaChannelControl (on live [F (pgRDMA 0) (RDMA.CH_STAT_STATE 0) 6]) (.region 0 0), [4]),
    (hypDmaChannelControl (on live [F (pgRDMA 0) (RDMA.CH_STAT_STATE 0) 7]) (.region 0 0), [5])] = true := by
  decide +kernel

theorem wit_DmaDescriptors : meets [
    (hypDmaDescriptors (on live [F (pgRDMA 0) (RDMA.CH_STAT_STATE 0) 4, fun s => setCur s 0 0x7FFFFFFE0,
      F (pgRDMA 0) RDMA.RESP_LIMIT 100,
      fun s => { s with txns := [(5, some ⟨.dmaRead 0 0 true, false, 64, 0x2000, false, 0⟩)] }]) (.region 0 0) 0x7FFFFFFE0,
      [6, 7]),
    (hypDmaDescriptors (on live [F (pgRDMA 0) (RDMA.CH_STAT_STATE 0) 1, fun s => setCur s 0 0x1000,
      fun s => setWord s 0x1000 0xC5000001]) (.region 0 0) 0x1000, [2]),
    (hypDmaDescriptors (on live [F (pgRDMA 0) (RDMA.CH_STAT_STATE 0) 1,
      fun s => setCur s 0 0x2000000000]) (.region 0 0) 0x7FFFFFFE0, [0]),
    (hypDmaDescriptors (on live [F (pgRDMA 0) (RDMA.CH_STAT_STATE 0) 5, fun s => setCur s 0 0x1000,
      fun s => setWord s 0x1000 0xC5000001]) (.region 0 0) 0x1000, [4]),
    (hypDmaDescriptors (on live [F (pgRDMA 0) (RDMA.CH_STAT_STATE 0) 1,
      fun s => setCur s 0 0x7FFFFFFE0]) (.region 0 0) 0x7FFFFFFE0, [1]),
    (hypDmaDescriptors (on live [F (pgRDMA 0) (RDMA.CH_STAT_STATE 0) 5,
      fun s => setCur s 0 0x7FFFFFFE0]) (.region 0 0) 0x7FFFFFFE0, [5]),
    (hypDmaDescriptors (on live [F (pgRDMA 0) (RDMA.CH_STAT_STATE 0) 1, fun s => setCur s 0 0x1000,
      fun s => setWord s 0x1000 0x81FFFFFF]) (.region 0 0) 0x1000, [3])] = true := by
  decide +kernel

theorem wit_DmaOperations : meets [
    (hypDmaOperations (on live [F (pgRDMA 0) (RDMA.CH_STAT_STATE 0) 2,
      fun s => setDma s 0 { Dma.init with desc := [0x80000001, 0x2000, 0, 0x3000, 0, 0, 0, 0] }]) (.region 0 0), [0]),
    (hypDmaOperations (on live [F (pgRDMA 0) (RDMA.CH_STAT_STATE 0) 2,
      fun s => setDma s 0 { Dma.init with desc := [0x83000001, 0x2000, 0, 0x3000, 0, 0, 0, 0], elems := [0x6000 + 2 ^ 64] }]) (.region 0 0),
      [2]),
    (hypDmaOperations (on live [F (pgRDMA 0) (RDMA.CH_STAT_STATE 0) 2,
      fun s => setDma s 0 { Dma.init with desc := [0x84000002, 0x2000, 0, 0x3000, 0, 0, 0, 0], elems := [0x6000 + 2 ^ 64, 0x6004 + 1024 * 2 ^ 64] }]) (.region 0 0),
      [3]),
    (hypDmaOperations (on live [F (pgRDMA 0) (RDMA.CH_STAT_STATE 0) 2,
      fun s => setDma s 0 { Dma.init with desc := [0x82000005, 0x2000, 0, 0x3000, 0, 0, 0, 0] }]) (.region 0 0), [1])] = true := by
  decide +kernel

theorem wit_DmaBeats : meets [
    (hypDmaBeats (on live [F (pgRDMA 0) (RDMA.CH_STAT_STATE 0) 2,
      fun s => setDma s 0 { Dma.init with desc := [0x80000040, 0x2000, 0, 0x3000, 0, 0, 0, 0], creditR := 4096, creditW := 4096, rd := 64, outR := 0, staged := (List.range 64).map fun i => (i, 1) }]) (.region 0 0),
      [1]),
    (hypDmaBeats (on live [F (pgRDMA 0) (RDMA.CH_STAT_STATE 0) 2,
      fun s => setDma s 0 { Dma.init with desc := [0x80000040, 0x2000, 0, 0x3000, 0, 0, 0, 0], creditR := 64, creditW := 64 }]) (.region 0 0),
      [0])] = true := by
  decide +kernel

theorem wit_NetworkForwarding : meets [
    (hypNetworkForwarding live 0 7 0, [1, 4, 5]),
    (hypNetworkForwarding (on live [fun s => on s ((List.range 21).map fun n => fun u => setRegAt u (pgRRTR n) RRTR.LINK_STAT.off 0x5555),
      fun s => { s with net := [{ blankPkt with drt := 0, dpt := 2, rtr := 1 }] },
      fun s => { s with fails := (List.range 8).map fun i => (i, 3) }]) 0 1 0, [3]),
    (hypNetworkForwarding (on live [fun s => { s with net := [{ blankPkt with drt := 1, dpt := 1, rtr := 0 }] },
      fun s => setRegAt s (pgRRTR 1) RRTR.LINK_STAT.off 0x5555]) 0 1 0, [0]),
    (hypNetworkForwarding (on live [fun s => on s ((List.range 21).map fun n => fun u => setRegAt u (pgRRTR n) RRTR.LINK_STAT.off 0x5555),
      fun s => { s with net := [{ blankPkt with drt := 0, dpt := 1, rtr := 1 }] }]) 0 1 0, [2])] = true := by
  decide +kernel

theorem wit_RequestsAndResponses : meets [
    (hypRequestsAndResponses (on live [fun s => { s with net := [{ blankPkt with write := false, src := 5, tag := 1, addr := 0x7FFFFFFC0, nbytes := 64, be := 2 ^ 64 - 1, data := List.replicate 64 7, rtr := 18, dpt := 1, arrived := true }] }]) 18 1,
      [0, 1, 5, 8, 9]),
    (hypRequestsAndResponses (on live [fun s => { s with net := [{ blankPkt with write := true, src := 5, tag := 1, addr := 0x2000, nbytes := 64, be := 2 ^ 64 - 1, data := List.replicate 64 7, rtr := 18, dpt := 1, arrived := true }] }]) 18 1,
      [2, 3, 4]),
    (hypRequestsAndResponses (on live [fun s => { s with net := [{ blankPkt with cls := .rsp, write := false, src := 5, tag := 1, rtr := 0, dpt := 3, arrived := true }] },
      fun s => { s with txns := [(256 * 5 + 1, some ⟨.dmaRead 3 63 false, false, 64, 0x2000, false, 0⟩)] }]) 0 3, [6]),
    (hypRequestsAndResponses (on live [fun s => { s with net := [{ blankPkt with cls := .rsp, write := true, src := 5, tag := 1, rtr := 0, dpt := 3, arrived := true }] },
      fun s => { s with txns := [(256 * 5 + 1, some ⟨.dmaWrite 3 0 63, true, 64, 0x2000, false, 0⟩)] }]) 0 3, [7])] = true := by
  decide +kernel

theorem wit_StreamEndpoints : meets [
    (hypStreamEndpoints (on live [F (pgRRTR 0) (RRTR.EP_CTL_EN 0) 1,
      fun s => { s with net := [{ blankPkt with cls := .stream, credit := false, stream := 2, seq := 5, toks := [Tok.zero], rtr := 0, dpt := 3, arrived := true }] },
      fun s => { s with ends := [(0, { Endp.init with held := List.replicate 14 Tok.zero })] }]) 0 0 0, [0, 5, 6, 12]),
    (hypStreamEndpoints (on live [F (pgRRTR 0) (RRTR.EP_CTL_EN 127) 1,
      fun s => { s with net := [{ blankPkt with cls := .stream, credit := true, stream := 9, seq := 0, toks := [], rtr := 0, dpt := 3, arrived := true }] }]) 0 0 127,
      [3, 8, 11]),
    (hypStreamEndpoints (on live [F (pgRRTR 0) (RRTR.EP_CTL_EN 4) 1, F (pgRRTR 0) (RRTR.EP_CTL_STREAM 4) 2,
      fun s => { s with net := [{ blankPkt with cls := .stream, credit := false, stream := 2, seq := 0, toks := [Tok.zero], rtr := 0, dpt := 3, arrived := true }] },
      fun s => { s with ends := [(4, { Endp.init with gathered := 1 })] }]) 0 0 4, [1, 7]),
    (hypStreamEndpoints live 0 0 3, [10]),
    (hypStreamEndpoints (on live [F (pgRRTR 0) (RRTR.EP_CTL_EN 4) 1, F (pgRRTR 0) (RRTR.EP_CTL_STREAM 4) 2,
      fun s => { s with net := [{ blankPkt with cls := .stream, credit := false, stream := 2, seq := 5, toks := [Tok.zero], rtr := 0, dpt := 3, arrived := true }] }]) 0 0 4,
      [2]),
    (hypStreamEndpoints (on live [F (pgRRTR 0) (RRTR.EP_ROUTE_BUF 127) 0x7FFFF]) 0 0 127, [9]),
    (hypStreamEndpoints (on live [F (pgRRTR 0) (RRTR.EP_CTL_EN 0) 1, F (pgRRTR 0) (RRTR.EP_CTL_STREAM 0) 2,
      fun s => { s with net := [{ blankPkt with cls := .stream, credit := true, stream := 2, seq := 0, toks := [], rtr := 0, dpt := 3, arrived := true }] }]) 0 0 0,
      [4])] = true := by
  decide +kernel

theorem wit_MemoryMode : meets [
    (hypMemoryMode (on live [F (pgRRTR 0) (RRTR.EP_CTL_EN 0) 1, F (pgRRTR 0) (RRTR.EP_CTL_MODE 0) 1,
      M 0 fun x => { x with queues := [(13, [⟨7, false, false, false, false⟩])] },
      F (pgRRTR 0) RRTR.STRM_CFG_PACK_WAIT 1]) 0 0 ⟨7, false, false, false, false⟩ 0, [1]),
    (hypMemoryMode (on live [F (pgRRTR 0) (RRTR.EP_CTL_EN 0) 1, F (pgRRTR 0) (RRTR.EP_CTL_MODE 0) 1,
      M 0 fun x => { x with queues := [(13, [⟨7, true, true, false, false⟩])] }]) 0 0 ⟨7, true, true, false,
      false⟩ 0, [3]),
    (hypMemoryMode (on live [F (pgRRTR 0) (RRTR.EP_CTL_EN 0) 1, F (pgRRTR 0) (RRTR.EP_CTL_MODE 0) 1,
      M 0 fun x => { x with queues := [(13, [⟨7, false, true, false, false⟩])] }]) 0 0 ⟨7, false, true, false,
      false⟩ 0, [0]),
    (hypMemoryMode (on live [F (pgRRTR 0) (RRTR.EP_CTL_EN 0) 1, F (pgRRTR 0) (RRTR.EP_CTL_MODE 0) 1,
      M 0 fun x => { x with queues := [(13, [⟨7, true, false, false, false⟩])] }]) 0 0 ⟨7, true, false, false,
      false⟩ 0, [2]),
    (hypMemoryMode (on live [F (pgRRTR 0) (RRTR.EP_CTL_EN 0) 1, F (pgRRTR 0) (RRTR.EP_CTL_MODE 0) 1,
      M 0 fun x => { x with queues := [(13, [⟨7, true, true, false, false⟩])] },
      fun s => { s with ends := [(0, { Endp.init with addr := 2 ^ 48 - 4 })] }]) 0 0 ⟨7, true, true, false,
      false⟩ 0, [4])] = true := by
  decide +kernel

theorem wit_RegisterPages : meets [
    (hypRegisterPages live 0x400 0x400 .tseq 0 5, [0, 1]),
    (hypRegisterPages (on live [fun s => { s with writesOpen := false }]) 0x403 0x403 .tbnk 0 0x220, [2])] = true := by
  decide +kernel

theorem wit_EventQueue : meets [
    (hypEventQueue live ⟨1, 2, 3, 4⟩ [⟨5, 6, 7, 8⟩] 1, [2, 5, 7, 8]),
    (hypEventQueue (on live [fun s => { s with evq := [⟨1, 2, 3, 4⟩] }, F pgDEVT DEVT.RING_CFG_EN 1,
      F pgDEVT DEVT.RING_HI 0x8000, F pgHPCI HPCI.LINK_STATE 2, F pgHPCI HPCI.LINK_PERS 1]) ⟨1, 2, 3, 4⟩ [] 0, [4, 6]),
    (hypEventQueue (on live [fun s => { s with evq := [⟨1, 2, 3, 4⟩, ⟨5, 6, 7, 8⟩] },
      fun s => { s with evLost := 7 }]) ⟨1, 2, 3, 4⟩ [⟨5, 6, 7, 8⟩] 1, [1]),
    (hypEventQueue (on live [fun s => { s with evq := [⟨1, 2, 3, 4⟩, ⟨5, 6, 7, 8⟩] }]) ⟨1, 2, 3, 4⟩ [⟨5, 6, 7, 8⟩] 1,
      [0]),
    (hypEventQueue (on live [fun s => { s with evq := [⟨1, 2, 3, 4⟩] },
      F pgDEVT DEVT.RING_CFG_EN 1]) ⟨1, 2, 3, 4⟩ [] 63, [3])] = true := by
  decide +kernel

theorem wit_TileClocks : meets [
    (hypTileClocks live 15 0x30 15 false, [0, 3, 6, 8, 10]),
    (hypTileClocks (on live [F (pgRCLK 0) RCLK.PLLA_CFG_EN 1, F (pgRCLK 0) RCLK.PLLA_CFG_LOCK 1,
      fun s => { s with load := { s.load with clk := some 5 } },
      fun s => on s ((List.range 16).map fun l => F (pgRCLK 0) (RCLK.TILE_CLK_CURSRC l) 3)]) 0 0 0 false,
      [1, 5, 7, 9]),
    (hypTileClocks (on live [F (pgRCLK 0) (RCLK.TILE_CLK_BUSY 0) 1,
      F (pgRCLK 0) RCLK.PLLA_CFG_EN 1]) 0 25 0 false, [2, 4])] = true := by
  decide +kernel

theorem wit_ReferenceRailsAndTime : meets [
    (hypReferenceRailsAndTime live 0 0 800, [0, 2, 4, 6, 7, 10]),
    (hypReferenceRailsAndTime (on live [fun s => on s ((List.range 16).map fun r => F (pgRCLK r) RCLK.RAIL_SET 800), F pgDCLK DCLK.REF_CFG_SEL 1,
      F pgDCLK DCLK.TB_SLEW_XPORT 1, F pgDCLK DCLK.TB_SLEW_EN 1, fun s => { s with ticks := 100 },
      F (pgRCLK 0) RCLK.TEMP 561]) 0 0 800, [1, 3, 5, 8, 9])] = true := by
  decide +kernel

theorem wit_Clasps : meets [
    (hypClasps (on live [fun s => setClasp s 2048 ⟨[], true⟩,
      fun s => on s ((List.range 4).map fun g => fun u => on u ((List.range 8).map fun i => F (pgDBZL g) (DBZL.PORT_CFG_OUT_MODE i) 1)),
      fun s => { s with trims := (List.range 64).map fun i => (i, { Trim.init with due := [2048] }) }]) 2048 ⟨Tok.zero,
      false⟩ [], [0, 6, 9, 10]),
    (hypClasps (on live [fun s => on s ((List.range 4).map fun g => fun u => on u ((List.range 8).map fun i => F (pgDBZL g) (DBZL.PORT_CFG_OUT_MODE i) 1)),
      fun s => { s with bezelTemp := [(0, 0xFC00), (2, 0xFC00)] }]) 2048 ⟨Tok.zero, false⟩ [], [7, 8, 11]),
    (hypClasps (on live [fun s => setClasp s 0 ⟨[⟨Tok.zero, true⟩], false⟩,
      fun s => setRegAt s (pgRCLK 0) (RCLK.LLCFG_MODE 0).off 0x55555555]) 0 ⟨Tok.zero, true⟩ [], [3, 4, 12]),
    (hypClasps (on live [fun s => setClasp s 0 ⟨[⟨Tok.zero, false⟩], false⟩,
      M 0 fun x => { x with queues := [(0, List.replicate 8 Tok.zero)] }]) 0 ⟨Tok.zero, false⟩ [], [1]),
    (hypClasps (on live [fun s => setClasp s 0 ⟨[⟨Tok.zero, false⟩], false⟩,
      fun s => setRegAt s (pgRCLK 0) (RCLK.LLCFG_MODE 0).off 0x55555555,
      M 0 fun x => { x with queues := [(0, List.replicate 8 Tok.zero)] }]) 0 ⟨Tok.zero, false⟩ [], [2]),
    (hypClasps (on live [fun s => setClasp s 0 ⟨[⟨Tok.zero, false⟩], false⟩,
      fun s => setRegAt s (pgRCLK 0) (RCLK.LLCFG_MODE 0).off 0x55555555]) 0 ⟨Tok.zero, false⟩ [], [5])] = true := by
  decide +kernel

theorem wit_EpochsAndCuts : meets [
    (hypEpochsAndCuts live 0, [1, 3]),
    (hypEpochsAndCuts (on live [fun s => { s with nextEpoch := 123456 }, F pgDACW DACW.EPOCH_CFG 10,
      F (pgRJNL 0) RJNL.PROT 1, fun s => modProt s 0 fun x => { x with pendingCut := true }]) 0, [0, 2])] = true := by
  decide +kernel

theorem wit_JournalAndLockets : meets [
    (hypJournalAndLockets live 0, [0, 5, 6, 9]),
    (hypJournalAndLockets (on live [fun s => modProt s 0 fun x => { x with capture := some { shadow := { block := List.replicate 0x20C0 0, epoch := 0, dirty := [], jpos := 0, hid := Hid.init, retired := 0, emitted := [] }, taken := [], headerOut := true } }]) 0,
      [7, 8]),
    (hypJournalAndLockets (on live [fun s => modProt s 0 fun x => { x with bufs := [⟨.toks 0 0 0 [Tok.zero], 0, 0⟩] }]) 0,
      [3]),
    (hypJournalAndLockets (on live [fun s => modProt s 0 fun x => { x with bufs := [⟨.toks 0 0 0 [Tok.zero], 0, 500000⟩] },
      F (pgRJNL 0) RJNL.FLUSH 100]) 0, [1]),
    (hypJournalAndLockets (on live [fun s => modProt s 0 fun x => { x with capture := some { shadow := { block := List.replicate 0x20C0 0, epoch := 0, dirty := [], jpos := 0, hid := Hid.init, retired := 0, emitted := [] }, taken := [], headerOut := false } },
      fun s => setRj s 0 { rjOf s 0 with capQ := [0] }]) 0, [4]),
    (hypJournalAndLockets (on live [F (pgRJNL 0) RJNL.JBANKS 0x8000, F (pgRJNL 0) RJNL.JSIZE 1,
      fun s => modProt s 0 fun x => { x with bufs := [⟨.toks 0 0 0 [Tok.zero], 0, 0⟩] }]) 0, [2])] = true := by
  decide +kernel

theorem wit_RecoveryAndRestart : meets [
    (hypRecoveryAndRestart (on live [F (pgRJNL 0) RJNL.PROT 1,
      fun s => { s with load := { s.load with flags := 1 } },
      fun s => { s with recov := { s.recov with acts := [(0, some ⟨1, 2, 0x29, false, 0, 0x400, false, 0, 0, false⟩)] } },
      fun s => modProt s 0 fun x => { x with replay := some ({ Replay.init with going := true, haltAt := 5 }) }]) 0 (some 0),
      [2, 6, 14, 17, 18]),
    (hypRecoveryAndRestart (on live [fun s => { s with load := { s.load with flags := 1 } },
      fun s => { s with recov := { s.recov with acts := [(0, some ⟨1, 1, 0x29, false, 0, 0x400, false, 0, 0, false⟩)] } },
      fun s => modProt s 0 fun x => { x with replay := some ({ Replay.init with going := true }) }]) 0 none,
      [4, 13, 15]),
    (hypRecoveryAndRestart (on live [F (pgDASY 0) DASY.ROLE_ROLE 3]) 0 (some 0), [3]),
    (hypRecoveryAndRestart (on live [fun s => { s with load := { s.load with flags := 1 } },
      fun s => { s with recov := { s.recov with acts := [(0, some ⟨1, 5, 0x29, false, 0, 0x400, false, 0, 0, false⟩)] } },
      fun s => modProt s 0 fun x => { x with replay := some ({ Replay.init with going := false }) }]) 0 (some 0),
      [10]),
    (hypRecoveryAndRestart (on live [fun s => { s with load := { s.load with flags := 1 } },
      fun s => { s with recov := { s.recov with acts := [(0, some ⟨1, 4, 0x29, false, 0, 0x400, false, 0, 0, false⟩)] } },
      fun s => modProt s 0 fun x => { x with replay := some ({ Replay.init with going := true }) }]) 0 (some 1), [9]),
    (hypRecoveryAndRestart (on live [fun s => { s with load := { s.load with flags := 1 } },
      fun s => { s with recov := { s.recov with acts := [(0, some ⟨1, 2, 0x29, false, 0, 0x400, false, 0, 0, false⟩)] } },
      fun s => modProt s 0 fun x => { x with replay := some ({ Replay.init with going := true }) }]) 0 none, [5]),
    (hypRecoveryAndRestart (on live [fun s => { s with load := { s.load with flags := 1 } },
      F pgDCLK DCLK.NET_PLL 0]) 1 none, [16]),
    (hypRecoveryAndRestart (on live [F (pgRJNL 0) RJNL.PROT 1,
      fun s => { s with load := { s.load with flags := 1 } }, fun s => on s [F (pgRJNL 0) (RJNL.LSTEP_EN 0) 1,
      F (pgRJNL 0) (RJNL.LSTEP_FIRST 0) 0, F (pgRJNL 0) (RJNL.LSTEP_SECOND 0) 1]]) 0 (some 1), [1]),
    (hypRecoveryAndRestart (on live [fun s => { s with load := { s.load with flags := 1 } },
      fun s => { s with recov := { s.recov with acts := [(0, some ⟨1, 3, 0x29, false, 0, 0x400, false, 0, 0, false⟩)] } },
      fun s => modProt s 0 fun x => { x with replay := some ({ Replay.init with going := true }) },
      F (pgTBNK 15) TBNK.PWR_STATE 3]) 0 (some 0), [7]),
    (hypRecoveryAndRestart (on live [F (pgRJNL 0) RJNL.PROT 1,
      fun s => { s with load := { s.load with flags := 1 } }]) 0 none, [0]),
    (hypRecoveryAndRestart (on live [fun s => { s with load := { s.load with flags := 1 } },
      fun s => { s with recov := { s.recov with acts := [(0, some ⟨1, 6, 0x29, false, 0, 0x400, false, 0, 0, false⟩)] } },
      fun s => modProt s 0 fun x => { x with replay := some ({ Replay.init with going := false }) },
      fun s => mapOnto s 0, F (pgRJNL 0) RJNL.JBANKS 0x8000]) 0 (some 0), [12]),
    (hypRecoveryAndRestart (on live [fun s => { s with load := { s.load with flags := 1 } },
      fun s => { s with recov := { s.recov with acts := [(0, some ⟨1, 3, 0x29, false, 0, 0x400, false, 0, 0, false⟩)] } },
      fun s => modProt s 0 fun x => { x with replay := some ({ Replay.init with going := false }) }]) 0 (some 0), [8]),
    (hypRecoveryAndRestart (on live [fun s => { s with load := { s.load with flags := 1 } },
      fun s => { s with recov := { s.recov with acts := [(0, some ⟨1, 6, 0x29, false, 0, 0x400, false, 0, 0, false⟩)] } },
      fun s => modProt s 0 fun x => { x with replay := some ({ Replay.init with going := true }) },
      fun s => mapOnto s 0, F (pgRJNL 0) RJNL.JFILL 1]) 0 (some 1), [11])] = true := by
  decide +kernel

theorem wit_LockstepAndPairs : meets [
    (hypLockstepAndPairs live 0 0 true false, [0, 4, 6, 9, 11]),
    (hypLockstepAndPairs (on live [fun s => on s [F (pgRJNL 0) (RJNL.LSTEP_EN 0) 1,
      F (pgRJNL 0) (RJNL.LSTEP_FIRST 0) 0, F (pgRJNL 0) (RJNL.LSTEP_SECOND 0) 1],
      fun s => setRj s 0 { rjOf s 0 with cmpA := [(32, [Tok.zero])], cmpB := [(32, [{ Tok.zero with data := 1 }])] },
      F (pgDASY 0) DASY.ROLE_ROLE 3, F pgDACW DACW.PAIR_CFG_EN 1,
      fun s => { s with mirror := [.journal 0 3 []] }, fun s => { s with mirrorAt := [5] },
      fun s => { s with strand := { s.strand with paired := { s.strand.paired with sendAt := 500001 } } }]) 0 0 true false,
      [1, 5, 7, 10]),
    (hypLockstepAndPairs (on live [fun s => on s [F (pgRJNL 0) (RJNL.LSTEP_EN 0) 1,
      F (pgRJNL 0) (RJNL.LSTEP_FIRST 0) 0, F (pgRJNL 0) (RJNL.LSTEP_SECOND 0) 1],
      fun s => setRj s 0 { rjOf s 0 with cmpA := [(32, [Tok.zero])], cmpB := [(32, [{ Tok.zero with data := 1 }])] },
      F pgDACW DACW.PAIR_CFG_EN 1, F (pgZLNK 0) ZLNK.STAT_STATE 2,
      fun s => { s with mirror := [.journal 0 3 []] }]) 0 0 true false, [2, 3, 8])] = true := by
  decide +kernel

theorem wit_TileFaults : meets [
    (hypTileFaults (on live [F (pgRJNL 0) RJNL.PROT 1, fun s => { s with load := { s.load with flags := 1 } },
      F (pgRCLK 0) (RCLK.TILE_CLK_BUSY 0) 1, F pgDRCV DRCV.CORR_LIMIT 5]) 0 0 0 7 7, [1, 5, 6, 8, 9]),
    (hypTileFaults live 0 0 0 0 0, [3, 7, 10]),
    (hypTileFaults (on live [F (pgDASY 0) DASY.ROLE_ROLE 3]) 255 15 15 15 7, [0]),
    (hypTileFaults (on live [fun s => { s with load := { s.load with flags := 1 } }]) 0 0 0 7 7, [2]),
    (hypTileFaults (on live [fun s => { s with load := { s.load with flags := 1 } }]) 255 15 15 15 7, [4])] = true := by
  decide +kernel

theorem wit_SpareBanksAndChannels : meets [
    (hypSpareBanksAndChannels live 0 15 14, [0, 3, 5, 7, 8]),
    (hypSpareBanksAndChannels (on live [F (pgRMEM 0) RMEM.SPARE_MAP_USED 1,
      fun s => { s with recov := { s.recov with acts := [(256, some ⟨4, 2, 0x29, false, 5, 0x201, false, 0, 0, false⟩)] } },
      F pgDRCV DRCV.DMA_RESV 1]) 0 5 14, [1, 2, 4, 6, 9])] = true := by
  decide +kernel

theorem wit_LinksPllsAndCooling : meets [
    (hypLinksPllsAndCooling live 0 15 true 2, [1, 3, 4, 13, 16]),
    (hypLinksPllsAndCooling (on live [fun s => setRegAt s (pgRRTR (linkEnds 0).1.1) RRTR.LINK_STAT.off (word (setBits 0x5555 (2 * (linkEnds 0).1.2 + 1) (2 * (linkEnds 0).1.2) 3)),
      F (pgRCLK 0) RCLK.PLLA_CFG_MULT 10, F (pgRCLK 0) RCLK.PLLB_CFG_EN 1, F (pgRCLK 0) RCLK.PLLB_CFG_LOCK 1,
      F (pgRCLK 0) RCLK.PLLB_CFG_MULT 10,
      fun s => { s with recov := { s.recov with acts := [(1024, some ⟨7, 1, 0x29, false, 0, 0x30, false, 0, 0, false⟩)], pllAt := [(0, 496001)] } },
      F (pgRCLK 0) RCLK.NEIGH 0xFFFF, F (pgRCLK 0) RCLK.TEMP 480]) 0 0 false 1, [0, 2, 8, 10, 15]),
    (hypLinksPllsAndCooling (on live [fun s => { s with recov := { s.recov with acts := [(1024, some ⟨7, 1, 0x29, false, 0, 0x30, false, 0, 0, false⟩)], pllAt := [(0, 496001)] } },
      fun s => { s with recov := { s.recov with coolAt := [(2, 500001)], heardA := 500000 } }]) 0 0 false 2,
      [9, 11, 14]),
    (hypLinksPllsAndCooling (on live [F (pgRCLK 0) RCLK.PLLA_CFG_LOCK 1,
      fun s => { s with recov := { s.recov with acts := [(1024, some ⟨7, 1, 0x29, false, 0, 0x30, false, 0, 0, false⟩)], pllAt := [(0, 0)] } }]) 0 0 false 0,
      [7]),
    (hypLinksPllsAndCooling (on live [F (pgRCLK 0) RCLK.PLLA_CFG_EN 1, F (pgRCLK 0) RCLK.PLLA_CFG_LOCK 1,
      F (pgRCLK 0) (RCLK.TILE_CLK_CURSRC 0) 2]) 0 0 false 0, [6]),
    (hypLinksPllsAndCooling (on live [F (pgRCLK 0) RCLK.PLLA_CFG_EN 1]) 0 0 false 1, [5]),
    (hypLinksPllsAndCooling (on live [F (pgRCLK 0) RCLK.PLLA_CFG_MULT 10, F (pgRCLK 0) RCLK.PLLB_CFG_EN 1,
      fun s => { s with recov := { s.recov with acts := [(1024, some ⟨7, 1, 0x29, false, 0, 0x30, false, 0, 0, false⟩)], pllAt := [(0, 496001)] } },
      F (pgRCLK 0) (RCLK.TILE_CLK_CURSRC 0) 1]) 0 0 false 1, [12])] = true := by
  decide +kernel

theorem wit_Assayers : meets [
    (hypAssayers (on live [F (pgDASY 0) DASY.ROLE_ROLE 2,
      F (pgDASY 1) DASY.ROLE_ROLE 1]) true 1 28 7 0x230 true true true, [0, 3, 6, 8, 13, 14, 15, 18]),
    (hypAssayers (on live [F (pgDASY 1) DASY.ROLE_ROLE 3,
      fun s => { s with recov := { s.recov with testing := 2 } },
      F pgDRCV DRCV.STATE_MODE 2]) true 3 0 0 0x220 true false false, [1, 7, 11, 16, 17]),
    (hypAssayers (on live [F (pgDASY 0) DASY.ROLE_ROLE 2, F (pgDASY 1) DASY.ROLE_ROLE 3,
      F (pgDASY 1) DASY.ROLE_FENCED 1,
      fun s => { s with recov := { s.recov with heardA := 500000 } }]) false 0x7F 0 5 0x220 false true false, [4, 5]),
    (hypAssayers (on live [F (pgDASY 0) DASY.ROLE_ROLE 2, F (pgDASY 1) DASY.ROLE_ROLE 1,
      fun s => { s with recov := { s.recov with testing := 0 } }]) false 0x7F 0 5 0x220 false true false, [2, 12]),
    (hypAssayers (on live [F (pgDASY 0) DASY.ROLE_ROLE 3,
      fun s => { s with recov := { s.recov with testing := 1 } },
      F pgDRCV DRCV.STATE_MODE 2]) false 4 0 0 5 true true true, [9]),
    (hypAssayers (on live [F (pgDASY 0) DASY.ROLE_ROLE 3, F (pgDASY 1) DASY.ROLE_ROLE 1,
      fun s => { s with recov := { s.recov with testing := 1 } }]) false 4 0 0 5 true true true, [10])] = true := by
  decide +kernel

theorem wit_ImageLoad : meets [
    (hypImageLoad State.reset, [1, 3, 4, 7, 9, 11, 12, 19, 22]),
    (hypImageLoad (on State.reset [fun s => { s with power := { s.power with up := false, rising := true } },
      F pgDCFG DCFG.STATUS_STATE 2, F pgDCFG DCFG.STATUS_SOURCE 3,
      fun s => { s with load := { s.load with passed := true } }]), [2, 5, 8, 10, 16]),
    (hypImageLoad (on State.reset [fun s => { s with power := { s.power with up := false } },
      F pgDCFG DCFG.STATUS_STATE 3, fun s => { s with load := { s.load with doneWait := 4 } },
      fun s => { s with age := 400000 }]), [0, 18, 21]),
    (hypImageLoad (on State.reset [F pgDCFG DCFG.STATUS_STATE 1]), [6]),
    (hypImageLoad (on State.reset [F pgDCFG DCFG.STATUS_STATE 2, F pgDCFG DCFG.STATUS_SOURCE 1]), [14]),
    (hypImageLoad (on State.reset [F pgDCFG DCFG.STATUS_STATE 2, F pgDCFG DCFG.STATUS_SOURCE 3,
      fun s => { s with loadBuf := (image []).take 256 }]), [13]),
    (hypImageLoad (on State.reset [F pgDCFG DCFG.STATUS_STATE 2, F pgDCFG DCFG.STATUS_SOURCE 3,
      fun s => { s with loadBuf := image [0, 0, 0, 0, 0, 0, 0, 0] },
      fun s => { s with load := { s.load with passed := true, wave := 33, len := 3004 } },
      fun s => { s with age := 13400 }]), [17]),
    (hypImageLoad (on State.reset [F pgDCFG DCFG.STATUS_STATE 2]), [15]),
    (hypImageLoad (on State.reset [F pgDCFG DCFG.STATUS_STATE 3, F pgDCFG DCFG.STATUS_SOURCE 1,
      fun s => { s with load := { s.load with doneWait := 4 } }, fun s => { s with age := 400000 }]), [20])] = true := by
  decide +kernel

theorem wit_StartUpPhases : meets [
    (hypStartUpPhases live 0x10AD0001 false, [0, 1, 2, 3, 12, 15, 19]),
    (hypStartUpPhases (on live [F pgDCFG DCFG.STATUS_STATE 4, F pgDCFG DCFG.STATUS_PHDONE 0,
      fun s => { s with load := { s.load with phases := 0xE4, clk := some 490000 } }, F pgDACW DACW.PAIR_CFG_EN 1,
      F pgDACW DACW.PAIR_STAT_UP 1]) 0x10AD0000 false, [5, 14, 17, 18]),
    (hypStartUpPhases (on live [F pgDCFG DCFG.STATUS_STATE 4, F pgDCFG DCFG.STATUS_PHDONE 3,
      fun s => { s with load := { s.load with phases := 0xE4, clk := some 0 } }, F pgDACW DACW.PAIR_CFG_EN 1,
      F pgDACW DACW.PAIR_STAT_UP 1]) 0x10AD0001 false, [9, 16]),
    (hypStartUpPhases (on live [F pgDCFG DCFG.STATUS_STATE 6]) 0x10AD0000 false, [11]),
    (hypStartUpPhases (on live [F pgDCFG DCFG.STATUS_STATE 4, F pgDCFG DCFG.STATUS_PHDONE 1,
      fun s => { s with load := { s.load with phases := 0xE4, clk := some 490000 } }]) 0x10AD0001 false, [8]),
    (hypStartUpPhases (on live [F pgDACW DACW.PAIR_CFG_EN 1, F pgDACW DACW.PAIR_STAT_UP 1]) 0x10AD0000 false, [13]),
    (hypStartUpPhases (on live [F pgDCFG DCFG.STATUS_STATE 4, F pgDCFG DCFG.STATUS_PHDONE 7,
      fun s => { s with load := { s.load with phases := 0xE4, clk := some 490001 } }]) 0x10AD0001 false, [10]),
    (hypStartUpPhases (on live [F pgDCFG DCFG.STATUS_STATE 4, F pgDCFG DCFG.STATUS_PHDONE 0,
      fun s => { s with load := { s.load with phases := 0xE4, clk := some 490001 } }]) 0 true, [7]),
    (hypStartUpPhases (on live [F pgDCFG DCFG.STATUS_STATE 4, F pgDCFG DCFG.STATUS_PHDONE 0,
      fun s => { s with load := { s.load with phases := 0xE4, clk := some 0 } }]) 0x10AD0001 true, [6]),
    (hypStartUpPhases (on live [F pgDCFG DCFG.STATUS_STATE 4, F pgDCFG DCFG.STATUS_PHDONE 3]) 0x10AD0000 false, [4])] = true := by
  decide +kernel

theorem wit_FlashAndCalibration : meets [
    (hypFlashAndCalibration live 0x10AD0000, [2, 5, 7, 9, 15, 16]),
    (hypFlashAndCalibration (on live [fun s => { s with flash := { s.flash with run := some (1, 0) } },
      fun s => { s with load := { s.load with calBlock := some 0 } },
      fun s => { s with flash := { s.flash with bytes := (List.range 4).map fun i => (calAddr 0 + 4 + i, 0) } },
      fun s => { s with flash := { s.flash with wear := [(bootBlock, 100000)] } }]) 0xCA1B0000, [0, 10, 11, 17, 20]),
    (hypFlashAndCalibration (on live [F pgDCFG DCFG.FL_STAT_BUSY 1,
      fun s => { s with flash := { s.flash with run := some (2, 0) } }]) 0xCA1B0000, [8, 12, 18]),
    (hypFlashAndCalibration (on live [F pgDCFG DCFG.STATUS_STATE 4,
      fun s => { s with flash := { s.flash with run := some (3, 0) } }]) 0x10AD0000, [1, 13]),
    (hypFlashAndCalibration (on live [F pgDCFG DCFG.FL_ADDR 0x1F00000,
      fun s => { s with flash := { s.flash with run := some (4, 1) } }]) 0x10AD0000, [4, 14]),
    (hypFlashAndCalibration (on live [F pgDCFG DCFG.FL_ADDR 0x1EFFF00,
      fun s => { s with flash := { s.flash with pages := [(126975, 1)] } },
      fun s => { s with load := { s.load with calBlock := some 1 } },
      fun s => { s with flash := { s.flash with bytes := (List.range 4).map fun i => (calAddr 0 + 4 + i, 0) } },
      fun s => { s with flash := { s.flash with calRun := some 0 } }]) 0x10AD0000, [6, 19]),
    (hypFlashAndCalibration (on live [F pgDCFG DCFG.FL_ADDR 0x1EFFF00,
      fun s => { s with flash := { s.flash with wear := [(495, 100000)] } }]) 0x10AD0000, [3])] = true := by
  decide +kernel

theorem wit_BezelSegments : meets [
    (hypBezelSegments live 0 47 0, [0, 2, 5, 8, 10]),
    (hypBezelSegments (on live [F (pgDBZL 0) DBZL.FRAME_LEN 1,
      fun s => modBezel s 0 fun b => { b with nextFrame := 123456 }, F (pgDBZL 0) (DBZL.PIN_CFG_MODE 47) 2,
      F (pgDBZL 0) (DBZL.PIN_CFG_FRAMED 47) 1, fun s => modBezel s 0 fun b => { b with framed := true },
      fun s => modBezel s 0 fun b => { b with launches := [⟨0, Tok.zero, true⟩] }]) 0 47 0, [1, 4, 6]),
    (hypBezelSegments (on live [F (pgDBZL 0) (DBZL.PIN_CFG_MODE 47) 2, F (pgDBZL 0) (DBZL.PIN_CFG_FRAMED 47) 1,
      fun s => modBezel s 0 fun b => { b with framed := true },
      fun s => modBezel s 0 fun b => { b with frFresh := 2 ^ 47 },
      fun s => modBezel s 0 fun b => { b with launches := [⟨0, Tok.zero, false⟩] }]) 0 47 0, [3, 7]),
    (hypBezelSegments (on live [fun s => modBezel s 0 fun b => { b with takes := 1 }]) 0 0 0, [9])] = true := by
  decide +kernel

theorem wit_MachineInterface : meets [
    (hypMachineInterface (on live [fun s => modBezel s (chSeg 0) fun b => { b with loads := [(0, 5)] },
      fun s => setDac s 0 { dacOf s 0 with due := some 7 }, F pgDMIF (DMIF.DAC_CFG_SYNC 0) 1,
      F pgDMIF DMIF.DAC_WD 1, F pgDMIF (DMIF.DAC_CFG_CONN 0) 1, F pgDMIF DMIF.ADC_CFG_PERIOD 100,
      fun s => { s with adcNext := 123456 }]) 0 31 true, [0, 4, 5, 7, 8, 12, 14, 16, 18, 20]),
    (hypMachineInterface (on live [fun s => setDac s 0 { dacOf s 0 with waiting := some 0, nextAt := 500000 },
      F pgDMIF DMIF.MIF_STAT 1, fun s => { s with adcFly := [(0, [(499930, 5)])] },
      F pgDMIF DMIF.DI_LEVEL 0xFFFFFFFF, fun s => { s with diQ := [⟨31, true, 5⟩] }, F pgDMIF (DMIF.DO_CFG_EN 0) 1,
      F pgDMIF (DMIF.DO_CFG_SRC 0) 0xFF2]) 0 31 true, [1, 2, 6, 9, 10, 13, 15, 17, 19]),
    (hypMachineInterface (on live [fun s => setDac s 0 { dacOf s 0 with waiting := some 0, nextAt := 500001 },
      fun s => { s with adcFly := [(0, [(499930, 5)])] }, fun s => { s with adcVal := [(0, 1)] }]) 0 0 true, [3, 11])] = true := by
  decide +kernel

theorem wit_Loupe : meets [
    (hypLoupe live 0, [1, 3, 5, 6, 7]),
    (hypLoupe (on live [F pgDLPE DLPE.TRACE_STAT_STATE 1,
      fun s => { s with loupe := { s.loupe with read := some 0x1200002040 } }]) 0x60000000, [0, 2, 9]),
    (hypLoupe (on live [fun s => { s with loupe := { s.loupe with read := some 0x2000000000 } }]) 0, [10]),
    (hypLoupe (on live [F pgDLPE DLPE.TRACE_STAT_STATE 1,
      fun s => { s with loupe := { s.loupe with hit := some 0 } }]) 0, [4]),
    (hypLoupe (on live [fun s => { s with loupe := { s.loupe with read := some 0x7FFFFFFFC } }]) 0x10000000, [8])] = true := by
  decide +kernel

theorem wit_LinksUpAndDown : meets [
    (hypLinksUpAndDown live 0 2 0 0 0 0, [2, 6, 9, 11, 12, 14, 15]),
    (hypLinksUpAndDown (on live [F (pgZLNK 0) ZLNK.STAT_STATE 2, F pgDCFG DCFG.STATUS_STATE 1,
      F pgDCFG DCFG.STATUS_SOURCE 5, fun s => setLine s 0 { lineOf s 0 with good := 255 },
      fun s => { s with strand := { s.strand with resend := [zilKey 0 0] } },
      fun s => setE (setE s (zilKey 0 0) 0 31 31 1) (zilKey 0 0) 0 30 30 1,
      fun s => setE s (zilKey 0 0) 0x10 31 14 0x41, F pgDSTR DSTR.ID 0x40,
      F pgDSTR (DSTR.MEMBER_VALID 1) 1]) 0 1 0 0xFF 0 0, [3, 4, 13]),
    (hypLinksUpAndDown (on live [F (pgZLNK 0) ZLNK.STAT_STATE 3, F (pgZLNK 0) ZLNK.CFG_MODE 1,
      F (pgZLNK 0) ZLNK.STAT_LANEBAD 0xFF]) 0 1 0 0xFF 0 0, [1, 7]),
    (hypLinksUpAndDown (on live [F (pgZLNK 0) ZLNK.STAT_STATE 4]) 0 1 0 0xFF 0 0, [10]),
    (hypLinksUpAndDown (on live [F (pgZLNK 0) ZLNK.STAT_STATE 1, F (pgZLNK 0) ZLNK.CFG_MODE 1]) 0 1 0 0xFF 0 0,
      [0]),
    (hypLinksUpAndDown (on live [F (pgZLNK 0) ZLNK.STAT_STATE 5, F pgDCFG DCFG.STATUS_STATE 2,
      F pgDCFG DCFG.STATUS_SOURCE 5]) 0 2 0 0 0 0, [8]),
    (hypLinksUpAndDown (on live [F (pgZLNK 0) ZLNK.STAT_STATE 2]) 0 1 3 0xFE 7 63, [5])] = true := by
  decide +kernel

theorem wit_FramesAndTime : meets [
    (hypFramesAndTime live 0 ((frameWords ⟨1, 3, 1,
      rhWord 0x40 0x41 0 :: flitWords { blankPkt with cls := .svc, data := List.replicate 64 7 }⟩ 0 1023 0).dropLast ++ [5]),
      [6, 11, 14, 17]),
    (hypFramesAndTime (on live [F (pgZLNK 0) ZLNK.STAT_STATE 5,
      fun s => setLine s 0 { lineOf s 0 with unacked := [(5, ⟨2, 0, 0, []⟩)] },
      F pgDSTR DSTR.TIME_CFG_SRC 1]) 0 (frameWords ⟨2, 0, 0, []⟩ 0 5 0), [8, 9, 16]),
    (hypFramesAndTime (on live [F (pgZLNK 0) ZLNK.STAT_STATE 2, fun s => on s [F pgDSTR DSTR.ID 0x40,
      F pgDSTR (DSTR.MEMBER_VALID 1) 1, F pgDSTR (DSTR.MEMBER_LINK 1) 0, F (pgZLNK 0) ZLNK.CFG_MODE 1],
      fun s => { s with routes := (toBytes 8 (2 ^ 63 + 3 * 2 ^ 61 + 0x41 * 2 ^ 39)).zipIdx.map fun b => (16 + b.2, b.1) }]) 0 (frameWords ⟨1,
      3, 1, rhWord 0x80 0x41 63 :: flitWords { blankPkt with cls := .svc, data := List.replicate 64 7 }⟩ 0 1023 0),
      [1, 13]),
    (hypFramesAndTime (on live [F (pgZLNK 0) ZLNK.STAT_STATE 2]) 0 (frameWords ⟨1, 3, 1,
      rhWord 0x41 0x41 0 :: flitWords { blankPkt with cls := .svc, data := List.replicate 64 7 }⟩ 0 1023 0), [2]),
    (hypFramesAndTime (on live [F (pgZLNK 0) ZLNK.STAT_STATE 2, fun s => on s [F pgDSTR DSTR.ID 0x40,
      F pgDSTR (DSTR.MEMBER_VALID 1) 1, F pgDSTR (DSTR.MEMBER_LINK 1) 0, F (pgZLNK 0) ZLNK.CFG_MODE 1],
      fun s => { s with txns := [(256 * 0x221 + 1, some ⟨.dmaRead 3 63 false, false, 64, 0x2000, false, 0⟩)] }]) 0 (frameWords ⟨1,
      1, 1,
      rhWord 0x40 0x41 0 :: flitWords { blankPkt with cls := .rsp, src := 0x221, tag := 1, data := List.replicate 64 7 }⟩ 0 1023 0),
      [5]),
    (hypFramesAndTime (on live [F (pgZLNK 0) ZLNK.STAT_STATE 2, fun s => on s [F pgDSTR DSTR.ID 0x40,
      F pgDSTR (DSTR.MEMBER_VALID 1) 1, F pgDSTR (DSTR.MEMBER_LINK 1) 0,
      F (pgZLNK 0) ZLNK.CFG_MODE 1]]) 0 (frameWords ⟨1, 0, 1,
      rhWord 0x40 0x41 0 :: flitWords { blankPkt with cls := .req, src := 0x222, tag := 1, addr := 0xFF0000, nbytes := 8 }⟩ 0 1023 0),
      [4]),
    (hypFramesAndTime (on live [F (pgZLNK 0) ZLNK.STAT_STATE 2]) 0 (frameWords ⟨4, 0, 0, [5, 1, 123]⟩ 0 0 0), [15]),
    (hypFramesAndTime (on live [F (pgZLNK 0) ZLNK.STAT_STATE 2]) 0 (frameWords ⟨1, 3, 1,
      rhWord 0x40 0x41 0 :: flitWords { blankPkt with cls := .svc, data := List.replicate 64 7 }⟩ 511 1023 0), [7]),
    (hypFramesAndTime (on live [F (pgZLNK 0) ZLNK.STAT_STATE 5, F pgDCFG DCFG.STATUS_STATE 1,
      F pgDCFG DCFG.STATUS_SOURCE 5]) 0 (frameWords ⟨7, 0, 0, List.replicate 8 9⟩ 0 0 0), [12]),
    (hypFramesAndTime (on live [F (pgZLNK 0) ZLNK.STAT_STATE 2, fun s => on s [F pgDSTR DSTR.ID 0x40,
      F pgDSTR (DSTR.MEMBER_VALID 1) 1, F pgDSTR (DSTR.MEMBER_LINK 1) 0,
      F (pgZLNK 0) ZLNK.CFG_MODE 1]]) 0 (frameWords ⟨1, 3, 1,
      rhWord 0x40 0x41 0 :: flitWords { blankPkt with cls := .svc, data := List.replicate 64 7 }⟩ 0 1023 0), [3]),
    (hypFramesAndTime (on live [F (pgZLNK 0) ZLNK.STAT_STATE 2,
      fun s => setLine s 0 { lineOf s 0 with unacked := [(5, ⟨2, 0, 0, []⟩)] }]) 0 (frameWords ⟨3, 0, 0,
      []⟩ 0 5 0), [10]),
    (hypFramesAndTime (on live [F (pgZLNK 0) ZLNK.STAT_STATE 2, fun s => on s [F pgDSTR DSTR.ID 0x40,
      F pgDSTR (DSTR.MEMBER_VALID 1) 1, F pgDSTR (DSTR.MEMBER_LINK 1) 0,
      F (pgZLNK 0) ZLNK.CFG_MODE 1]]) 0 (frameWords ⟨1, 3, 1,
      rhWord 0x41 0x41 1 :: flitWords { blankPkt with cls := .svc, data := List.replicate 64 7 }⟩ 0 1023 0), [0])] = true := by
  decide +kernel

theorem wit_JoiningAndIds : meets [
    (hypJoiningAndIds (on live [F (pgZLNK 0) ZLNK.STAT_STATE 2,
      fun s => setLine s 0 { lineOf s 0 with hello := true }, F (pgZLNK 0) ZLNK.CFG_MODE 1,
      F pgDSTR DSTR.ID 0x40, F pgDSTR DSTR.ID_CFG_MODE 2,
      F pgDSTR (DSTR.MEMBER_VALID 1) 1]) 0 (frameWords (joinFrame 5 0x41 0x40 2 0 []) 0 0 0) 1 0,
      [0, 5, 14, 16, 19, 21, 22, 25]),
    (hypJoiningAndIds (on live [F (pgZLNK 0) ZLNK.STAT_STATE 2, F pgDSTR DSTR.JOIN_STAT_STATE 3,
      F pgDSTR DSTR.ID_CFG_MODE 1, fun s => { s with strand := { s.strand with reqs := [⟨77, 1, 0⟩] } },
      fun s => { s with age := 1000000 }]) 0 (frameWords (joinFrame 1 0x41 0x40 0 0 []) 0 0 0) 1 0,
      [1, 2, 18, 20, 23, 24]),
    (hypJoiningAndIds (on live [F (pgZLNK 0) ZLNK.STAT_STATE 2, F (pgZLNK 0) ZLNK.CFG_MODE 1,
      F pgDSTR DSTR.ID_CFG_MODE 3,
      F pgDCAL DCAL.ID_SERIAL_LO 5]) 0 (frameWords (joinFrame 4 0x41 0x40 0 5 []) 0 0 0) 1 0, [3, 12]),
    (hypJoiningAndIds (on live [F (pgZLNK 0) ZLNK.STAT_STATE 2, F pgDSTR DSTR.ID_CFG_MODE 2,
      F pgDSTR DSTR.ID_CFG_SREQ 1,
      fun s => { s with routes := (toBytes 8 (2 ^ 63 + 2 ^ 61)).zipIdx.map fun b => (b.2, b.1) },
      fun s => { s with strand := { s.strand with reqs := [⟨77, 1, 0⟩] } }]) 0 (frameWords (joinFrame 4 0x41 0x40 0 77 []) 0 0 0) 1 0,
      [4, 13]),
    (hypJoiningAndIds (on live [F (pgZLNK 0) ZLNK.STAT_STATE 2,
      fun s => { s with strand := { s.strand with reqs := [⟨77, 1, 0⟩] } }]) 0 (frameWords (joinFrame 3 0x41 0x40 0 77 []) 0 0 0) 1 0,
      [11]),
    (hypJoiningAndIds (on live [F (pgZLNK 0) ZLNK.STAT_STATE 2, F pgDSTR DSTR.ID 0x42,
      fun s => on s ((List.range 64).map fun m => F pgDSTR (DSTR.MEMBER_VALID m) 1)]) 0 (frameWords (joinFrame 2 0 0 0 77 []) 0 0 0) 63 15,
      [8]),
    (hypJoiningAndIds (on live [F (pgZLNK 0) ZLNK.STAT_STATE 2,
      F pgDCAL DCAL.ID_SERIAL_LO 5]) 0 (frameWords (joinFrame 3 0x41 0x40 0 5 []) 0 0 0) 0 0, [10]),
    (hypJoiningAndIds (on live [F (pgZLNK 0) ZLNK.STAT_STATE 2, F pgDSTR DSTR.ID 0x42,
      F pgDSTR (DSTR.MEMBER_HOPS 1) 2]) 0 (frameWords (joinFrame 5 0x41 0x40 1 0 []) 0 0 0) 1 0, [15]),
    (hypJoiningAndIds (on live [F (pgZLNK 0) ZLNK.STAT_STATE 2, F pgDSTR DSTR.ID 0x40,
      F pgDSTR DSTR.ID_CFG_MODE 2,
      fun s => on s ((List.range 64).map fun m => F pgDSTR (DSTR.MEMBER_VALID m) 1)]) 0 (frameWords (joinFrame 2 0 0 0 77 []) 0 0 0) 63 15,
      [7]),
    (hypJoiningAndIds (on live [F (pgZLNK 0) ZLNK.STAT_STATE 2,
      F pgDSTR DSTR.ID 0x40]) 0 (frameWords (joinFrame 6 0x41 0x41 1 0 []) 0 0 0) 1 0, [17]),
    (hypJoiningAndIds (on live [F (pgZLNK 0) ZLNK.STAT_STATE 2, F pgDSTR DSTR.ID 0,
      F pgDSTR DSTR.ID_CFG_MODE 1]) 0 (frameWords (joinFrame 2 0 0 0 77 []) 0 0 0) 63 15, [6]),
    (hypJoiningAndIds (on live [F (pgZLNK 0) ZLNK.STAT_STATE 2, F pgDSTR DSTR.ID 0,
      F pgDSTR DSTR.ID_CFG_MODE 1]) 0 (frameWords (joinFrame 2 0 0 1 77 [rhWord 0 0x41 63]) 0 0 0) 64 0, [9])] = true := by
  decide +kernel

theorem wit_EthernetAndBridges : meets [
    (hypEthernetAndBridges (on live [F (pgETHP 0) ETHP.STAT 2,
      fun s => { s with ethQ := [(7, [⟨List.replicate 60 0, 0, 0, 0, 0, 0⟩])] }, fun s => setGate s 0 ⟨[(1, 100),
      (2, 200)], [], 0, 123456, 123457, true⟩, F (pgETHP 0) (ETHP.GCL1 0) 100,
      fun s => { s with tsFifo := [(0, [⟨1, 2, 3⟩])] },
      F pgDSTR (DSTR.BR_CTL_EN 0) 1]) 0 (etherFrame 0x1234 (List.replicate 46 0)) 0,
      [2, 10, 12, 13, 16, 17, 19, 22, 24, 26, 28, 29, 32]),
    (hypEthernetAndBridges (on live [F (pgETHP 0) ETHP.GCL_CTL_EN 1, F pgDSTR (DSTR.BR_STAT_STATE 0) 2,
      F (pgDASY 0) DASY.ROLE_ROLE 3]) 0 (etherFrame 0x8808 (List.replicate 46 0)) 0,
      [0, 9, 11, 14, 15, 18, 20, 23, 25, 30, 31]),
    (hypEthernetAndBridges (on live [F (pgETHP 0) ETHP.STAT 3,
      F pgDSTR (DSTR.BR_CTL_EN 0) 1]) 0 (wordBytes (frameWords ⟨2, 0, 0, []⟩ 0 0 0)) 0, [21, 27]),
    (hypEthernetAndBridges (on live [F (pgETHP 0) ETHP.STAT 2, F (pgETHP 0) ETHP.CFG_MAXLEN 9216,
      F (pgETHP 0) (ETHP.RULE0_EN 0) 1,
      F (pgETHP 0) (ETHP.RULE0_ACT 0) 1]) 0 (etherFrame 0x1234 (List.replicate 60 0)) 0, [8]),
    (hypEthernetAndBridges (on live [F (pgETHP 0) ETHP.STAT 2, F (pgETHP 0) ETHP.CFG_MAXLEN 64,
      F (pgETHP 0) (ETHP.RULE0_EN 0) 1]) 0 (etherFrame 0x1234 (List.replicate 46 0)) 0, [6]),
    (hypEthernetAndBridges (on live [F (pgETHP 0) ETHP.STAT 2,
      F (pgETHP 0) ETHP.CFG_MAXLEN 9216]) 0 (etherFrame 0x800 ((0x45 :: 0 :: 0xFF :: 0xFF :: List.replicate 42 0))) 0,
      [5]),
    (hypEthernetAndBridges (on live [F (pgETHP 0) ETHP.STAT 2,
      F (pgETHP 0) ETHP.CFG_MAXLEN 9216]) 0 (etherFrame 0x8808 (List.replicate 46 0)) 0, [3]),
    (hypEthernetAndBridges (on live [F (pgETHP 0) ETHP.STAT 2,
      F (pgETHP 0) ETHP.CFG_MAXLEN 9216]) 0 (etherFrame 0x8100 (List.replicate 50 0x81)) 0, [4]),
    (hypEthernetAndBridges (on live [F (pgETHP 0) ETHP.STAT 2]) 0 (wordBytes (frameWords ⟨2, 0, 0, []⟩ 0 0 0)) 0,
      [1]),
    (hypEthernetAndBridges (on live [F (pgETHP 0) ETHP.STAT 2, F (pgETHP 0) ETHP.CFG_MAXLEN 9216,
      F (pgETHP 0) (ETHP.RULE0_EN 0) 1, F (pgETHP 0) (ETHP.RULE0_ACT 0) 1,
      fun s => setE (setE (setE s (ethKey 0 0) 0 31 31 1) (ethKey 0 0) 0 22 18 10) (ethKey 0 0) 4 18 0 0x1000]) 0 (etherFrame 0x1234 (List.replicate 46 0)) 0,
      [7])] = true := by
  decide +kernel

theorem wit_HostLinkAndResets : meets [
    (hypHostLinkAndResets (on live [F pgHPCI HPCI.LINK_STATE 2, F pgDCFG DCFG.STATUS_STATE 6,
      F pgMEMC MEMC.SCRUB_EN 1]) true 7 0xFFFF 1 0 511, [1, 3, 4, 6, 9, 11, 13, 15, 17, 18]),
    (hypHostLinkAndResets live false 7 16 0 399 400, [0, 5, 8, 16, 19]),
    (hypHostLinkAndResets (on live [F pgHPCI HPCI.LINK_STATE 2, F pgHPCI HPCI.LINK_PERS 1,
      F pgHPCI HPCI.LINK_WIDTH 8, F pgDCFG DCFG.STATUS_STATE 6, fun s => { s with vecPend := [(0, 1)] },
      fun s => { s with host := { s.host with unmasked := [(0, 1)] } }]) true 0 17 3 0 399, [2, 10, 12, 14]),
    (hypHostLinkAndResets (on live [F pgHPCI HPCI.LINK_STATE 2]) false 7 16 0 399 400, [7])] = true := by
  decide +kernel

theorem wit_HostAccessesAndRings : meets [
    (hypHostAccessesAndRings (on live [F pgHPCI HPCI.LINK_STATE 2, F pgHPCI HPCI.LINK_PERS 1,
      fun s => setE s (hostKey 0) 0 30 30 1]) 0x810000000 0xF [] false 4 0 0, [0, 2, 3, 5, 8, 9, 11, 15, 18]),
    (hypHostAccessesAndRings (on live [F pgHPCI HPCI.LINK_STATE 2,
      fun s => { s with txns := [(256 * 0x220 + 5, some ⟨.barWrite, true, 64, 0x1000000000, false, 0⟩)] },
      fun s => setE s (hostKey 0) 0 31 31 1, fun s => setE s (hostKey 0) 0x14 15 0 16]) 0x2003 0 [] false 0 0 17,
      [1, 4, 7, 13]),
    (hypHostAccessesAndRings live 0x2000 0xF [] false 4 0 0, [10, 12]),
    (hypHostAccessesAndRings (on live [F pgHPCI HPCI.LINK_STATE 2, F pgHPCI HPCI.LINK_PERS 1,
      fun s => setE s (hostKey 0) 0 31 31 1, fun s => setE s (hostKey 0) 0 30 30 1,
      fun s => { s with ends := [(hostKey 0, { Endp.init with held := [Tok.zero] })] }]) 0x11C010 0xFFFF [] false 64 0 16,
      [16, 17]),
    (hypHostAccessesAndRings (on live [F pgHPCI HPCI.LINK_STATE 2,
      fun s => setE s (hostKey 0) 0x14 15 0 16]) 0x810000000 0xF [] false 4 0 0, [6, 14])] = true := by
  decide +kernel

theorem wit_MaintenanceAndSerial : meets [
    (hypMaintenanceAndSerial live 0 [] 0, [6, 7, 8, 11, 14, 17, 18, 20, 22, 27, 29, 31, 33]),
    (hypMaintenanceAndSerial (on live [F pgMSER ((MSER.UART_CFG_MODE 0)) 1, F pgMSER MSER.SPI_CFG_ROLE 1,
      F pgDCFG DCFG.STATUS_STATE 6,
      fun s => { s with ser := { s.ser with i2cRun := some (0, 5) } }]) 3 (serialCmd 1 1 0x1200004000 []) 0,
      [1, 2, 3, 9, 13, 19, 26, 28, 30]),
    (hypMaintenanceAndSerial (on live [F pgDCFG DCFG.STATUS_STATE 1, F pgDCFG DCFG.STATUS_SOURCE 4,
      fun s => { s with ser := { s.ser with spiRun := some (0, 5) } }]) 2 [1] 1, [0, 12, 15, 21, 23, 25]),
    (hypMaintenanceAndSerial (on live [F pgMSER ((MSER.UART_CFG_MODE 1)) 2, F pgDCFG DCFG.STATUS_STATE 3,
      F pgDCFG DCFG.STATUS_SOURCE 4, fun s => { s with load := { s.load with everRun := true } },
      fun s => { s with ser := { s.ser with tdo := [7] } }]) 1 (serialCmd 2 1 0x2000 [1, 2, 3, 4]) 1, [4, 5, 16, 32]),
    (hypMaintenanceAndSerial (on live [fun s => { s with power := { s.power with good := false } }]) 2 [1] 1, [24]),
    (hypMaintenanceAndSerial (on live [F pgMSER ((MSER.UART_CFG_MODE 0)) 1,
      fun s => { s with ser := { s.ser with rx := [(0, List.replicate 64 0)] } }]) 0 [] 0, [10])] = true := by
  decide +kernel

theorem wit_ModulePower : meets [
    (hypModulePower live 0 true, [0, 3, 6, 8, 10, 11, 13, 14, 16]),
    (hypModulePower (on live [fun s => { s with power := { s.power with switchOff := true, up := false } },
      F pgDPWR DPWR.OFF_CAUSE 3, fun s => { s with age := 100000000 }]) 2 false, [1, 4, 7, 9, 12, 15]),
    (hypModulePower (on live [fun s => { s with power := { s.power with failing := true } }]) 2 false, [2, 5])] = true := by
  decide +kernel

theorem wit_PowerGovernor : meets [
    (hypPowerGovernor (on live [fun s => { s with released := false },
      F pgDPWR DPWR.GOV_CFG_CAP 125]) 6000 72001 [] [], [0, 7, 10]),
    (hypPowerGovernor (on live [fun s => { s with power := { s.power with full := some 400000 } },
      F pgDPWR DPWR.GOV_CFG_TLIM 105, F pgDPWR (DPWR.RAIL_STAT_LOST 0) 3]) 0 0 [] [], [3, 8, 9]),
    (hypPowerGovernor (on live [fun s => { s with power := { s.power with govNext := 500001 } }]) 12000 98000 [] [], [6]),
    (hypPowerGovernor (on live [F pgDPWR DPWR.GOV_CFG_TLIM 105, F pgDPWR DPWR.GOV_CFG_CAP 125]) 18000 0 [] [], [4]),
    (hypPowerGovernor (on live [fun s => { s with power := { s.power with calm := 9, waves := [[3, 2]] } },
      F pgDPWR DPWR.GOV_CFG_TLIM 105, F pgDPWR DPWR.GOV_CFG_CAP 125]) 18000 0 [] [], [5]),
    (hypPowerGovernor (on live [F pgDPWR DPWR.GOV_CFG_TLIM 105,
      fun s => on s ((List.range 8).map fun n => F pgDRCV (DRCV.TILE_RET n) 0xFFFFFFFF)]) 6000 72001 [] [], [2]),
    (hypPowerGovernor (on live [F pgDPWR DPWR.GOV_CFG_TLIM 105]) 12000 98000 [] [], [1])] = true := by
  decide +kernel

end Sys2Proof.Tests
end

/-! The sequencer's input and output (chapter 04) fails on a state whose arrival log is not well formed. A LOG record
holds three entries (R274), and `joinLog` never gathers more; but the type `GatherData` bounds no list, and `logRecord`
makes a longer record of a longer one. At the last record of region 15's journal such a record runs on past the end of
region memory, where `BanksKept` promises that no byte changes. -/

namespace Sys2Proof.Machine
open Sys2Proof Sys2Proof.Safety

/-- A gather buffer of four TIME entries, one more than a LOG record holds (R274). -/
def overfullBuf : Gather := ⟨.logs 0 (List.replicate 4 (plainEntry .time 0 0 0)), 0, 0⟩

/-- Tile 240 of region 15 runs at address 0 of its program area and is protected. Its buffer is due for the region's last
journal record, whose bank is the last of region memory. In-endpoint 4 has one token to feed to SI0. -/
def overfullJournal : State :=
  let s := modTile State.reset 240 fun x => { x with halted := false }
  let s := modProt s 240 fun y => { y with bufs := [overfullBuf] }
  let s := setF s (pgTSEQ 240) TSEQ.PROG_CFG_LEN 1
  let s := setF s (pgTBNK 240) TBNK.PWR_STATE 0xAAAA
  let s := setF s (pgRMEM 15) RMEM.PWR_STATE 0xAAAAAAAA
  let s := setF s (pgRJNL 15) RJNL.PROT 1
  let s := setF s (pgRJNL 15) RJNL.JBANKS 0x8000
  let s := setF s (pgRJNL 15) RJNL.JSIZE 2048
  let s := setF s (pgRJNL 15) RJNL.JHEAD 2047
  let s := setF s (pgRRTR 15) (RRTR.EP_CTL_EN 4) 1
  setF s (pgRRTR 15) (RRTR.EP_CRED_COUNT 4) 1

/-- Tile 240 executes an OUT of M0 there. -/
theorem overfullJournal_executes_out : Executes overfullJournal 240 .out false 0 0 where
  live := by decide +kernel
  runs := by decide +kernel
  counts := by decide +kernel
  noRet := by decide +kernel
  inside := by decide +kernel
  there := by decide +kernel
  clean := by decide +kernel
  legal := by decide +kernel
  rule := by decide +kernel
  window := by
    have noTransfer : (tileOf overfullJournal (240 : TileN).val).xfer = none := by decide +kernel
    rintro ⟨f, hf, -⟩
    rw [noTransfer] at hf
    contradiction
  flows := by decide +kernel

theorem exec_seqOut (t : TileN) (fv : Bool) (fs : Fin 16) (o : BitVec 21) (s : State) :
    exec (.seqOut t fv fs o) s = .next (runInsn s t.val .out fv fs o) := rfl

/-- A cycle that issues no facet stores nothing. -/
theorem facetStore_of_noFacet (s : State) (t : TileN) (fs : Fin 16) : facetStore s t false fs = none := rfl

/-- Nothing is stored past region memory, which ends at 0x10_0200_0000 (R19). -/
theorem overfullJournal_past_end : memByte overfullJournal 0x1002000003 = 0 := rfl

/-- The token fed after the OUT makes the journal's writer write its oldest buffer; word 16 of that record begins the
fourth entry, with its kind 0x2 TIME in bits [31:28]. -/
theorem runInsn_out_past_end : memByte (runInsn overfullJournal 240 .out false 0 0) 0x1002000003 = 0x20 := by
  decide +kernel

/-- Refutes O10: on `overfullJournal` an OUT changes a byte past region memory, which `Retires` says it keeps. The
state's one fault is its gather buffer of four log entries; the statement's hypotheses do not exclude it. -/
theorem not_sequencerInputOutput : ¬ Obligations.SequencerInputOutput := by
  unfold Obligations.SequencerInputOutput
  intro h
  obtain ⟨-, hout, -⟩ := h overfullJournal 240 false 0 0
  obtain ⟨u, hu, -, -, -, kept⟩ := hout overfullJournal_executes_out
  rw [exec_seqOut] at hu
  obtain rfl := Host.Outcome.next.inj hu
  rw [facetStore_of_noFacet] at kept
  have same := kept 0x1002000003 (fun _ => by omega) (by simp)
  rw [overfullJournal_past_end] at same
  exact absurd (runInsn_out_past_end.symm.trans same) (by decide)

end Sys2Proof.Machine

/-! The locks of a region (R171): the command's outcome from the lock's three fields, and what a refusal leaves. -/

namespace Sys2Proof.Machine
open Sys2Proof Sys2Proof.Safety

/-! ### Fields of registers that a change leaves alone -/

/-- A register outside the keys that a change may touch keeps its fields. -/
theorem getF_of_regsBut {s t : State} {ks : List Nat} (h : RegsBut s t ks) {p : Nat} {f : Fld} (hf : regKey p f.off ∉ ks) :
    getF t p f = getF s p f :=
  congrArg (fun w : Word => bitsOf w.toNat f.hi f.lo) (h _ hf)

theorem setRegAt_only (s : State) (p off : Nat) (w : Word) : OnlyRegs s (setRegAt s p off w) [regKey p off] :=
  ⟨rfl, regsBut_setRegAt _ _ _ _⟩

/-- A field of a register that was written reads from the word written. -/
theorem getF_setRegAt (s : State) (p : Nat) (f : Fld) (w : Word) : getF (setRegAt s p f.off w) p f = bitsOf w.toNat f.hi f.lo := by
  rw [getF, regAt_setRegAt_self]

theorem errCount_counted (s : State) (p : Nat) : Counted s (errCount s p) p := by
  rw [Counted, errCount, incF, getF_setF _ _ _ (by decide)]
  exact Nat.mod_eq_of_lt (Nat.lt_of_le_of_lt (Nat.min_le_right ..) (by decide))

/-! ### The record of an event -/

theorem shownPage_of_lt (s : State) {p : Nat} (h : p < 0x400) : shownPage s p = p := if_neg (by omega)

theorem b2n_le_one (b : Bool) : b2n b ≤ 1 := by cases b <;> decide

/-- The third word of an event record gives back the record's code and page (R494). -/
theorem eventWord_code_page {code bit q : Nat} (hc : code < 256) (hb : bit < 32) (hq : q < 2 ^ 17) (pend rep : Bool) :
    let w := word (code * 2 ^ 24 + bit * 2 ^ 19 + b2n pend * 2 ^ 18 + b2n rep * 2 ^ 17 + q)
    w.toNat / 2 ^ 24 = code ∧ w.toNat % 2 ^ 17 = q := by
  have := b2n_le_one pend
  have := b2n_le_one rep
  simp only [word, BitVec.toNat_ofNat]
  omega

/-- In a die out of reset a record enters a queue with room. -/
theorem enqueueRec_evq_of_room {s : State} (h : dieReset s = false) (room : s.evq.length < 256) (e : EvRec) :
    (enqueueRec s e).evq = s.evq ++ [e] := by
  simp [enqueueRec, h, room]

/-- An event of a page below the tile pages enters the queue with its code, page and detail (R494). -/
theorem pushEvent_reported (s : State) {p code bit : Nat} (hp : p < 0x400) (hc : code < 256) (hb : bit < 32) (pend : Bool)
    (d : Nat) : Reported s (pushEvent s p code bit pend d) p code d := by
  intro alive room
  obtain ⟨f, t, read⟩ := timeAt_snd s p d
  have fields := eventWord_code_page hc hb (q := shownPage s p) (by rw [shownPage_of_lt s hp]; omega) pend
    (decide (0x400 ≤ p) && replaying s ((shownPage s p - 0x400) / 4))
  simp only [pushEvent, read]
  split <;> exact ⟨_, enqueueRec_evq_of_room (by exact alive) (by exact room) _, fields.1, fields.2, rfl⟩

/-! ### A lock word and its fields -/

/-- The word of a lock in state `st` with orphan flag `orph` and owner `owner`. -/
def lockWord (st orph owner : Nat) : Word := word (st * 2 ^ 30 + orph * 2 ^ 29 + owner)

theorem lockWord_owner (st orph : Nat) {owner : Nat} (howner : owner < 1024) :
    bitsOf (lockWord st orph owner).toNat 9 0 = owner := by
  rw [lockWord, bitsOf_word _ _ _ (by decide), bitsOf, Nat.shiftRight_eq_div_pow]
  omega

theorem lockWord_orph (st : Nat) {orph owner : Nat} (horph : orph < 2) (howner : owner < 1024) :
    bitsOf (lockWord st orph owner).toNat 29 29 = orph := by
  rw [lockWord, bitsOf_word _ _ _ (by decide), bitsOf, Nat.shiftRight_eq_div_pow]
  omega

theorem lockWord_state {st orph owner : Nat} (hst : st < 4) (horph : orph < 2) (howner : owner < 1024) :
    bitsOf (lockWord st orph owner).toNat 31 30 = st := by
  rw [lockWord, bitsOf_word _ _ _ (by decide), bitsOf, Nat.shiftRight_eq_div_pow]
  omega

/-! ### The table of R171, row by row -/

section
variable {w : Word} {src : Nat}

theorem lockNext_acquire_free (h : bitsOf w.toNat 31 30 = 0) : lockNext w 1 src = some (lockWord 1 0 src) := by
  simp [lockNext, lockWord, h]

theorem lockNext_acquire_orphaned (h : bitsOf w.toNat 31 30 = 2) : lockNext w 1 src = some (lockWord 1 1 src) := by
  simp [lockNext, lockWord, h]

theorem lockNext_acquire_held (h : bitsOf w.toNat 31 30 = 1) : lockNext w 1 src = some w := by
  simp [lockNext, h]

theorem lockNext_release_assayer (h : isAssayerId src = true) :
    lockNext w 2 src = some (lockWord 0 0 (bitsOf w.toNat 9 0)) := by
  simp [lockNext, lockWord, h]

theorem lockNext_clrorph_owner (h : bitsOf w.toNat 31 30 = 1 ∧ bitsOf w.toNat 9 0 = src) :
    lockNext w 3 src = some (lockWord 1 0 src) := by
  simp [lockNext, lockWord, h]

theorem lockNext_clrorph_refused (h : ¬(bitsOf w.toNat 31 30 = 1 ∧ bitsOf w.toNat 9 0 = src)) :
    lockNext w 3 src = none := by
  simp [lockNext, h]

section
variable (other : ¬isAssayerId src = true)
include other

theorem lockNext_release_owner (h : bitsOf w.toNat 31 30 = 1 ∧ bitsOf w.toNat 9 0 = src) (ho : bitsOf w.toNat 29 29 = 0) :
    lockNext w 2 src = some (lockWord 0 0 (bitsOf w.toNat 9 0)) := by
  simp [lockNext, lockWord, other, h, ho]

theorem lockNext_release_owner_orphaned (h : bitsOf w.toNat 31 30 = 1 ∧ bitsOf w.toNat 9 0 = src)
    (ho : bitsOf w.toNat 29 29 = 1) : lockNext w 2 src = some (lockWord 2 1 (bitsOf w.toNat 9 0)) := by
  simp [lockNext, lockWord, other, h, ho]

theorem lockNext_release_refused (h : ¬(bitsOf w.toNat 31 30 = 1 ∧ bitsOf w.toNat 9 0 = src)) :
    lockNext w 2 src = none := by
  simp [lockNext, other, h]
end
end

/-! ### What a lock command does to the state -/

/-- From `s` to `u` the lock took this state, owner and orphan flag, and no other register changed. -/
def LockBecomes (s u : State) (r n st owner orph : Nat) : Prop :=
  getF u (pgRMEM r) (RMEM.LOCK_STATE n) = st ∧ getF u (pgRMEM r) (RMEM.LOCK_OWNER n) = owner ∧
  getF u (pgRMEM r) (RMEM.LOCK_ORPH n) = orph ∧ OnlyRegs s u [regKey (pgRMEM r) (RMEM.LOCK_STATE n).off]

/-- From `s` to `u` a lock command was refused at page `p`: counted, and reported when `EVT_EN` bit 2 is set (R171). -/
def LockRefused (s u : State) (p : Nat) : Prop :=
  Counted s u p ∧ (bitOf (getF s p HDR.EVT_EN) 2 = true → Reported s u p 0x37 0) ∧
  (bitOf (getF s p HDR.EVT_EN) 2 = false → Silent s u) ∧ OnlyRegsEvents s u [regKey p HDR.ERR_COUNT.off]

/-- Counting and then raising the optional event is a refusal at any page below the tile pages. -/
theorem raiseOpt_errCount_refused (s : State) {p : Nat} (hp : p < 0x400) :
    LockRefused s (raiseOpt (errCount s p) p 2 0x37 0) p := by
  have only := raiseOpt_only (errCount s p) p 2 0x37 0
  have enabled : getF (errCount s p) p HDR.EVT_EN = getF s p HDR.EVT_EN := getF_setF_of_ne _ (by simp [HDR.EVT_EN, HDR.ERR_COUNT])
  have notLost : regKey p HDR.ERR_COUNT.off ∉ [regKey pgDEVT DEVT.LOST.off] := by
    simp only [regKey, pgDEVT, HDR.ERR_COUNT, DEVT.LOST, List.mem_singleton]
    omega
  refine ⟨?counted, fun on => ?reported, fun off => ?silent, onlyRegsEvents_after_regs (setF_only ..) only⟩
  case counted => exact (getF_of_regsBut only.2 notLost).trans (errCount_counted s p)
  case reported =>
    intro alive room
    have reported := pushEvent_reported (errCount s p) hp (code := 0x37) (bit := 2) (by decide) (by decide) false 0 alive room
    rw [shownPage_of_lt _ hp] at reported ⊢
    rwa [raiseOpt, enabled, if_pos on]
  case silent =>
    rw [raiseOpt, enabled, if_neg (by simp [off])]
    exact ⟨rfl, rfl⟩

section
variable {s : State} {r n cmd src : Nat} (hcmd : cmd ≠ 0)
include hcmd

theorem lockCmd_of_some {w : Word} (h : lockNext (regAt s (pgRMEM r) (RMEM.LOCK_STATE n).off) cmd src = some w) :
    lockCmd s r n cmd src = setRegAt s (pgRMEM r) (RMEM.LOCK_STATE n).off w := by
  simp [lockCmd, hcmd, h]

theorem lockCmd_of_none (h : lockNext (regAt s (pgRMEM r) (RMEM.LOCK_STATE n).off) cmd src = none) :
    lockCmd s r n cmd src = raiseOpt (errCount s (pgRMEM r)) (pgRMEM r) 2 0x37 0 := by
  simp [lockCmd, hcmd, h]

/-- A command that is not refused gives the lock the fields of its new word. -/
theorem lockCmd_becomes_fields {w : Word} (h : lockNext (regAt s (pgRMEM r) (RMEM.LOCK_STATE n).off) cmd src = some w) :
    LockBecomes s (lockCmd s r n cmd src) r n (bitsOf w.toNat 31 30) (bitsOf w.toNat 9 0) (bitsOf w.toNat 29 29) := by
  rw [lockCmd_of_some hcmd h]
  exact ⟨getF_setRegAt s _ (RMEM.LOCK_STATE n) w, getF_setRegAt s _ (RMEM.LOCK_OWNER n) w,
    getF_setRegAt s _ (RMEM.LOCK_ORPH n) w, setRegAt_only ..⟩

theorem lockCmd_becomes {st orph owner : Nat} (hst : st < 4) (horph : orph < 2) (howner : owner < 1024)
    (h : lockNext (regAt s (pgRMEM r) (RMEM.LOCK_STATE n).off) cmd src = some (lockWord st orph owner)) :
    LockBecomes s (lockCmd s r n cmd src) r n st owner orph := by
  have fields := lockCmd_becomes_fields hcmd h
  rwa [lockWord_state hst horph howner, lockWord_owner _ _ howner, lockWord_orph _ horph howner] at fields

/-- A refused command counts at the region's page, and is reported there when its event is enabled. -/
theorem lockCmd_refused (hr : r < 16) (h : lockNext (regAt s (pgRMEM r) (RMEM.LOCK_STATE n).off) cmd src = none) :
    LockRefused s (lockCmd s r n cmd src) (pgRMEM r) := by
  rw [lockCmd_of_none hcmd h]
  exact raiseOpt_errCount_refused s (by simp only [pgRMEM]; omega)
end

/-! ### The three commands -/

section
variable {s : State} {r : RegN} {n : Fin 32} {src : BitVec 10} {post : State → Prop} (hopen : OpenTo s src.toNat (pgRMEM r.val))
include hopen

theorem ends_acquire (h : post (lockCmd s r.val n.val 1 src.toNat)) : Ends (.acquire r n src) s post :=
  ⟨_, rfl, by rwa [regCmd_open hopen]⟩

theorem ends_release (h : post (lockCmd s r.val n.val 2 src.toNat)) : Ends (.release r n src) s post :=
  ⟨_, rfl, by rwa [regCmd_open hopen]⟩

theorem ends_clrorph (h : post (lockCmd s r.val n.val 3 src.toNat)) : Ends (.clrorph r n src) s post :=
  ⟨_, rfl, by rwa [regCmd_open hopen]⟩
end

/-- Settles O23: each clause is a row of the table of R171, read from the lock's word. -/
theorem locks : Obligations.Locks := by
  unfold Obligations.Locks
  intro s r n src p key st orph mine held left refused assayer hopen
  have ownerFits : getF s p (RMEM.LOCK_OWNER n.val) < 1024 := Nat.mod_lt _ (Nat.two_pow_pos 10)
  refine ⟨fun free => ends_acquire hopen ?_, fun orphaned => ends_acquire hopen ?_, fun taken => ends_acquire hopen ?_,
    fun isAssayer => ends_release hopen ?_, fun other isMine clear => ends_release hopen ?_,
    fun other isMine warns => ends_release hopen ?_, fun other notMine => ends_release hopen ?_,
    fun isMine => ends_clrorph hopen ?_, fun notMine => ends_clrorph hopen ?_⟩
  · exact lockCmd_becomes (by decide) (by decide) (by decide) src.isLt (lockNext_acquire_free free)
  · exact lockCmd_becomes (by decide) (by decide) (by decide) src.isLt (lockNext_acquire_orphaned orphaned)
  · exact lockCmd_becomes_fields (by decide) (lockNext_acquire_held taken)
  · exact lockCmd_becomes (by decide) (by decide) (by decide) ownerFits (lockNext_release_assayer isAssayer)
  · exact lockCmd_becomes (by decide) (by decide) (by decide) ownerFits (lockNext_release_owner other isMine clear)
  · exact lockCmd_becomes (by decide) (by decide) (by decide) ownerFits (lockNext_release_owner_orphaned other isMine warns)
  · exact lockCmd_refused (by decide) r.isLt (lockNext_release_refused other notMine)
  · exact lockCmd_becomes (by decide) (by decide) (by decide) src.isLt (lockNext_clrorph_owner isMine)
  · exact lockCmd_refused (by decide) r.isLt (lockNext_clrorph_refused notMine)

end Sys2Proof.Machine
